-- ==== Sys2Proof/Word.lean ====
section
/-!
DEFINITION. The plainest words and bit fields of the Celori complex: a register word, a byte, a field of a number,
two's complement, saturation (R14).
-/
namespace Sys2Proof

/-- A register or packet word as software sees it. -/
abbrev Word := BitVec 64

/-- One byte of a frame, a packet or a buffer. -/
abbrev Byte := BitVec 8

end Sys2Proof
end

