-- ==== Sys2Proof/Syntax.lean ====
section
/-!
DEFINITION. The commands of the Celori complex.
-/
namespace Sys2Proof

/-- A character of the 64b/66b block coding (R105): a byte, idle, start, terminate, error, or the ordered set that
signals remote fault (R110). -/
inductive Oct where
  | data (b : Byte) | idle | start | term | error | remote
  deriving DecidableEq, Repr

/-- What a port's transmit directions drive: electrical idle; on the first lane the Clause 73 pages (the width code of
the 200 Gb/s per lane ability, RS-FEC, pause, NP, and the marker next page of Table 31, R85); Celori training frames or
those of IEEE 802.3 (R88, R92); roster frames (R95); the coding layer; or the slots of attention words (R57, R58). -/
inductive LaneDrive where
  | idle
  | pages (width : Nat) (rsFec pause np : Bool) (marker : Nat)
  | training (ieee : Bool)
  | roster
  | coding
  | attention (slots : List Bool)
  deriving DecidableEq, Repr

/-- A 16-byte segment of a body stream (R20 to R22, Table 20): the DCLK cycle after the frame's first, the segment
position in the bank path (0 to 63; of a recirculation port its own 0 to 7), the slice, SOF, EOF, BYTES of the last
(0 meaning 16) and the bytes. -/
structure Segment where
  cycle : Nat
  position : Nat
  slice : Nat
  sof : Bool
  eof : Bool
  bytes : Nat
  data : List Byte
  deriving DecidableEq, Repr

/-- What the complex drives across its boundary (Table 20): interrupt messages, the drive of a port's lanes, the PAM4
levels a lane sends in one codeword, training frame or stretch of a pattern, the responses a lane gives an IEEE training
partner, the blocks of an IEEE port, a lane's pins put to idle by a loopback or taken from it, the head, body and tail
of a received frame to a slice of a bank (no bank for a recirculation port), a control or data frame on the wire with
the gap after it, a frame ended with an error block, requests to the core, the presentation of layout and partner
bindings, frames to and from the host, host-memory writes (with the ordering cleared of relaxation where `ordered`) and
reads (bridge tag, address, bytes), fences, read data of a register access, Kiland replies, flash erasure. -/
inductive Output where
  | message (mgmt : Bool) (bridge addr word : Nat)
  | lanes (port : Nat) (what : LaneDrive)
  | symbols (lane : Nat) (levels : List Nat)
  | ieeeTraining (lane preSts postSts : Nat) (ready : Bool)
  | ieeeBlocks (port : Nat) (blocks : List Nat)
  | pins (lane : Nat) (live : Bool)
  | invertBit (lane : Nat)
  | head (slice word : Nat) (bytes : List Byte)
  | body (bank : Option Nat) (segs : List Segment)
  | tail (slice word : Nat)
  | frame (port : Nat) (bytes : List Byte) (gap : Nat)
  | errorBlock (port : Nat)
  | request (port cls : Nat) (partner : Option Nat) (discard : Bool)
  | layout (eight value : Nat)
  | binding (partner : Nat) (dest : Option (Nat × Nat))
  | hostFrame (word : Nat) (bytes : List Byte)
  | hostWrite (bridge addr : Nat) (bytes : List Byte) (ordered : Bool)
  | hostRead (bridge addr len : Nat)
  | fence (function : Nat)
  | readData (offset data : Nat)
  | reply (issuer : Nat) (words : List Nat)
  | flashErase (copy : Nat)
  deriving DecidableEq, Repr

/-- What arrives at a comma position of a lane: a comma block of the NATIVE profile (words W0, W2 and W3, the blocks the
lane has received since its previous comma, the arrival in DCLK periods, and the codewords since its last expected
position), or the state of the alignment markers of the IEEE profile, coded as COMMA_STATE, with the remote fault level
(R64, R65). -/
inductive CommaRx where
  | native (w0 w2 w3 : Nat) (blocks : List Nat) (arrival after : Nat)
  | ieee (state : Nat) (remoteOk : Bool) (arrival : Nat)
  deriving DecidableEq, Repr

/-- A block of a received codeword after correction, deskew, descrambling and transcoding: a comma block or alignment
marker, or its 32 characters (R69). -/
inductive RxBlk where
  | comma
  | octs (l : List Oct)
  deriving DecidableEq, Repr

/-- A received codeword (R62, R69): whether it is uncorrectable, and its blocks. -/
structure CodewordRx where
  bad : Bool
  blocks : List RxBlk
  deriving DecidableEq, Repr

/-- The slices' ready levels as a release finds them, and whether the port has waited 64 DCLK cycles for its slice
(R23). -/
structure SliceLevels where
  ready : Nat
  waited : Bool
  deriving DecidableEq, Repr

/-- Bits a lane's pattern checker receives (R75). -/
structure PatternRx where
  lane : Nat
  bits : List Bool
  deriving DecidableEq, Repr

/-- A training frame received on a lane: the 128-bit frame word of Table 33, or an IEEE 802.3 training frame with its
requests for c(−1) and c(+1) (0 hold, 1 increment, 2 decrement), a request for another tap, a preset (0 none, 1 no
equalisation, 2 any other), receiver ready and the precoding it asks for. -/
inductive TrainRx where
  | celori (word : Nat)
  | ieee (preReq postReq : Nat) (otherTap : Bool) (preset : Nat) (ready precode : Bool)
  deriving DecidableEq, Repr

/-- A received frame at its head decision (R114): whether the six preamble bytes and the delimiter are right, its first
64 bytes, whether it ends there, whether an error block lies within them, and the lane and the ROOTCLK periods since the
last TCLK tick that give its arrival (R195, R196). -/
structure HeadRx where
  port : Nat
  preOk : Bool
  sfdOk : Bool
  bytes : List Byte
  whole : Bool
  error : Bool
  lane : Nat
  periods : Nat
  deriving DecidableEq, Repr

/-- The end of a received frame: the bytes after the first 64, or all of a frame shorter than that with its preamble
checks, and whether it ended with an error block. -/
structure EndRx where
  port : Nat
  preOk : Bool
  sfdOk : Bool
  bytes : List Byte
  error : Bool
  deriving DecidableEq, Repr

/-- A delivered frame at its start on the wire (R125): transmit metadata (Table 43), the bytes delivered so far, and the
lane and ROOTCLK periods that give its departure. -/
structure StartTx where
  port : Nat
  md : Nat
  bytes : List Byte
  lane : Nat
  periods : Nat
  deriving DecidableEq, Repr

/-- A descriptor as a FRONT notice of the core gives it (Table 56): length, whether the frame keeps its FCS, whether a
trailer goes in and of which profile, and its time of entry in nanoseconds. -/
structure FrontRx where
  len : Nat
  fcsKeep : Bool
  trailerEn : Bool
  prof : Nat
  enqNs : Nat
  deriving DecidableEq, Repr

/-- A frame for the host as the core hands it over (R261): source port, tag, arrival time and whether it is valid,
verdict, whether the FCS is kept, length mismatch, trailer outcome, bytes. -/
structure HostRxIn where
  port : Nat
  tag : Nat
  sec : Nat
  ns : Nat
  frac : Nat
  tsValid : Bool
  verdict : Nat
  keep : Bool
  lenMis : Bool
  trailer : Nat
  bytes : List Byte
  deriving DecidableEq, Repr

/-- The parameter registers of a software proof engine (Table 71). -/
inductive EngReg where
  | cfg | poly | init | xorout
  deriving DecidableEq, Repr

/-- The shapers a refill interval serves (Table 59): those of a port and its classes, or that of a partner. -/
inductive ShaperSel where
  | port (p : Nat) | partner (q : Nat)
  deriving DecidableEq, Repr

/-- A Kiland command packet (Table 100) as its issuer sends it (0 to 63 a host function, 64 the mailbox): SEQ, PLEN, the
flags, whether any reserved header bit is set, TARGET, and the parameter words. Its OPCODE is the command's. -/
structure Pkt where
  issuer : Nat
  seq : Nat
  plen : Nat
  dryRun : Bool
  clear : Bool
  rsv : Bool
  target : Nat
  words : List Nat
  deriving DecidableEq, Repr

/-- Parameter word `i` of a packet, 0 beyond its words. -/
def Pkt.word (p : Pkt) (i : Nat) : Nat := (p.words[i]?).getD 0 % 2 ^ 64

/-- Who accesses the register window (R43, R382): the host bridge, the management processor, the side path. -/
inductive Agent where
  | host | mgmt | side
  deriving DecidableEq, Repr

/-- The reset scopes of Table 19 below the complex. -/
inductive Machine.Scope where
  | bank (b : Nat) | eight (e : Nat) | port (p : Nat)
  deriving DecidableEq, Repr

/-- The commands, one constructor per row of the opcode table, in its order. A Kiland command carries its packet. -/
inductive Instr where
  /-- R312: Query returning protocol version, issuer, state, mode, firmware version, serial, largest PLEN, image generation and configuration source. -/
  | sessionInfo (p : Pkt)
  /-- R312: Query returning CMP_STATUS. -/
  | stateGet (p : Pkt)
  /-- R310: Replies OK, unless a narrower reset is in progress, and schedules a complex reset 10 µs later. -/
  | cpxReset (p : Pkt)
  /-- R360: Complex reset begins 10 µs after CPX_RESET (or on lock-up release or boot retry); start-up restarts from step 2. -/
  | complexReset
  /-- R36: Starts a reset of one bank's two domains and its eights, keeping configuration. -/
  | bankReset (p : Pkt)
  /-- R36: Starts a reset of one eight's lanes, transmit PLL, coding layer and port MACs. -/
  | eightReset (p : Pkt)
  /-- R37: Starts a port reset: frames in progress end, stored galley frames are discarded, timers clear and cox state resets. -/
  | portReset (p : Pkt)
  /-- R372: A bank, eight or port reset completes within its Table 19 time, leaving state as Table 132 gives, and replies to absorbed requests. -/
  | resetComplete (scope : Machine.Scope)
  /-- R332: Builds the combined configuration for the target mode, admits it and carries out the mode switch of Table 116, or refuses with no change. -/
  | modeSet (p : Pkt)
  /-- R332: After wakes complete when ECONOMY is left, the mode switch commits in one MCLK cycle, switches domains off and replies. -/
  | modeSwitchCommit
  /-- R324: On entry to READY the compositor switches to the image's START_MODE without an issuer; a refusal leaves the complex READY and records START_REFUSED. -/
  | startModeSwitch
  /-- R329: Query returning CMP_IMG_STATUS and the GEN and INFO registers of both copies. -/
  | imageInfo (p : Pkt)
  /-- R325: Opens an image write session for the issuer and erases the copy's flash region. -/
  | imageWriteBegin (p : Pkt)
  /-- R326: Writes the next block of image bytes in order and advances NEXT_OFFSET. -/
  | imageWriteData (p : Pkt)
  /-- R327: Checks the written copy and writes its header only if the result is PASS, then ends the session. -/
  | imageWriteEnd (p : Pkt)
  /-- R329: Returns LENGTH bytes of a copy from flash. -/
  | imageRead (p : Pkt)
  /-- R328: Ends the issuer's write session and leaves the copy EMPTY. -/
  | imageAbort (p : Pkt)
  /-- R306: A command that released the compositor for a hardware wait (flash operation, reset, EASY entry) replies when the wait ends. -/
  | commandWaitEnd (issuer : Nat)
  /-- R273: A command whose CMD_LEN is outside 32 to 8192 is answered RANGE without its packet being read. -/
  | kilLen (issuer : Nat)
  /-- R304: A packet that fails the CRC, VERSION or opcode checks is refused with CHECK or UNKNOWN and no side effect. -/
  | commandPacketRefused (issuer : Nat) (bytes : List Byte)
  /-- R104: Sets ENABLE, clears FAILS and takes the port through the quiet period to DETECT from any state. -/
  | laneLaunch (p : Pkt)
  /-- R104: Clears ENABLE and takes the port to OFF with transmitters idle. -/
  | laneStop (p : Pkt)
  /-- R98: Starts transmit EASY entry for an ACTIVE NATIVE port in ECONOMY. -/
  | laneEasy (p : Pkt)
  /-- R101: Cancels an EASY entry in progress or wakes an EASY transmit direction: starts the PLL and sends attention words. -/
  | laneWake (p : Pkt)
  /-- R104: Writes LN_LAUNCH_CTL of the port's first lane. -/
  | laneLaunchCfg (p : Pkt)
  /-- R53: Writes the configured transmit FIR and receive filter values. -/
  | laneEqSet (p : Pkt)
  /-- R45: Writes the polarity bits of an OFF lane. -/
  | lanePolarity (p : Pkt)
  /-- R77: Writes the pattern generator, checker and loopback fields in PROOF mode. -/
  | lanePattern (p : Pkt)
  /-- R104: Query returning the local and partner roster words and the lane launch status. -/
  | laneRosterGet (p : Pkt)
  /-- R17: Commits an eight's port layout, presenting it to the core and disabling or keeping bound partner contexts and heat lists. -/
  | portLayout (p : Pkt)
  /-- R132: Writes MAC_PORT_CFG, subject to galley and gate admission. -/
  | portMacCfg (p : Pkt)
  /-- R132: Writes MAC_PORT_SA. -/
  | portSaSet (p : Pkt)
  /-- R25: Writes SLICE_EN of a bank or of the recirculation ports. -/
  | portDeal (p : Pkt)
  /-- R132: Query returning MAC_PORT_STATUS and the MAC counters, optionally cleared. -/
  | portCountersGet (p : Pkt)
  /-- R151: Writes GAL_FC_CFG and updates the derived headroom and thresholds at commit. -/
  | galPortCfg (p : Pkt)
  /-- R152: Writes a class's flow-control mode, quota and thresholds, subject to admission. -/
  | galClassCfg (p : Pkt)
  /-- R153: Writes the receive priority map and egress class priorities and re-forms priority XOFF states. -/
  | galMap (p : Pkt)
  /-- R156: Query returning headroom computed with optional substitute values and the extents a class would need. -/
  | galHeadroom (p : Pkt)
  /-- R156: Query returning GAL_STATUS, GAL_EXT and all channel status. -/
  | galStatusGet (p : Pkt)
  /-- R143: Writes GAL_SCRUB and GAL_CTL. -/
  | galScrubCfg (p : Pkt)
  /-- R155: Discards the stored frames of one class or of every class of a port. -/
  | galFlush (p : Pkt)
  /-- R156: Query returning the galley port counters and class status, optionally cleared. -/
  | galCountersGet (p : Pkt)
  /-- R173: Writes a port shaper's rate and burst. -/
  | coxPortShape (p : Pkt)
  /-- R170: Writes a class's kind, weights, telemetry, shaper and guarantee. -/
  | coxClassCfg (p : Pkt)
  /-- R174: Writes a partner context and presents its binding to the core. -/
  | ptnSet (p : Pkt)
  /-- R179: Writes a partner's policer fields. -/
  | ptnPolice (p : Pkt)
  /-- R182: Writes the telemetry configuration. -/
  | coxTelem (p : Pkt)
  /-- R185: Query returning a class's or partner's counters and status. -/
  | coxCountersGet (p : Pkt)
  /-- R180: Query returning COX_PORT_GUAR and each class's weight share. -/
  | coxGuarQuery (p : Pkt)
  /-- R192: Command that requests a timebase step by SET or ADD. -/
  | timStep (p : Pkt)
  /-- R191: Writes the timebase frequency adjust. -/
  | timFreq (p : Pkt)
  /-- R193: Starts a timebase slew. -/
  | timSlew (p : Pkt)
  /-- R194: Query returning a timebase snapshot taken into the compositor's own latch, with TIM_STATUS and TIM_SLEW_CTL. -/
  | timGet (p : Pkt)
  /-- R197: Writes a lane's user latency offsets. -/
  | timLaneLat (p : Pkt)
  /-- R201: Writes a port's STAMP_EN and STAMP_FUNC. -/
  | timPortCfg (p : Pkt)
  /-- R214: Writes a class's SCHED and MAX_LEN, subject to gate admission. -/
  | gateClassCfg (p : Pkt)
  /-- R208: Writes a port's HOLD_GATES. -/
  | gatePortCfg (p : Pkt)
  /-- R204: Writes heat-list entries into the staging slot, allocating and compacting the store as needed. -/
  | gateListLoad (p : Pkt)
  /-- R205: Admits the staging list and makes it pending with switch instant S. -/
  | gateListCommit (p : Pkt)
  /-- R208: Makes a stop pending at the next cycle boundary, after which the port goes to HOLD or NONE. -/
  | gateStop (p : Pkt)
  /-- R219: Query returning gate and stamp counters and status. -/
  | gateCountersGet (p : Pkt)
  /-- R189: Writes TIM_CTL to stop or resume the timebase. -/
  | timEnable (p : Pkt)
  /-- R238: Writes a trailer profile that no enabled receive stream names. -/
  | prfProfileSet (p : Pkt)
  /-- R231: Writes a partner's receive stream entry. -/
  | prfStreamSet (p : Pkt)
  /-- R235: Returns one sequence record, or all of them, to FRESH. -/
  | prfRecReset (p : Pkt)
  /-- R239: Writes a port and profile's GEN alive counter. -/
  | prfTxAliveSet (p : Pkt)
  /-- R240: Query returning a record's status, counters and disagreement latch. -/
  | prfStatusGet (p : Pkt)
  /-- R244: Enables or disables a host function and sets its bridge tag. -/
  | hpeFnCfg (p : Pkt)
  /-- R244: Assigns a STOPPED queue to a function or releases it. -/
  | hpeQueueAssign (p : Pkt)
  /-- R277: Writes a ring block's configuration. -/
  | hpeQueueCfg (p : Pkt)
  /-- R245: Moves a STOPPED ring to RUNNING at a start index and reads its index line. -/
  | hpeQueueStart (p : Pkt)
  /-- R275: Starts a function reset. -/
  | hpeFnReset (p : Pkt)
  /-- R277: Query returning a ring or function block with its counters. -/
  | hpeStatusGet (p : Pkt)
  /-- R284: Writes the vector and enable of a range of sources. -/
  | evcSrcCfg (p : Pkt)
  /-- R296: Writes a vector's priority, target set, route and coalescing. -/
  | evcVecCfg (p : Pkt)
  /-- R294: Writes a target; disabling it returns its SENT vectors to READY and ends its ACTIVE vectors. -/
  | evcTgtCfg (p : Pkt)
  /-- R287: Writes a target set's mask, keeping its round-robin pointer. -/
  | evcTsetSet (p : Pkt)
  /-- R282: Writes the sideband glitch filter lengths. -/
  | evcSbCfg (p : Pkt)
  /-- R296: Query returning a vector's or target's status, cause and counters. -/
  | evcStatusGet (p : Pkt)
  /-- R357: Query returning the first-fault record, desk status and counters. -/
  | fltStatusGet (p : Pkt)
  /-- R347: Acknowledges the first-fault record and releases a SAFE hold. -/
  | fltAck (p : Pkt)
  /-- R341: Writes a fault class's reaction bytes. -/
  | fltReactionSet (p : Pkt)
  /-- R357: Writes the SAFE quiet period and recovery cap. -/
  | fltSafeCfg (p : Pkt)
  /-- R357: Raises a named fault source at a given severity, marked INJECTED, with every reaction applying. -/
  | fltInject (p : Pkt)
  /-- R355: Writes the lock-up configuration. -/
  | lckCfg (p : Pkt)
  /-- R351: Replies and schedules lock-up with cause COMMAND 10 µs later, if CMD_EN is 1. -/
  | lckTrigger (p : Pkt)
  /-- R356: Returns bytes of a VALID impression. -/
  | lckImpressionRead (p : Pkt)
  /-- R356: Sets the impression's VALID to 0. -/
  | lckImpressionClear (p : Pkt)
  /-- R307: Orders the function's later host-memory writes after its earlier ones. -/
  | fence (p : Pkt)
  /-- R308: Takes no further command until every earlier command has replied, then replies. -/
  | barrier (p : Pkt)
  /-- R389: A write to a register with no row of its own, acting field by field under R9 and the access types. -/
  | registerWrite (agent : Agent) (offset size data : Nat)
  /-- R30: A read of an RC field returns its value and clears it, subtracting the mirrored value from an eight-domain source. -/
  | rcRead (agent : Agent) (offset size : Nat)
  /-- R377: A register access of bad width or alignment returns 0, is ignored and is latched and counted. -/
  | accessError (agent : Agent) (offset size : Nat) (write : Bool)
  /-- R384: A direct write of power-domain requests is carried out bit by bit where allowed and otherwise reverted and logged. -/
  | cpxPdCtlWrite (value : Nat)
  /-- R313: A GO write submits the mailbox packet, is held in POWERED or ignored while HELD or BUSY. -/
  | mboxGo (len : Nat)
  /-- R250: A doorbell write makes the engine read the named ring's index line, or is ignored as a bad doorbell. -/
  | doorbell (function word : Nat)
  /-- R269: A doorbell with FENCE = 1 orders the function's later host-memory writes after its earlier ones. -/
  | doorbellFence (function kind queue : Nat)
  /-- R275: A write of RESET in a doorbell page starts a function reset. -/
  | hpePageReset (function : Nat)
  /-- R275: The host bridge signals a function-level reset, which starts a function reset. -/
  | functionLevelReset (function : Nat)
  /-- R275: A function reset completes: its rings go STOPPED with frozen indices, and RESET_DONE and the reset-done event are raised. -/
  | functionResetDone (f : Nat)
  /-- R192: A write of TIM_STEP_CTL.GO requests a step at the next TCLK tick, or sets STEP_ERR for bad nanoseconds. -/
  | stepGo (add neg : Bool)
  /-- R210: At the TCLK tick the step is applied: STEP_COUNT increments, slew clears and heat lists restart in HOLD. -/
  | timebaseStep
  /-- R193: A write of TIM_SLEW_CTL.GO loads the remaining slew. -/
  | slewGo
  /-- R193: The remaining slew reaches 0 and ACTIVE clears. -/
  | slewDone
  /-- R194: A write of TIM_SNAP.GO latches the timebase and sets READY. -/
  | snapGo
  /-- R223: A write of engine parameters enters the engine FIFO. -/
  | prfEngCfg (engine : Nat) (reg : EngReg) (value : Nat)
  /-- R223: A PRF_ENG_CFG entry with PRESET 1 or 2 loads the CRC-32 or CRC-32C parameters. -/
  | preset (engine value : Nat) (castagnoli : Bool)
  /-- R223: A write of PRF_ENG_CTL.START enters the FIFO and loads INIT into the state. -/
  | start (engine : Nat)
  /-- R223: One byte is fed to the engine through its FIFO. -/
  | prfEngFeedB (engine data : Nat)
  /-- R223: Two bytes are fed to the engine, low byte first. -/
  | prfEngFeedH (engine data : Nat)
  /-- R223: Four bytes are fed to the engine in memory byte order. -/
  | prfEngFeedW (engine data : Nat)
  /-- R223: The engine carries out the next FIFO entry, taking its cost in MCLK cycles. -/
  | engineFifoEntry (engine : Nat)
  /-- R224: A read of the engine state or result is held until the FIFO is empty and then returns it. -/
  | prfEngResultRead (engine : Nat) (result : Bool)
  /-- R75: A write of LN_PAT_CTL.INJECT inverts one generated pattern bit. -/
  | inject (lane : Nat)
  /-- R286: Fires a source by software, or is ignored and counted for a reserved or disabled source. -/
  | evcPendSet (source : Nat)
  /-- R286: Clears the pending events of a source where allowed. -/
  | evcPendClr (source : Nat)
  /-- R289: A claim read takes the highest eligible SENT vector's lowest pending source and moves the vector to ACTIVE. -/
  | evcTgtClaim (target : Nat)
  /-- R291: An EOI write ends a vector's service, detects a vanish and re-presents held vectors. -/
  | evcTgtEoi (target vector : Nat) (idle : Bool)
  /-- R293: A write of MASK stops or allows routing of a vector. -/
  | evcVecMask (vector : Nat) (mask : Bool)
  /-- R347: A write of 1 to FLT_REC_STATUS.ACKED acknowledges the record. -/
  | ackedWrite
  /-- R351: LCK_SIDE_CTL.TRIGGER over the side path starts lock-up with cause SIDE when SIDE_EN is 1. -/
  | lckSideTrigger
  /-- R355: LCK_SIDE_CTL.RELEASE requests release from lock-up. -/
  | lckSideRelease
  /-- R356: LCK_SIDE_CTL.CLEAR sets the impression's VALID to 0. -/
  | lckSideClear
  /-- R351: The IMPR instrument's TRIGGER starts lock-up with cause TAP when TAP_EN is 1. -/
  | imprTrigger
  /-- R355: The IMPR instrument's RELEASE requests release from lock-up. -/
  | imprRelease
  /-- R356: The IMPR instrument's CLEAR sets the impression's VALID to 0. -/
  | imprClear
  /-- R354: A capture of IMPR_DATA returns the impression word at IMPR_ADDR and increments IMPR_ADDR. -/
  | imprData (addr : Option Nat)
  /-- R360: The island's supply and CHIP_REF become stable: ACLK runs and start-up begins with the complex POWERED. -/
  | islandPowerOn
  /-- R360: A P9 chip reset runs a complex reset from step 2 and clears the boot-retry state. -/
  | p9ChipReset
  /-- R388: Loss of CHIP_REF stops every clock, with no fault or reaction and undefined behaviour until a chip reset. -/
  | chipRefLoss
  /-- R27: The core PLL locks: core clocks run, domain 34 leaves reset and the timebase starts. -/
  | pllLock
  /-- R27: Loss of core PLL lock raises a FATAL complex-level fault. -/
  | pllUnlock
  /-- R360: The compositor finishes booting from ROM and the complex enters IMAGE_LOAD, taking any held mailbox GO. -/
  | compositorBoot
  /-- R362: IMAGE_LOAD is not reached 60 ms after step 3: a retry runs from step 2, or after three the complex is held in POWERED. -/
  | bootRetry
  /-- R321: Copy checking and trying ends with one copy in use or the factory defaults standing. -/
  | imageLoadComplete (failA failB : Option Nat)
  /-- R365: Galley channel training ends, setting TRAINED or marking failed channels. -/
  | galleyTrainingDone (failed : Nat)
  /-- R366: Every cell has been written, CLEARED is set and SERVICE and IN_SERVICE become 1. -/
  | galleyClearDone
  /-- R360: With galley and bank power-up complete the complex enters READY, starts enabled ports and carries out held SAFE reactions. -/
  | readyEntry (ms : Nat)
  /-- R340: The compositor firmware reports a heartbeat to the island. -/
  | fwHeartbeat
  /-- R340: No heartbeat for 10 ms raises the FATAL FW_WATCHDOG fault. -/
  | fwWatchdog
  /-- R35: A power domain completes power-up, and requests and launches waiting for it proceed. -/
  | domainOn (k : Nat)
  /-- R35: A draining power domain reaches OFF, and a waiting power-up starts. -/
  | domainOff (k : Nat)
  /-- R340: A bank domain that does not reach ON in 50 µs or OFF in 20 µs raises a SERIOUS bank fault. -/
  | bankPower (k : Nat)
  /-- R369: The compositor switches a bank domain off after its off condition has held for 1 ms. -/
  | domainIdleOff (k : Nat)
  /-- R31: Each 1 ms REF_OCT count window ends, setting or clearing REF_OK; a fall takes the eight's lanes OFF, and 3 good windows restart them. -/
  | refWindowEnd (eight count : Nat)
  /-- R48: An eight's transmit PLL achieves lock and waiting ports restart. -/
  | txPllLocked (eight : Nat)
  /-- R49: An eight's transmit PLL loses lock: transmitters idle, ports return to DETECT as interruptions and a DEGRADED fault is recorded. -/
  | txPllUnlock (eight : Nat)
  /-- R46: Receive input falls below threshold: LOS asserts, and the port returns to DETECT or enters receive EASY if armed. -/
  | losAssert (lane : Nat)
  /-- R46: Receive input has stayed above the deassert threshold for 1 µs and LOS deasserts. -/
  | losDeassert (lane : Nat)
  /-- R46: The receive CDR locks and comma search can begin. -/
  | cdrLock (lane : Nat)
  /-- R46: The receive CDR loses lock: LN_CDR_UNLOCK increments and the port returns to DETECT. -/
  | cdrUnlock (lane : Nat)
  /-- R71: The 1 ms receive frequency measurement updates RX_PPM and sets PPM_RANGE beyond 200 ppm. -/
  | rxPpmUpdate (lane ppm : Nat)
  /-- R60: The island decodes two attention words: the detector disarms, the compositor wakes and the receive direction is brought out of EASY. -/
  | attentionDeclared (lane : Nat) (runs : List (Bool × Nat))
  /-- R101: The last attention word has been sent: SENT is set and the coding layer starts sending filler and commas. -/
  | attnSendDone (port : Nat)
  /-- R101: WAKE_WAIT elapses and the cox resumes requesting frames when the local receive is EASY. -/
  | wakeWaitExpiry (port : Nat)
  /-- R81: The 2 ms quiet period ends and the DETECT attempt timer starts. -/
  | quietPeriodEnd (port : Nat)
  /-- R86: The Clause 73 exchange completes, classifying the partner as Celori or IEEE, and the port enters TRAIN. -/
  | clause73Complete (port : Nat) (pages : List Nat)
  /-- R83: The 10 ms DETECT attempt timer expires, counting a failure or starting a new attempt. -/
  | detectTimeout (port : Nat)
  /-- R89: A training or roster frame is received, updating lock, coefficient requests and responses, RX_READY, roster words and ROSTER_DONE. -/
  | trainingFrame (lane : Nat) (fr : TrainRx)
  /-- R89: Four expected markers are missing and the lane loses training-frame lock. -/
  | trainingLockLoss (lane : Nat)
  /-- R51: A 20 µs eye measurement completes and the PEAK search advances. -/
  | eyeMeasurement (lane eye : Nat)
  /-- R51: Every 10 ms in ACTIVE with TRACK = 1 the lane may move PEAK by one step. -/
  | peakTrackStep (lane : Nat) (up : Bool)
  /-- R83: The 500 ms TRAIN timer expires and counts a failure. -/
  | trainTimeout (port : Nat)
  /-- R96: After 16 more roster frames the coding layer's transmit starts in the selected profile. -/
  | codingTxStart (port : Nat)
  /-- R83: The 50 ms ROSTER timer expires and counts a failure. -/
  | rosterTimeout (port : Nat)
  /-- R62: A received RS codeword is decoded, corrected or marked uncorrectable, and its counters updated. -/
  | codewordReceived (port : Nat) (corr : List Nat) (cw : CodewordRx)
  /-- R65: At an expected comma position the comma-lock machine advances, BIP is checked, RX_ALIGNED and EASY hints are read and ALIGNED is evaluated. -/
  | commaBlock (lane : Nat) (c : CommaRx)
  /-- R97: ALIGNED has been 0 for 1 ms in ACTIVE and the port returns to DETECT as an interruption. -/
  | alignLossTimeout (port : Nat)
  /-- R68: An 8192-codeword window ends and HI_SER is set or cleared against HISER_THRESH. -/
  | hiserWindowEnd (port : Nat)
  /-- R98: After the comma of period N + 1 the transmit direction enters EASY and LANE_EASY replies. -/
  | txEasyEntryDone (port : Nat)
  /-- R99: No LOS comes within 100 µs of an armed easy expectation and the expectation lapses. -/
  | easyExpectLapse (port : Nat)
  /-- R102: The 5 ms wake timer expires and counts a failure, followed by a full launch. -/
  | wakeTimeout (port : Nat)
  /-- R84: A filtered change of MOD_PRS_L holds or restarts DETECT, interrupts ports or restarts STALLED ports, and fires its event. -/
  | modPrsChange (eight : Nat) (level : Bool)
  /-- R282: A filtered change of MOD_INT_L asserts or withdraws its LINE source. -/
  | modIntChange (eight : Nat) (level : Bool)
  /-- R283: Filtered CPX_WAKE asserts, firing its pulse source and waking the compositor. -/
  | cpxWake (level : Bool)
  /-- R351: Filtered LOCKUP_REQ asserts and starts lock-up with cause PIN when PIN_EN is 1. -/
  | lockupReq (level : Bool)
  /-- R282: A sideband change shorter than FILT is discarded, counted and sets GLITCH_SEEN. -/
  | sidebandGlitch (line : Nat)
  /-- R283: An asynchronous latch catches a raw edge while the filter clock is stopped and restarts the filter. -/
  | sidebandLatchEdge (line : Nat)
  /-- R283: A sideband line stable for 1 ms has its filter sampling clock stopped. -/
  | filterClockStop (line : Nat)
  /-- R114: At the frame's 64th byte the MAC checks preamble and length, reads tags, timestamps, matches partner and trailer profile, colours it, and bypasses, stores or discards it. -/
  | rxHeadDecision (h : HeadRx)
  /-- R23: A decided head is handed to its slice when that slice is ready, consuming a sequence number and starting the body. -/
  | headHandoff (port ready : Nat) (waited : Bool)
  /-- R117: A received frame ends: verdict, FCS and length check, policer debit, trailer check, galley record completion or reclaim, control-frame action and tail handoff. -/
  | rxFrameEnd (e : EndRx)
  /-- R72: The receive FIFO has no room: the frame is dropped whole or truncated, and later frames are dropped until it drains. -/
  | rxRmOverflow (port : Nat) (same : Bool)
  /-- R234: A qualifying frame's alive counter is judged against its sequence record as PASS, DUPLICATE or OUT_OF_WINDOW, with loss, disagreement and resync handling. -/
  | aliveJudgement (partner alive check port : Nat)
  /-- R235: A 1 ms walker returns records with no PASS for RESET_MS to FRESH. -/
  | recordAgeWalk
  /-- R149: 200 ns after an acted-on pause or PFC frame, its receive timers load or clear and the transmit hold begins. -/
  | rxPauseTimerLoad (port : Nat)
  /-- R150: A received pause or PFC timer counts down to 0 and the hold ends. -/
  | rxPauseTimerExpiry (port timer : Nat)
  /-- R129: A recirculated frame whose head is not handed off 1.4 µs after entry is discarded and a NOTICE fault recorded. -/
  | recircLateDiscard (port : Nat)
  /-- R40: A core occupancy report arrives, driving CORE-class hysteresis and galley release and bypass. -/
  | occupancyReport (port cls bytes : Nat)
  /-- R40: A report older than 1 µs is treated as above XOFF and raises a NOTICE bank fault. -/
  | reportStale (port cls : Nat)
  /-- R213: On a scheduled PFC port the fall of a priority's XOFF is reported at least 1 µs after its rise. -/
  | xoffFallReport (port prio : Nat)
  /-- R148: The pause refresh interval elapses while anything is XOFF and a control frame is requested. -/
  | fcRefreshExpiry (port : Nat)
  /-- R123: At the next frame boundary the MAC builds and sends the latest requested pause or PFC frame. -/
  | controlFrameSend (port : Nat)
  /-- R136: A stored frame at a class's front is released in round robin when the core report is below CORE_XOFF_KIB, with its head metadata rebuilt. -/
  | galleyRelease (port : Nat) (errs : List (Nat × Bool)) (slices : SliceLevels)
  /-- R141: The periodic age test drops a front frame older than AGE_MAX. -/
  | galleyAgeCheck (port cls : Nat)
  /-- R143: The scrub reads a cell and writes corrected data back, counting corrected and uncorrectable errors. -/
  | scrubVisit (extent cell : Nat) (corrected : Bool) (bad : Option Nat)
  /-- R143: The last cell of a scrub pass is written back, GAL_SCRUB_PASS increments and the next pass starts. -/
  | scrubPassDone
  /-- R144: A marked extent holding no class data is swapped for a spare or removed from the usable pool. -/
  | extentSwap (extent : Nat)
  /-- R161: An ARRIVE notice adds a frame and its bytes to a queue's depth. -/
  | queueArrive (port cls : Nat) (partner : Option Nat) (len : Nat)
  /-- R161: A FRONT notice appends a descriptor to a queue's front. -/
  | queueFront (port cls : Nat) (partner : Option Nat) (x : FrontRx)
  /-- R161: A DROP notice removes a frame and its bytes from a queue's depth. -/
  | queueDrop (port cls : Nat) (partner : Option Nat) (len : Nat)
  /-- R166: A due decision selects a class and member by strict priority, virtual time, shapers, pause and the gate start test, charges shapers and issues a request. -/
  | coxDecision (port : Nat)
  /-- R172: A shaper bucket is refilled at its interval, applying any pending rate change. -/
  | shaperRefill (which : ShaperSel)
  /-- R177: A partner's policer buckets are refilled in its slot. -/
  | policerRefill (partner : Nat)
  /-- R169: The 1 ms ageing walker raises stale finish tags of ineligible members and classes to V. -/
  | ageingWalk
  /-- R182: At each interval a walk samples the selected queues into telemetry records, or is skipped if the previous walk is late. -/
  | telemetryWalk
  /-- R125: A delivered frame starts on the wire when the transmit FIFO threshold is reached, after the oversize and runt checks, with trailer and alive counter inserted. -/
  | txFrameStart (x : StartTx)
  /-- R127: A transmitted frame completes or is ended with an error block, and its stamp record is made. -/
  | txFrameEnd (port : Nat) (rest : List Byte) (abort : Bool)
  /-- R73: The transmit FIFO runs empty within a frame, which is ended with an error block. -/
  | txUnderrun (port : Nat)
  /-- R201: The stamp mover moves a record, or a loss record, from a port queue to its function's stamp ring. -/
  | stampMove
  /-- R209: At the TCLK tick at or after an entry boundary the gate vector of the next entry takes effect. -/
  | gateEntryBoundary (port : Nat)
  /-- R206: At S − G every non-scheduled class is closed for the switch guard. -/
  | switchGuardStart (port : Nat)
  /-- R205: At S the pending list starts at entry 0, or the pending stop takes the port to HOLD or NONE. -/
  | gateSwitch (port : Nat)
  /-- R216: A window of a scheduled class reaches its cut-off, counted if the candidate still waits. -/
  | windowCutoff (port cls : Nat)
  /-- R249: A read of a ring's index line completes: TAIL or RD is taken, overrun is detected and descriptor fetch or spill drain proceeds. -/
  | indexLineReadDone (ring value : Nat)
  /-- R254: Fetched descriptors are validated by their GEN marks: used, retried or discarded with the look-ahead. -/
  | descriptorFetchDone (ring : Nat) (words : List Nat)
  /-- R255: A stale descriptor below the tail is re-read after 1 µs, halting the queue with fault GEN after 4 retries. -/
  | descriptorRetry (ring word : Nat)
  /-- R257: The engine visits transmit queues by weighted round robin, taking up to BURST descriptors and reading frame data. -/
  | txQueueService (bufs : List (List Byte))
  /-- R259: A whole frame in the transmit store is handed to the core with its host transmit word. -/
  | hostTxHandoff
  /-- R261: A frame for the host arrives from the core and is stored, or dropped for no queue, HALTED or HOLD_KIB. -/
  | hostRxFrame (queue : Nat) (x : HostRxIn)
  /-- R263: Once every needed descriptor is reserved the front frame is written to host buffers and its write-backs issued. -/
  | hostRxDeliver (queue : Nat)
  /-- R264: A front frame not fully reserved within STARVE_US is dropped and its descriptors released. -/
  | starveTimeout (queue : Nat)
  /-- R265: 1 µs after the last completion HW_INDEX is published and the completion event raised. -/
  | publishTimer (ring : Nat)
  /-- R271: A stamp or telemetry record is written to its ring, spilled or lost. -/
  | recordPost (ring : Nat)
  /-- R270: Every 10 µs a full record ring's RD is read again. -/
  | recordRingPoll (ring : Nat)
  /-- R274: A host read returns an error or times out after 10 ms and the ring halts with fault ADDR. -/
  | hostReadFault (ring : Nat)
  /-- R281: A source fires or asserts, counting an event for its vector and starting or advancing coalescing. -/
  | sourceEvent (source detail : Nat)
  /-- R285: A gathering vector's coalescing timer reaches COAL_TIME and the vector becomes READY. -/
  | coalTimerExpiry (vector : Nat)
  /-- R287: Routing commits a READY unmasked vector to an accepting target and issues the message write. -/
  | routeCommit
  /-- R343: The desk starts a fault's local reactions (RESET, PORT_DOWN, RETRAIN) within 1 µs. -/
  | faultReaction
  /-- R348: After the executing command finishes, the SAFE overlay is committed and the complex becomes SAFE with the quiet timer loaded. -/
  | safeEntry
  /-- R349: The quiet timer reaches 0: SAFE is left to the base mode or READY, or held by the recovery cap. -/
  | safeExit
  /-- R352: An accepted lock-up trigger reaches the controller: LOCKED is set and clocks are stopped in order. -/
  | lockupEntry
  /-- R353: The impression capture completes, CHECK is written and VALID is set. -/
  | captureComplete
  /-- R355: AUTO_RELEASE_MS elapses after capture and a release is requested. -/
  | autoRelease
  /-- R355: A requested release proceeds once capture is done and LOCKUP_REQ is deasserted: the PLL restarts and a complex reset runs. -/
  | lockupRelease
  /-- R362: Loss of the Idleten island's supply resets the island, losing the impression, LCK_STATUS, CPX_START and boot-retry state. -/
  | islandSupplyLoss
  /-- R388: CHIP_REF returns after a loss, ACLK runs again and the complex stays undefined until a P9 chip reset. -/
  | chipRefReturn
  /-- R29: Every 64 MCLK cycles the eight-domain live status and counter fields are mirrored into MCLK, or MIRROR_STALE is set when the eight domain has no clock. -/
  | mirrorRefresh (eight : Nat) (clock : Bool) (pats : List (List Bool))
  /-- R144: A galley channel reports an interface error it cannot recover during service, is marked FAILED and raises a SERIOUS GAL_CH_FAIL fault. -/
  | galleyChannelError (channel : Nat)
  /-- R75: In PROOF, the lane's pattern checker locks after 1024 consecutive error-free received bits, sets CHK_LOCK and starts counting LN_PAT_BITS and LN_PAT_ERRS. -/
  | patternCheckerLock (rx : PatternRx)
  /-- R75: The pattern checker sees 256 or more bit errors within 1024 bits, loses lock, sets CHK_LOST and reseeds. -/
  | patternCheckerLost (lane : Nat) (bits window : List Bool)
  deriving DecidableEq, Repr

end Sys2Proof
end

