-- ==== Sys2Proof/Decode.lean ====
section
/-!
DEFINITION. The reading of a table word as a command. The opcode table gives no row any bits: a Kiland command arrives as
a packet of at least 32 bytes, an access as a bus transfer, an event on no bus at all; so no word spells a command.
-/
namespace Sys2Proof

/-- No row of the opcode table has bits, so no word spells a command. -/
def decodeTableWord (_nbits _w : Nat) : Option Instr := none

end Sys2Proof
end

