-- ==== Sys2Proof/Machine/Tab.lean ====
section
/-!
DEFINITION. Sparse tables of plain data: a list of (key, value) pairs, strictly rising in the key, that lists no entry
equal to what an unlisted key reads as. Registers, records and addressed buffers are all held in this one form, so that
equal contents are equal data. Also the number helpers every family uses.
-/
namespace Sys2Proof.Machine

/-- A sparse table. What an unlisted key reads as is an argument of every read. -/
abbrev Tab (α : Type) := List (Nat × α)

/-- The entry at a key, or the table's default. -/
def Tab.get {α : Type} (t : Tab α) (k : Nat) (dflt : α) : α :=
  match t with
  | [] => dflt
  | (k', v) :: r => if k' = k then v else Tab.get r k dflt

/-- Remove a key. -/
def Tab.drop {α : Type} (t : Tab α) (k : Nat) : Tab α :=
  match t with
  | [] => []
  | (k', v) :: r => if k' = k then Tab.drop r k else (k', v) :: Tab.drop r k

/-- Put a key that the table does not list at its place in the order. -/
def Tab.insert {α : Type} (t : Tab α) (k : Nat) (v : α) : Tab α :=
  match t with
  | [] => [(k, v)]
  | (k', v') :: r => if k < k' then (k, v) :: (k', v') :: r else (k', v') :: Tab.insert r k v

/-- Write a key: the default value removes the entry. -/
def Tab.set {α : Type} [DecidableEq α] (t : Tab α) (k : Nat) (v dflt : α) : Tab α :=
  if v = dflt then t.drop k else (t.drop k).insert k v

/-- Strictly rising keys, every one below `k` excluded. -/
def Tab.risingFrom {α : Type} (t : Tab α) (k : Nat) : Bool :=
  match t with
  | [] => true
  | (k', _) :: r => decide (k ≤ k') && Tab.risingFrom r (k' + 1)

/-- The canonical form: strictly rising keys and no entry equal to the default. -/
def Tab.wf {α : Type} [DecidableEq α] (t : Tab α) (dflt : α) : Bool :=
  t.risingFrom 0 && t.all (fun p => decide (p.2 ≠ dflt))

/-- Bits [lo + w − 1 : lo] of a number. -/
def bitsOf (n lo w : Nat) : Nat := n >>> lo % 2 ^ w

/-- One bit of a number, as a proposition a program can decide. -/
def bitAt (n i : Nat) : Bool := n >>> i % 2 == 1

/-- A number with bit `i` set. -/
def setBitAt (n i : Nat) : Nat := if bitAt n i then n else n + 2 ^ i

/-- A number with bit `i` clear. -/
def clrBitAt (n i : Nat) : Nat := if bitAt n i then n - 2 ^ i else n

/-- Write or clear one bit. -/
def putBitAt (n i : Nat) (b : Bool) : Nat := if b then setBitAt n i else clrBitAt n i

/-- A number read as a `w`-bit two's complement value. -/
def signedOf (n w : Nat) : Int :=
  if n % 2 ^ w < 2 ^ (w - 1) then (n % 2 ^ w : Nat) else ((n % 2 ^ w : Nat) : Int) - (2 ^ w : Nat)

/-- An integer as the `w`-bit two's complement number. -/
def unsignedOf (z : Int) (w : Nat) : Nat := (z % (2 ^ w : Nat)).toNat

/-- A value held to a range: the nearest end when it lies outside. -/
def clampTo (n lo hi : Nat) : Nat := if n < lo then lo else if hi < n then hi else n

/-- Division that rounds up. -/
def ceilDiv (a b : Nat) : Nat := (a + b - 1) / b

/-- The number of bits set among the low `w`. -/
def popCount (n : Nat) : Nat → Nat
  | 0 => 0
  | w + 1 => (if bitAt n w then 1 else 0) + popCount n w

/-- The positions set among the low `w`, rising. -/
def bitList (n w : Nat) : List Nat := (List.range w).filter (fun i => bitAt n i)

/-- A 0 or 1 for a flag. -/
def flag (b : Bool) : Nat := if b then 1 else 0

end Sys2Proof.Machine
end

