-- ==== Sys2Proof/Machine/Crc.lean ====
section
/-!
DEFINITION. The check-value procedure of R222, over lists of byte values, with the CRC-32 and CRC-32C parameters.
-/
namespace Sys2Proof.Machine

/-- Parameters of R222. -/
structure CrcParams where
  width : Nat
  poly : Nat
  init : Nat
  refin : Bool
  refout : Bool
  xorout : Nat
  deriving DecidableEq, Repr

/-- The low `w` bits of a number in reverse order. -/
def reflect (n : Nat) : Nat → Nat
  | 0 => 0
  | w + 1 => (if bitAt n 0 then 2 ^ w else 0) + reflect (n / 2) w

/-- `k` rounds of R222 over the low `k` bits of a byte, most significant first. -/
def crcBits (c : CrcParams) (b : Nat) : Nat → Nat → Nat
  | 0, st => st
  | k + 1, st =>
    let top := bitAt st (c.width - 1)
    let sh := st * 2 % 2 ^ c.width
    crcBits c b k (if top != bitAt b k then sh ^^^ (c.poly % 2 ^ c.width) else sh)

/-- One byte through the state (R222). -/
def crcByte (c : CrcParams) (st b : Nat) : Nat := crcBits c (if c.refin then reflect b 8 else b) 8 st

/-- The state loaded at the start (R222). -/
def crcStart (c : CrcParams) : Nat := c.init % 2 ^ c.width

/-- The result for a state (R222). -/
def crcResult (c : CrcParams) (st : Nat) : Nat :=
  (if c.refout then reflect st c.width else st) ^^^ (c.xorout % 2 ^ c.width)

/-- The check value of a list of bytes. -/
def crcOf (c : CrcParams) (l : List Nat) : Nat := crcResult c (l.foldl (crcByte c) (crcStart c))

/-- IEEE 802.3 CRC-32 and CRC-32C (R222). -/
def crc32 : CrcParams := ⟨32, 0x04C11DB7, 0xFFFFFFFF, true, true, 0xFFFFFFFF⟩
def crc32c : CrcParams := ⟨32, 0x1EDC6F41, 0xFFFFFFFF, true, true, 0xFFFFFFFF⟩

/-- The `n` low bytes of a number, low byte first. -/
def leBytes (x : Nat) : Nat → List Nat
  | 0 => []
  | n + 1 => x % 256 :: leBytes (x / 256) n

/-- The number whose bytes, low byte first, are the list. -/
def ofLeBytes : List Nat → Nat
  | [] => 0
  | b :: l => b % 256 + 256 * ofLeBytes l

end Sys2Proof.Machine
end

