-- ==== Sys2Proof/Machine/Fields.lean ====
section
/-!
DEFINITION. The register fields of the Celori complex, one constant per field, from the register and counter tables of
the spec: number, lowest bit, width, access type (Table 13), configuration field or not (R9, R389), reset value, and
the range a direct write is clipped to with the value taken when it lies above that range.
-/
namespace Sys2Proof.Machine

/-- The access types of Table 13. -/
inductive Acc where
  | rw | ro | w1c | w1s | rc | wo
  deriving DecidableEq, Repr

/-- One register field. `cfg` marks the configuration fields of R9; `mn`, `mx` and `above` are the range of a direct
write and the value taken above it. -/
structure Fld where
  id : Nat
  lo : Nat
  w : Nat
  acc : Acc
  cfg : Bool
  rst : Nat
  mn : Nat
  mx : Nat
  above : Nat
  deriving DecidableEq, Repr

/-- A field of its full range, or of the range given. -/
def fld (id lo w : Nat) (acc : Acc) (cfg : Bool) (rst : Nat) (mn : Nat := 0) (mx : Nat := 2 ^ w - 1)
    (above : Nat := mx) : Fld := ⟨id, lo, w, acc, cfg, rst, mn, mx, above⟩

namespace F

-- LN_EIGHT_PORTMAP (R18, 01_eights_banks_and_the_complex.md)
def LN_EIGHT_PORTMAP.WIDTH (i : Nat) : Fld := fld (0 + i) (0 + 4 * i) 2 .ro false (3)
def LN_EIGHT_PORTMAP.FIRST (i : Nat) : Fld := fld (8 + i) (3 + 4 * i) 1 .ro false (if i = 0 then 1 else 0)
-- MAC_BANK_DEAL (R25, 01_eights_banks_and_the_complex.md)
def MAC_BANK_DEAL.SLICE_EN : Fld := fld 16 0 4 .rw true 15
def MAC_BANK_DEAL.SLICE_READY : Fld := fld 17 4 4 .ro false 0
def MAC_BANK_DEAL.SLICE_WAIT : Fld := fld 18 8 4 .w1c false 0
-- MAC_GLOBAL_DEAL (R25, 01_eights_banks_and_the_complex.md)
def MAC_GLOBAL_DEAL.SLICE_EN : Fld := fld 19 0 4 .rw true 15
def MAC_GLOBAL_DEAL.SLICE_READY : Fld := fld 20 4 4 .ro false 0
def MAC_GLOBAL_DEAL.SLICE_WAIT : Fld := fld 21 8 4 .w1c false 0
-- LN_EIGHT_STATUS (R32, 01_eights_banks_and_the_complex.md)
def LN_EIGHT_STATUS.REF_OK : Fld := fld 22 0 1 .ro false 0
def LN_EIGHT_STATUS.REF_FAULT : Fld := fld 23 1 1 .w1c false 0
def LN_EIGHT_STATUS.TX_PLL_LOCK : Fld := fld 24 2 1 .ro false 0
def LN_EIGHT_STATUS.TX_PLL_UNLOCK : Fld := fld 25 3 1 .w1c false 0
def LN_EIGHT_STATUS.MIRROR_STALE : Fld := fld 26 4 1 .ro false 1
def LN_EIGHT_STATUS.RESET_ACTIVE : Fld := fld 27 5 1 .ro false 0
def LN_EIGHT_STATUS.REF_COUNT : Fld := fld 28 16 12 .ro false 0
-- LN_BANK_STATUS (R35, 01_eights_banks_and_the_complex.md)
def LN_BANK_STATUS.TX_PD : Fld := fld 29 0 2 .ro false 0
def LN_BANK_STATUS.RX_PD : Fld := fld 30 2 2 .ro false 0
def LN_BANK_STATUS.RESET_ACTIVE : Fld := fld 31 4 1 .ro false 0
def LN_BANK_STATUS.REF_FAULT_SUM : Fld := fld 32 8 8 .ro false 0
def LN_BANK_STATUS.PLL_UNLOCK_SUM : Fld := fld 33 16 8 .ro false 0
-- LN_CTL (R46, 02_lane_array.md)
def LN_CTL.TX_INVERT : Fld := fld 34 0 1 .rw true 0
def LN_CTL.RX_INVERT : Fld := fld 35 1 1 .rw true 0
def LN_CTL.TX_PRECODE : Fld := fld 36 2 1 .rw true 0
def LN_CTL.RX_PRECODE : Fld := fld 37 3 1 .rw true 0
def LN_CTL.LOOPBACK : Fld := fld 38 4 2 .rw true 0 0 2 0
-- LN_STATUS (R46, 02_lane_array.md)
def LN_STATUS.LOS : Fld := fld 39 0 1 .ro false 1
def LN_STATUS.LOS_SEEN : Fld := fld 40 1 1 .w1c false 0
def LN_STATUS.CDR_LOCK : Fld := fld 41 2 1 .ro false 0
def LN_STATUS.COMMA_LOCK : Fld := fld 42 3 1 .ro false 0
def LN_STATUS.COMMA_STATE : Fld := fld 43 4 3 .ro false 0
def LN_STATUS.PPM_RANGE : Fld := fld 44 7 1 .w1c false 0
def LN_STATUS.RX_PPM : Fld := fld 45 16 16 .ro false 0
-- LN_TX_EQ (R53, 02_lane_array.md)
def LN_TX_EQ.C_PRE : Fld := fld 46 0 5 .rw true 0 0 16 16
def LN_TX_EQ.C_POST : Fld := fld 47 8 5 .rw true 0 0 24 24
def LN_TX_EQ.AMP : Fld := fld 48 24 4 .rw true 10
-- LN_RX_EQ (R53, 02_lane_array.md)
def LN_RX_EQ.PEAK : Fld := fld 49 0 6 .rw true 24 0 48 48
def LN_RX_EQ.POLE : Fld := fld 50 8 3 .rw true 6
def LN_RX_EQ.DCGAIN : Fld := fld 51 12 4 .rw true 6 0 12 12
def LN_RX_EQ.ADAPT : Fld := fld 52 16 1 .rw true 1
def LN_RX_EQ.TRACK : Fld := fld 53 17 1 .rw true 1
-- LN_EQ_LIVE (R53, 02_lane_array.md)
def LN_EQ_LIVE.PEAK : Fld := fld 54 0 6 .ro false 24
def LN_EQ_LIVE.POLE : Fld := fld 55 8 3 .ro false 6
def LN_EQ_LIVE.DCGAIN : Fld := fld 56 12 4 .ro false 6
def LN_EQ_LIVE.EYE : Fld := fld 57 16 8 .ro false 0
def LN_EQ_LIVE.C_PRE : Fld := fld 58 24 5 .ro false 0
def LN_EQ_LIVE.C_POST : Fld := fld 59 32 5 .ro false 0
def LN_EQ_LIVE.C_MAIN : Fld := fld 60 40 7 .ro false 64
def LN_EQ_LIVE.AMP : Fld := fld 61 48 4 .ro false 10
-- LN_EASY (R60, 02_lane_array.md)
def LN_EASY.TX_EASY : Fld := fld 62 0 1 .ro false 0
def LN_EASY.RX_EASY : Fld := fld 63 1 1 .ro false 0
def LN_EASY.ATTN_ARMED : Fld := fld 64 2 1 .ro false 0
def LN_EASY.ATTN_SEEN : Fld := fld 65 3 1 .w1c false 0
def LN_EASY.ATTN_COUNT : Fld := fld 66 16 16 .rc false 0
-- LN_ATTN (R60, 02_lane_array.md)
def LN_ATTN.WORDS : Fld := fld 67 0 8 .rw true 8 8 255 255
def LN_ATTN.BUSY : Fld := fld 68 8 1 .ro false 0
def LN_ATTN.SENT : Fld := fld 69 9 1 .w1c false 0
-- LN_PAT_CTL (R77, 02_lane_array.md)
def LN_PAT_CTL.TX_PAT : Fld := fld 70 0 4 .rw true 0 0 10 0
def LN_PAT_CTL.RX_PAT : Fld := fld 71 4 4 .rw true 0 0 10 0
def LN_PAT_CTL.CHK_LOCK : Fld := fld 72 8 1 .ro false 0
def LN_PAT_CTL.CHK_LOST : Fld := fld 73 9 1 .w1c false 0
def LN_PAT_CTL.INJECT : Fld := fld 74 10 1 .w1s false 0
-- LN_PAT_USER (R77, 02_lane_array.md)
def LN_PAT_USER.USER : Fld := fld 75 0 64 .rw true 0
-- LN_PAT_BITS (R74, 02_lane_array.md)
def LN_PAT_BITS.COUNT : Fld := fld 76 0 48 .rc false 0
-- LN_PAT_ERRS (R74, 02_lane_array.md)
def LN_PAT_ERRS.COUNT : Fld := fld 77 0 48 .rc false 0
-- LN_FEC_SYMS (R74, 02_lane_array.md)
def LN_FEC_SYMS.COUNT : Fld := fld 78 0 48 .rc false 0
-- LN_COMMA_ERR (R74, 02_lane_array.md)
def LN_COMMA_ERR.COUNT : Fld := fld 79 0 48 .rc false 0
-- LN_BIP_ERR (R74, 02_lane_array.md)
def LN_BIP_ERR.COUNT : Fld := fld 80 0 48 .rc false 0
-- LN_CDR_UNLOCK (R74, 02_lane_array.md)
def LN_CDR_UNLOCK.COUNT : Fld := fld 81 0 48 .rc false 0
-- PCS_CTL (R68, 02_lane_array.md)
def PCS_CTL.PROFILE : Fld := fld 82 0 2 .rw true 0 0 2 0
def PCS_CTL.FEC_DETECT : Fld := fld 83 2 1 .rw true 0
def PCS_CTL.HISER_EN : Fld := fld 84 3 1 .rw true 1
def PCS_CTL.FAR_LOOP : Fld := fld 85 4 1 .rw true 0
def PCS_CTL.HISER_THRESH : Fld := fld 86 8 16 .rw true 5560 1 65535 65535
-- PCS_STATUS (R68, 02_lane_array.md)
def PCS_STATUS.ALIGNED : Fld := fld 87 0 1 .ro false 0
def PCS_STATUS.PROFILE_LIVE : Fld := fld 88 1 2 .ro false 0
def PCS_STATUS.HI_SER : Fld := fld 89 3 1 .ro false 0
def PCS_STATUS.HI_SER_SEEN : Fld := fld 90 4 1 .w1c false 0
def PCS_STATUS.ALIGN_LOST : Fld := fld 91 5 1 .w1c false 0
def PCS_STATUS.LAYOUT_MISMATCH : Fld := fld 92 6 1 .w1c false 0
def PCS_STATUS.SKEW_FAULT : Fld := fld 93 7 1 .w1c false 0
def PCS_STATUS.RX_RM_OVF : Fld := fld 94 8 1 .w1c false 0
def PCS_STATUS.TX_UNDERRUN : Fld := fld 95 9 1 .w1c false 0
def PCS_STATUS.REMOTE_RX_OK : Fld := fld 96 10 1 .ro false 0
-- PCS_SKEW (R68, 02_lane_array.md)
def PCS_SKEW.SKEW (i : Nat) : Fld := fld (97 + i) (0 + 8 * i) 8 .ro false (255)
-- PCS_CW (R74, 02_lane_array.md)
def PCS_CW.COUNT : Fld := fld 105 0 48 .rc false 0
-- PCS_CW_CORR (R74, 02_lane_array.md)
def PCS_CW_CORR.COUNT : Fld := fld 106 0 48 .rc false 0
-- PCS_CW_UNCORR (R74, 02_lane_array.md)
def PCS_CW_UNCORR.COUNT : Fld := fld 107 0 48 .rc false 0
-- PCS_HISER (R74, 02_lane_array.md)
def PCS_HISER.COUNT : Fld := fld 108 0 48 .rc false 0
-- PCS_ALIGN_LOSS (R74, 02_lane_array.md)
def PCS_ALIGN_LOSS.COUNT : Fld := fld 109 0 48 .rc false 0
-- PCS_RX_RM_DROP (R74, 02_lane_array.md)
def PCS_RX_RM_DROP.COUNT : Fld := fld 110 0 48 .rc false 0
-- PCS_TX_UNDERRUN_CNT (R74, 02_lane_array.md)
def PCS_TX_UNDERRUN_CNT.COUNT : Fld := fld 111 0 48 .rc false 0
-- PCS_CW_HIST (R74, 02_lane_array.md)
def PCS_CW_HIST.COUNT (k : Nat) : Fld := fld (112 + k) 0 48 .rc false 0
-- LN_LAUNCH_CTL (R104, 03_launch_sequence.md)
def LN_LAUNCH_CTL.ENABLE : Fld := fld 128 0 1 .rw true 1
def LN_LAUNCH_CTL.NEG : Fld := fld 129 1 1 .rw true 0
def LN_LAUNCH_CTL.DETECT_COUNT : Fld := fld 130 2 1 .rw true 1
def LN_LAUNCH_CTL.PRS_RESTART : Fld := fld 131 3 1 .rw true 1
def LN_LAUNCH_CTL.LAUNCH_RETRY : Fld := fld 132 8 8 .rw true 8 1 255 255
def LN_LAUNCH_CTL.IEEE_PRE : Fld := fld 133 16 5 .rw true 4 0 16 16
def LN_LAUNCH_CTL.IEEE_POST : Fld := fld 134 24 5 .rw true 8 0 24 24
def LN_LAUNCH_CTL.WAKE_WAIT : Fld := fld 135 32 8 .rw true 20 1 255 255
-- LN_LAUNCH_STATUS (R104, 03_launch_sequence.md)
def LN_LAUNCH_STATUS.STATE : Fld := fld 136 0 4 .ro false 0
def LN_LAUNCH_STATUS.PARTNER : Fld := fld 137 4 2 .ro false 0
def LN_LAUNCH_STATUS.STALL_SEEN : Fld := fld 138 6 1 .w1c false 0
def LN_LAUNCH_STATUS.ACTIVE_SEEN : Fld := fld 139 7 1 .w1c false 0
def LN_LAUNCH_STATUS.FAILS : Fld := fld 140 8 8 .ro false 0
def LN_LAUNCH_STATUS.LAST_FAIL : Fld := fld 141 16 3 .ro false 0
def LN_LAUNCH_STATUS.QUIET : Fld := fld 142 19 1 .ro false 0
def LN_LAUNCH_STATUS.PRS_ABSENT : Fld := fld 143 20 1 .ro false 0
def LN_LAUNCH_STATUS.PARTNER_W1 : Fld := fld 144 32 32 .ro false 0
-- LN_LAUNCH_COUNT (R104, 03_launch_sequence.md)
def LN_LAUNCH_COUNT.INTR : Fld := fld 145 0 16 .rc false 0
def LN_LAUNCH_COUNT.FAIL : Fld := fld 146 16 16 .rc false 0
def LN_LAUNCH_COUNT.STALL : Fld := fld 147 32 16 .rc false 0
def LN_LAUNCH_COUNT.UP : Fld := fld 148 48 16 .rc false 0
-- MAC_PORT_CFG (R132, 04_frame_path.md)
def MAC_PORT_CFG.RX_EN : Fld := fld 149 0 1 .rw true 1
def MAC_PORT_CFG.TX_EN : Fld := fld 150 1 1 .rw true 1
def MAC_PORT_CFG.PRE_CHECK : Fld := fld 151 2 1 .rw true 1
def MAC_PORT_CFG.LEN_CHECK : Fld := fld 152 3 1 .rw true 1
def MAC_PORT_CFG.PAUSE_EN : Fld := fld 153 4 1 .rw true 0
def MAC_PORT_CFG.PFC_EN : Fld := fld 154 5 1 .rw true 0
def MAC_PORT_CFG.TX_IPG : Fld := fld 155 8 8 .rw true 12 12 64 64
def MAC_PORT_CFG.MAX_FRAME : Fld := fld 156 16 16 .rw true 9216 1518 16000 16000
-- MAC_PORT_SA (R132, 04_frame_path.md)
def MAC_PORT_SA.SA : Fld := fld 157 0 48 .rw true 0
-- MAC_PORT_STATUS (R132, 04_frame_path.md)
def MAC_PORT_STATUS.RX_UP : Fld := fld 158 0 1 .ro false 0
def MAC_PORT_STATUS.TX_UP : Fld := fld 159 1 1 .ro false 0
def MAC_PORT_STATUS.FCS_ERR_SEEN : Fld := fld 160 2 1 .w1c false 0
def MAC_PORT_STATUS.OVERSIZE_SEEN : Fld := fld 161 3 1 .w1c false 0
def MAC_PORT_STATUS.LEN_MISMATCH_SEEN : Fld := fld 162 4 1 .w1c false 0
def MAC_PORT_STATUS.FC_MISMATCH : Fld := fld 163 5 1 .w1c false 0
def MAC_PORT_STATUS.RECIRC_LATE_SEEN : Fld := fld 164 6 1 .w1c false 0
def MAC_PORT_STATUS.TX_ABORT_SEEN : Fld := fld 165 7 1 .w1c false 0
def MAC_PORT_STATUS.TX_LIMIT : Fld := fld 166 16 16 .ro false 9216
-- MAC_PARTNER (R132, 04_frame_path.md)
def MAC_PARTNER.MAX_FRAME : Fld := fld 167 0 16 .ro false 0
def MAC_PARTNER.PFC : Fld := fld 168 16 1 .ro false 0
def MAC_PARTNER.PAUSE : Fld := fld 169 17 1 .ro false 0
def MAC_PARTNER.VALID : Fld := fld 170 18 1 .ro false 0
-- MAC_RX_OK (R133, 04_frame_path.md)
def MAC_RX_OK.COUNT : Fld := fld 171 0 48 .rc false 0
-- MAC_RX_OK_BYTES (R133, 04_frame_path.md)
def MAC_RX_OK_BYTES.COUNT : Fld := fld 172 0 48 .rc false 0
-- MAC_RX_FCS_ERR (R133, 04_frame_path.md)
def MAC_RX_FCS_ERR.COUNT : Fld := fld 173 0 48 .rc false 0
-- MAC_RX_RUNT (R133, 04_frame_path.md)
def MAC_RX_RUNT.COUNT : Fld := fld 174 0 48 .rc false 0
-- MAC_RX_FRAGMENT (R133, 04_frame_path.md)
def MAC_RX_FRAGMENT.COUNT : Fld := fld 175 0 48 .rc false 0
-- MAC_RX_OVERSIZE (R133, 04_frame_path.md)
def MAC_RX_OVERSIZE.COUNT : Fld := fld 176 0 48 .rc false 0
-- MAC_RX_ERR_BLOCK (R133, 04_frame_path.md)
def MAC_RX_ERR_BLOCK.COUNT : Fld := fld 177 0 48 .rc false 0
-- MAC_RX_TRUNC (R133, 04_frame_path.md)
def MAC_RX_TRUNC.COUNT : Fld := fld 178 0 48 .rc false 0
-- MAC_RX_ABORT (R133, 04_frame_path.md)
def MAC_RX_ABORT.COUNT : Fld := fld 179 0 48 .rc false 0
-- MAC_RX_LEN_MISMATCH (R133, 04_frame_path.md)
def MAC_RX_LEN_MISMATCH.COUNT : Fld := fld 180 0 48 .rc false 0
-- MAC_RX_PREAMBLE_ERR (R133, 04_frame_path.md)
def MAC_RX_PREAMBLE_ERR.COUNT : Fld := fld 181 0 48 .rc false 0
-- MAC_RX_DOWN_DISCARD (R133, 04_frame_path.md)
def MAC_RX_DOWN_DISCARD.COUNT : Fld := fld 182 0 48 .rc false 0
-- MAC_RX_CTRL (R133, 04_frame_path.md)
def MAC_RX_CTRL.COUNT : Fld := fld 183 0 48 .rc false 0
-- MAC_RX_CTRL_DISCARD (R133, 04_frame_path.md)
def MAC_RX_CTRL_DISCARD.COUNT : Fld := fld 184 0 48 .rc false 0
-- MAC_RX_RECIRC_LATE (R133, 04_frame_path.md)
def MAC_RX_RECIRC_LATE.COUNT : Fld := fld 185 0 48 .rc false 0
-- MAC_RX_HIST (R133, 04_frame_path.md)
def MAC_RX_HIST.COUNT (k : Nat) : Fld := fld (186 + k) 0 48 .rc false 0
-- MAC_TX_OK (R133, 04_frame_path.md)
def MAC_TX_OK.COUNT : Fld := fld 194 0 48 .rc false 0
-- MAC_TX_OK_BYTES (R133, 04_frame_path.md)
def MAC_TX_OK_BYTES.COUNT : Fld := fld 195 0 48 .rc false 0
-- MAC_TX_PADDED (R133, 04_frame_path.md)
def MAC_TX_PADDED.COUNT : Fld := fld 196 0 48 .rc false 0
-- MAC_TX_ABORT (R133, 04_frame_path.md)
def MAC_TX_ABORT.COUNT : Fld := fld 197 0 48 .rc false 0
-- MAC_TX_OVERSIZE (R133, 04_frame_path.md)
def MAC_TX_OVERSIZE.COUNT : Fld := fld 198 0 48 .rc false 0
-- MAC_TX_RUNT (R133, 04_frame_path.md)
def MAC_TX_RUNT.COUNT : Fld := fld 199 0 48 .rc false 0
-- MAC_TX_CTRL (R133, 04_frame_path.md)
def MAC_TX_CTRL.COUNT : Fld := fld 200 0 48 .rc false 0
-- MAC_TX_HIST (R133, 04_frame_path.md)
def MAC_TX_HIST.COUNT (k : Nat) : Fld := fld (201 + k) 0 48 .rc false 0
-- GAL_CTL (R157, 05_galley_and_flow_control.md)
def GAL_CTL.SERVICE : Fld := fld 209 0 1 .ro false 0
def GAL_CTL.CE_THRESH : Fld := fld 210 8 8 .rw true 16 1 255 255
def GAL_CTL.AGE_MAX : Fld := fld 211 16 10 .rw true 100 1 900 900
-- GAL_STATUS (R157, 05_galley_and_flow_control.md)
def GAL_STATUS.TRAINED : Fld := fld 212 0 1 .ro false 0
def GAL_STATUS.CLEARED : Fld := fld 213 1 1 .ro false 0
def GAL_STATUS.IN_SERVICE : Fld := fld 214 2 1 .ro false 0
def GAL_STATUS.CH_FAIL : Fld := fld 215 3 1 .w1c false 0
def GAL_STATUS.SPARE_OUT : Fld := fld 216 4 1 .w1c false 0
def GAL_STATUS.UE_SEEN : Fld := fld 217 5 1 .w1c false 0
def GAL_STATUS.OVERRUN_SEEN : Fld := fld 218 6 1 .w1c false 0
def GAL_STATUS.RATE : Fld := fld 219 16 16 .ro false 0
-- GAL_SCRUB (R157, 05_galley_and_flow_control.md)
def GAL_SCRUB.PERIOD_S : Fld := fld 220 0 6 .rw true 10 1 60 60
def GAL_SCRUB.EN : Fld := fld 221 6 1 .rw true 1
-- GAL_EXT (R157, 05_galley_and_flow_control.md)
def GAL_EXT.USABLE : Fld := fld 222 0 16 .ro false 63488
def GAL_EXT.COMMITTED : Fld := fld 223 16 16 .ro false 0
def GAL_EXT.SPARE_LEFT : Fld := fld 224 32 12 .ro false 2048
def GAL_EXT.RETIRED : Fld := fld 225 48 16 .ro false 0
-- GAL_CE (R158, 05_galley_and_flow_control.md)
def GAL_CE.COUNT : Fld := fld 226 0 48 .rc false 0
-- GAL_UE (R158, 05_galley_and_flow_control.md)
def GAL_UE.COUNT : Fld := fld 227 0 48 .rc false 0
-- GAL_SCRUB_PASS (R158, 05_galley_and_flow_control.md)
def GAL_SCRUB_PASS.COUNT : Fld := fld 228 0 48 .rc false 0
-- GAL_CH_STATUS (R157, 05_galley_and_flow_control.md)
def GAL_CH_STATUS.FAILED : Fld := fld 229 0 1 .ro false 0
def GAL_CH_STATUS.CE_COUNT : Fld := fld 230 32 32 .rc false 0
-- GAL_FC_CFG (R157, 05_galley_and_flow_control.md)
def GAL_FC_CFG.FIBRE_M : Fld := fld 231 0 24 .rw true 0 0 80000 80000
def GAL_FC_CFG.PART_RESP_NS : Fld := fld 232 32 16 .rw true 200
def GAL_FC_CFG.TX_QUANTA : Fld := fld 233 48 16 .rw true 65535 1 65535 65535
-- GAL_FC_MAP (R157, 05_galley_and_flow_control.md)
def GAL_FC_MAP.RX_PRIO_CLASS (i : Nat) : Fld := fld (234 + i) (0 + 4 * i) 4 .rw true (i)
def GAL_FC_MAP.DEFAULT_CLASS : Fld := fld 242 32 4 .rw true 0
def GAL_FC_MAP.RX_IGNORE : Fld := fld 243 40 8 .rw true 0
-- GAL_FC_TXMAP (R157, 05_galley_and_flow_control.md)
def GAL_FC_TXMAP.TX_CLASS_PRIO (i : Nat) : Fld := fld (244 + i) (0 + 4 * i) 3 .rw true (i / 2)
-- GAL_FC_STATUS (R157, 05_galley_and_flow_control.md)
def GAL_FC_STATUS.TX_XOFF : Fld := fld 260 0 8 .ro false 0
def GAL_FC_STATUS.RX_PAUSED : Fld := fld 261 8 8 .ro false 0
def GAL_FC_STATUS.PORT_XOFF : Fld := fld 262 16 1 .ro false 0
def GAL_FC_STATUS.PORT_PAUSED : Fld := fld 263 17 1 .ro false 0
def GAL_FC_STATUS.HOLDING : Fld := fld 264 18 1 .ro false 0
-- GAL_P_STORED (R158, 05_galley_and_flow_control.md)
def GAL_P_STORED.COUNT : Fld := fld 265 0 48 .rc false 0
-- GAL_P_STORED_BYTES (R158, 05_galley_and_flow_control.md)
def GAL_P_STORED_BYTES.COUNT : Fld := fld 266 0 48 .rc false 0
-- GAL_P_BYPASS (R158, 05_galley_and_flow_control.md)
def GAL_P_BYPASS.COUNT : Fld := fld 267 0 48 .rc false 0
-- GAL_P_RELEASED (R158, 05_galley_and_flow_control.md)
def GAL_P_RELEASED.COUNT : Fld := fld 268 0 48 .rc false 0
-- GAL_P_BAD_DISCARD (R158, 05_galley_and_flow_control.md)
def GAL_P_BAD_DISCARD.COUNT : Fld := fld 269 0 48 .rc false 0
-- GAL_P_QUOTA_DROP (R158, 05_galley_and_flow_control.md)
def GAL_P_QUOTA_DROP.COUNT : Fld := fld 270 0 48 .rc false 0
-- GAL_P_AGE_DROP (R158, 05_galley_and_flow_control.md)
def GAL_P_AGE_DROP.COUNT : Fld := fld 271 0 48 .rc false 0
-- GAL_P_UE_DROP (R158, 05_galley_and_flow_control.md)
def GAL_P_UE_DROP.COUNT : Fld := fld 272 0 48 .rc false 0
-- GAL_P_FLUSH_DROP (R158, 05_galley_and_flow_control.md)
def GAL_P_FLUSH_DROP.COUNT : Fld := fld 273 0 48 .rc false 0
-- GAL_FC_TX_XOFF (R158, 05_galley_and_flow_control.md)
def GAL_FC_TX_XOFF.COUNT (k : Nat) : Fld := fld (274 + k) 0 48 .rc false 0
-- GAL_FC_RX_PFC (R158, 05_galley_and_flow_control.md)
def GAL_FC_RX_PFC.COUNT (k : Nat) : Fld := fld (282 + k) 0 48 .rc false 0
-- GAL_PC_CFG (R157, 05_galley_and_flow_control.md)
def GAL_PC_CFG.FC_MODE : Fld := fld 290 0 2 .rw true 0 0 2 0
def GAL_PC_CFG.QUOTA_EXT : Fld := fld 291 16 16 .rw true 0 0 63488 63488
def GAL_PC_CFG.XON_GAP_KIB : Fld := fld 292 32 16 .rw true 4096 1 65535 65535
-- GAL_PC_CORE (R157, 05_galley_and_flow_control.md)
def GAL_PC_CORE.CORE_XOFF_KIB : Fld := fld 293 0 24 .rw true 512
def GAL_PC_CORE.CORE_XON_KIB : Fld := fld 294 24 24 .rw true 384
-- GAL_PC_HEADROOM (R157, 05_galley_and_flow_control.md)
def GAL_PC_HEADROOM.HEADROOM : Fld := fld 295 0 32 .ro false 0
-- GAL_PC_XOFF (R157, 05_galley_and_flow_control.md)
def GAL_PC_XOFF.XOFF_TH : Fld := fld 296 0 38 .ro false 0
-- GAL_PC_XON (R157, 05_galley_and_flow_control.md)
def GAL_PC_XON.XON_TH : Fld := fld 297 0 38 .ro false 0
-- GAL_PC_STATUS (R157, 05_galley_and_flow_control.md)
def GAL_PC_STATUS.OCCUPANCY : Fld := fld 298 0 38 .ro false 0
def GAL_PC_STATUS.XOFF : Fld := fld 299 38 1 .ro false 0
def GAL_PC_STATUS.HOLDING : Fld := fld 300 39 1 .ro false 0
def GAL_PC_STATUS.OVER_QUOTA : Fld := fld 301 40 1 .ro false 0
def GAL_PC_STATUS.XOFF_SEEN : Fld := fld 302 41 1 .w1c false 0
def GAL_PC_STATUS.DROP_SEEN : Fld := fld 303 42 1 .w1c false 0
-- GAL_PC_PEAK (R157, 05_galley_and_flow_control.md)
def GAL_PC_PEAK.PEAK : Fld := fld 304 0 38 .rc false 0
-- GAL_PC_DROP (R158, 05_galley_and_flow_control.md)
def GAL_PC_DROP.COUNT : Fld := fld 305 0 48 .rc false 0
-- COX_TELEM_CFG (R186, 06_egress_scheduling.md)
def COX_TELEM_CFG.EN : Fld := fld 306 0 1 .rw true 0
def COX_TELEM_CFG.FUNC : Fld := fld 307 1 6 .rw true 0
def COX_TELEM_CFG.INTERVAL_US : Fld := fld 308 8 20 .rw true 1000 1 1000000 1000000
-- COX_TELEM_STATUS (R186, 06_egress_scheduling.md)
def COX_TELEM_STATUS.WALKING : Fld := fld 309 0 1 .ro false 0
def COX_TELEM_STATUS.LATE_SEEN : Fld := fld 310 1 1 .w1c false 0
def COX_TELEM_STATUS.WALK : Fld := fld 311 16 16 .ro false 0
def COX_TELEM_STATUS.QUEUES : Fld := fld 312 32 16 .ro false 0
-- COX_CNT_SEL (R186, 06_egress_scheduling.md)
def COX_CNT_SEL.INDEX : Fld := fld 313 0 15 .rw false 0
def COX_CNT_SEL.OBJ : Fld := fld 314 15 1 .rw false 0
def COX_CNT_SEL.CLEAR : Fld := fld 315 16 1 .rw false 0
def COX_CNT_SEL.READY : Fld := fld 316 31 1 .ro false 0
-- COX_CNT (R187, 06_egress_scheduling.md)
def COX_CNT.COUNT (k : Nat) : Fld := fld (317 + k) 0 48 .ro false 0
-- COX_BAD_NOTICE (R187, 06_egress_scheduling.md)
def COX_BAD_NOTICE.COUNT : Fld := fld 325 0 48 .rc false 0
-- COX_TELEM_LATE (R187, 06_egress_scheduling.md)
def COX_TELEM_LATE.COUNT : Fld := fld 326 0 48 .rc false 0
-- COX_TELEM_RECORDS (R187, 06_egress_scheduling.md)
def COX_TELEM_RECORDS.COUNT : Fld := fld 327 0 48 .rc false 0
-- COX_PORT_SHAPER (R186, 06_egress_scheduling.md)
def COX_PORT_SHAPER.RATE_KBPS : Fld := fld 328 0 32 .rw true 0 0 1600000000 1600000000
def COX_PORT_SHAPER.BURST : Fld := fld 329 32 24 .rw true 65536 1 16777215 16777215
-- COX_PORT_STATUS (R186, 06_egress_scheduling.md)
def COX_PORT_STATUS.TOKENS : Fld := fld 330 0 32 .ro false 65536
def COX_PORT_STATUS.BLOCKED : Fld := fld 331 32 1 .ro false 0
def COX_PORT_STATUS.PAUSED : Fld := fld 332 33 1 .ro false 0
-- COX_PORT_VTIME (R186, 06_egress_scheduling.md)
def COX_PORT_VTIME.V : Fld := fld 333 0 48 .ro false 0
-- COX_PORT_GUAR (R186, 06_egress_scheduling.md)
def COX_PORT_GUAR.AVAIL_KBPS : Fld := fld 334 0 32 .ro false 0
def COX_PORT_GUAR.FREE_KBPS : Fld := fld 335 32 32 .ro false 0
-- COX_CLASS_CFG (R186, 06_egress_scheduling.md)
def COX_CLASS_CFG.KIND : Fld := fld 336 0 1 .rw true 0
def COX_CLASS_CFG.TELEM : Fld := fld 337 1 1 .rw true 0
def COX_CLASS_CFG.WEIGHT : Fld := fld 338 8 9 .rw true 64 1 256 256
def COX_CLASS_CFG.COMMON_WEIGHT : Fld := fld 339 24 9 .rw true 64 1 256 256
-- COX_CLASS_SHAPER (R186, 06_egress_scheduling.md)
def COX_CLASS_SHAPER.RATE_KBPS : Fld := fld 340 0 32 .rw true 0 0 1600000000 1600000000
def COX_CLASS_SHAPER.BURST : Fld := fld 341 32 24 .rw true 65536 1 16777215 16777215
-- COX_CLASS_GUAR (R186, 06_egress_scheduling.md)
def COX_CLASS_GUAR.GUAR_KBPS : Fld := fld 342 0 32 .rw true 0
-- COX_CLASS_STATUS (R186, 06_egress_scheduling.md)
def COX_CLASS_STATUS.TOKENS : Fld := fld 343 0 32 .ro false 65536
def COX_CLASS_STATUS.BLOCKED : Fld := fld 344 32 1 .ro false 0
def COX_CLASS_STATUS.GATE_OPEN : Fld := fld 345 33 1 .ro false 1
def COX_CLASS_STATUS.PAUSED : Fld := fld 346 34 1 .ro false 0
def COX_CLASS_STATUS.ACTIVE : Fld := fld 347 35 1 .ro false 0
def COX_CLASS_STATUS.BAD_NOTICE_SEEN : Fld := fld 348 36 1 .w1c false 0
def COX_CLASS_STATUS.COMMON_DEPTH : Fld := fld 349 38 26 .ro false 0
-- PTN_CFG (R186, 06_egress_scheduling.md)
def PTN_CFG.ENABLE : Fld := fld 350 0 1 .rw true 0
def PTN_CFG.INNER_ANY : Fld := fld 351 1 1 .rw true 1
def PTN_CFG.TELEM : Fld := fld 352 2 1 .rw true 0
def PTN_CFG.POLICE_EN : Fld := fld 353 3 1 .rw true 0
def PTN_CFG.COLOUR_AWARE : Fld := fld 354 4 1 .rw true 0
def PTN_CFG.PORT : Fld := fld 355 8 10 .rw true 0
def PTN_CFG.EG_CLASS : Fld := fld 356 20 4 .rw true 0
def PTN_CFG.WEIGHT : Fld := fld 357 24 9 .rw true 64 1 256 256
def PTN_CFG.VID_OUT : Fld := fld 358 36 12 .rw true 0
def PTN_CFG.VID_IN : Fld := fld 359 48 12 .rw true 0
-- PTN_SHAPER (R186, 06_egress_scheduling.md)
def PTN_SHAPER.RATE_KBPS : Fld := fld 360 0 32 .rw true 0 0 1600000000 1600000000
def PTN_SHAPER.BURST : Fld := fld 361 32 24 .rw true 65536 1 16777215 16777215
-- PTN_GUAR (R186, 06_egress_scheduling.md)
def PTN_GUAR.GUAR_KBPS : Fld := fld 362 0 32 .rw true 0
def PTN_GUAR.TEST_B : Fld := fld 363 32 14 .rw true 64 64 16000 16000
-- PTN_POL_RATE (R186, 06_egress_scheduling.md)
def PTN_POL_RATE.CIR_KBPS : Fld := fld 364 0 32 .rw true 0 0 1600000000 1600000000
def PTN_POL_RATE.PIR_KBPS : Fld := fld 365 32 32 .rw true 0 0 1600000000 1600000000
-- PTN_POL_BURST (R186, 06_egress_scheduling.md)
def PTN_POL_BURST.CBS : Fld := fld 366 0 24 .rw true 65536 1 16777215 16777215
def PTN_POL_BURST.PBS : Fld := fld 367 32 24 .rw true 65536 1 16777215 16777215
-- PTN_SH_STATUS (R186, 06_egress_scheduling.md)
def PTN_SH_STATUS.TOKENS : Fld := fld 368 0 32 .ro false 65536
def PTN_SH_STATUS.BLOCKED : Fld := fld 369 32 1 .ro false 0
def PTN_SH_STATUS.ACTIVE : Fld := fld 370 33 1 .ro false 0
-- PTN_POL_STATUS (R186, 06_egress_scheduling.md)
def PTN_POL_STATUS.TC : Fld := fld 371 0 32 .ro false 65536
def PTN_POL_STATUS.TP : Fld := fld 372 32 32 .ro false 65536
-- PTN_Q_STATUS (R186, 06_egress_scheduling.md)
def PTN_Q_STATUS.DEPTH_BYTES : Fld := fld 373 0 38 .ro false 0
def PTN_Q_STATUS.DEPTH_FRAMES : Fld := fld 374 38 26 .ro false 0
-- TIM_CTL (R220, 07_time_and_gates.md)
def TIM_CTL.EN : Fld := fld 375 0 1 .rw true 1
-- TIM_STATUS (R220, 07_time_and_gates.md)
def TIM_STATUS.RUNNING : Fld := fld 376 0 1 .ro false 0
def TIM_STATUS.SET : Fld := fld 377 1 1 .ro false 0
def TIM_STATUS.STEP_SEEN : Fld := fld 378 2 1 .w1c false 0
def TIM_STATUS.STEP_ERR : Fld := fld 379 3 1 .w1c false 0
def TIM_STATUS.STEP_COUNT : Fld := fld 380 16 16 .ro false 0
-- TIM_SNAP (R220, 07_time_and_gates.md)
def TIM_SNAP.GO : Fld := fld 381 0 1 .wo false 0
def TIM_SNAP.READY : Fld := fld 382 1 1 .ro false 0
-- TIM_SNAP_SEC (R220, 07_time_and_gates.md)
def TIM_SNAP_SEC.SECONDS : Fld := fld 383 0 48 .ro false 0
-- TIM_SNAP_NS (R220, 07_time_and_gates.md)
def TIM_SNAP_NS.NANOSECONDS : Fld := fld 384 0 32 .ro false 0
def TIM_SNAP_NS.FRAC_NS : Fld := fld 385 32 16 .ro false 0
-- TIM_FREQ_ADJ (R220, 07_time_and_gates.md)
def TIM_FREQ_ADJ.FREQ_ADJ : Fld := fld 386 0 40 .rw false 0
-- TIM_STEP_SEC (R220, 07_time_and_gates.md)
def TIM_STEP_SEC.SECONDS : Fld := fld 387 0 48 .rw false 0
-- TIM_STEP_NS (R220, 07_time_and_gates.md)
def TIM_STEP_NS.NANOSECONDS : Fld := fld 388 0 32 .rw false 0
def TIM_STEP_NS.FRAC_NS : Fld := fld 389 32 16 .rw false 0
-- TIM_STEP_CTL (R220, 07_time_and_gates.md)
def TIM_STEP_CTL.GO : Fld := fld 390 0 1 .wo false 0
def TIM_STEP_CTL.MODE : Fld := fld 391 1 1 .rw false 0
def TIM_STEP_CTL.NEG : Fld := fld 392 2 1 .rw false 0
def TIM_STEP_CTL.BUSY : Fld := fld 393 3 1 .ro false 0
-- TIM_SLEW (R220, 07_time_and_gates.md)
def TIM_SLEW.OFFSET : Fld := fld 394 0 48 .rw false 0
def TIM_SLEW.RATE_PPM : Fld := fld 395 48 10 .rw false 100 1 500 500
-- TIM_SLEW_CTL (R220, 07_time_and_gates.md)
def TIM_SLEW_CTL.GO : Fld := fld 396 0 1 .wo false 0
def TIM_SLEW_CTL.ACTIVE : Fld := fld 397 1 1 .ro false 0
def TIM_SLEW_CTL.LEFT : Fld := fld 398 16 48 .ro false 0
-- TIM_LANE_LAT (R220, 07_time_and_gates.md)
def TIM_LANE_LAT.RX_FIXED_PS : Fld := fld 399 0 16 .ro false 0
def TIM_LANE_LAT.TX_FIXED_PS : Fld := fld 400 16 16 .ro false 0
def TIM_LANE_LAT.RX_USER_PS : Fld := fld 401 32 16 .rw true 0
def TIM_LANE_LAT.TX_USER_PS : Fld := fld 402 48 16 .rw true 0
-- TIM_PORT_CFG (R220, 07_time_and_gates.md)
def TIM_PORT_CFG.STAMP_EN : Fld := fld 403 0 1 .rw true 0
def TIM_PORT_CFG.STAMP_FUNC : Fld := fld 404 1 6 .rw true 0
-- TIM_PORT_STATUS (R220, 07_time_and_gates.md)
def TIM_PORT_STATUS.DEPTH : Fld := fld 405 0 7 .ro false 0
def TIM_PORT_STATUS.LOSS_PENDING : Fld := fld 406 7 1 .ro false 0
def TIM_PORT_STATUS.OVF_SEEN : Fld := fld 407 8 1 .w1c false 0
def TIM_PORT_STATUS.FIRST_LOST_ID : Fld := fld 408 16 16 .ro false 0
def TIM_PORT_STATUS.LOST_RUN : Fld := fld 409 32 32 .ro false 0
-- TIM_P_STAMPS (R221, 07_time_and_gates.md)
def TIM_P_STAMPS.COUNT : Fld := fld 410 0 48 .rc false 0
-- TIM_P_STAMP_LOST (R221, 07_time_and_gates.md)
def TIM_P_STAMP_LOST.COUNT : Fld := fld 411 0 48 .rc false 0
-- TIM_P_STAMP_OFF (R221, 07_time_and_gates.md)
def TIM_P_STAMP_OFF.COUNT : Fld := fld 412 0 48 .rc false 0
-- GATE_PORT_CFG (R220, 07_time_and_gates.md)
def GATE_PORT_CFG.HOLD_GATES : Fld := fld 413 0 16 .rw true 65535
-- GATE_PORT_STATUS (R220, 07_time_and_gates.md)
def GATE_PORT_STATUS.STATE : Fld := fld 414 0 2 .ro false 0
def GATE_PORT_STATUS.PENDING : Fld := fld 415 2 1 .ro false 0
def GATE_PORT_STATUS.RUN_SLOT : Fld := fld 416 3 1 .ro false 0
def GATE_PORT_STATUS.SWITCH_SEEN : Fld := fld 417 4 1 .w1c false 0
def GATE_PORT_STATUS.STEP_RESTART_SEEN : Fld := fld 418 5 1 .w1c false 0
def GATE_PORT_STATUS.LATE_SEEN : Fld := fld 419 6 1 .w1c false 0
def GATE_PORT_STATUS.GUARD_ACTIVE : Fld := fld 420 7 1 .ro false 0
def GATE_PORT_STATUS.GATES : Fld := fld 421 16 16 .ro false 65535
def GATE_PORT_STATUS.ENTRY : Fld := fld 422 32 10 .ro false 0
-- GATE_SLOT_0 (R220, 07_time_and_gates.md)
def GATE_SLOT_0.ENTRY_BASE : Fld := fld 423 0 17 .ro false 0
def GATE_SLOT_0.COUNT : Fld := fld 424 17 11 .ro false 0
def GATE_SLOT_0.CYCLE_NS : Fld := fld 425 32 32 .ro false 0
-- GATE_SLOT_1 (R220, 07_time_and_gates.md)
def GATE_SLOT_1.ENTRY_BASE : Fld := fld 426 0 17 .ro false 0
def GATE_SLOT_1.COUNT : Fld := fld 427 17 11 .ro false 0
def GATE_SLOT_1.CYCLE_NS : Fld := fld 428 32 32 .ro false 0
-- GATE_BASE_0_SEC (R220, 07_time_and_gates.md)
def GATE_BASE_0_SEC.SECONDS : Fld := fld 429 0 48 .ro false 0
-- GATE_BASE_0_NS (R220, 07_time_and_gates.md)
def GATE_BASE_0_NS.NANOSECONDS : Fld := fld 430 0 32 .ro false 0
-- GATE_BASE_1_SEC (R220, 07_time_and_gates.md)
def GATE_BASE_1_SEC.SECONDS : Fld := fld 431 0 48 .ro false 0
-- GATE_BASE_1_NS (R220, 07_time_and_gates.md)
def GATE_BASE_1_NS.NANOSECONDS : Fld := fld 432 0 32 .ro false 0
-- GATE_SWITCH_SEC (R220, 07_time_and_gates.md)
def GATE_SWITCH_SEC.SECONDS : Fld := fld 433 0 48 .ro false 0
-- GATE_SWITCH_NS (R220, 07_time_and_gates.md)
def GATE_SWITCH_NS.NANOSECONDS : Fld := fld 434 0 32 .ro false 0
-- GATE_GUARD (R220, 07_time_and_gates.md)
def GATE_GUARD.GUARD_NEED_NS : Fld := fld 435 0 16 .ro false 0
-- GATE_P_SWITCH (R221, 07_time_and_gates.md)
def GATE_P_SWITCH.COUNT : Fld := fld 436 0 48 .rc false 0
-- GATE_P_OVERLEN (R221, 07_time_and_gates.md)
def GATE_P_OVERLEN.COUNT : Fld := fld 437 0 48 .rc false 0
-- GATE_P_STEP_RESTART (R221, 07_time_and_gates.md)
def GATE_P_STEP_RESTART.COUNT : Fld := fld 438 0 48 .rc false 0
-- GATE_P_LATE (R221, 07_time_and_gates.md)
def GATE_P_LATE.COUNT : Fld := fld 439 0 48 .rc false 0
-- GATE_CLASS_CFG (R220, 07_time_and_gates.md)
def GATE_CLASS_CFG.SCHED : Fld := fld 440 0 1 .rw true 0
def GATE_CLASS_CFG.MAX_LEN : Fld := fld 441 16 14 .rw true 16000 64 16000 16000
-- GATE_CLASS_BOUND (R220, 07_time_and_gates.md)
def GATE_CLASS_BOUND.BOUND_NS : Fld := fld 442 0 16 .ro false 0
def GATE_CLASS_BOUND.CUT_NS : Fld := fld 443 16 16 .ro false 0
def GATE_CLASS_BOUND.OPEN_PPM : Fld := fld 444 32 20 .ro false 1000000
-- GATE_C_MAXRES (R220, 07_time_and_gates.md)
def GATE_C_MAXRES.MAXRES_NS : Fld := fld 445 0 16 .rc false 0
-- GATE_C_CUTOFF (R221, 07_time_and_gates.md)
def GATE_C_CUTOFF.COUNT : Fld := fld 446 0 48 .rc false 0
-- GATE_HEAT (R204, 07_time_and_gates.md)
def GATE_HEAT.ENTRY : Fld := fld 447 0 64 .ro false 0
-- PRF_ENG_CFG (R241, 08_proof_units.md)
def PRF_ENG_CFG.WIDTH : Fld := fld 448 0 7 .rw false 32 1 64 64
def PRF_ENG_CFG.REFIN : Fld := fld 449 8 1 .rw false 1
def PRF_ENG_CFG.REFOUT : Fld := fld 450 9 1 .rw false 1
def PRF_ENG_CFG.PRESET : Fld := fld 451 10 2 .wo false 0
-- PRF_ENG_POLY (R241, 08_proof_units.md)
def PRF_ENG_POLY.POLY : Fld := fld 452 0 64 .rw false 79764919
-- PRF_ENG_INIT (R241, 08_proof_units.md)
def PRF_ENG_INIT.INIT : Fld := fld 453 0 64 .rw false 4294967295
-- PRF_ENG_XOROUT (R241, 08_proof_units.md)
def PRF_ENG_XOROUT.XOROUT : Fld := fld 454 0 64 .rw false 4294967295
-- PRF_ENG_CTL (R241, 08_proof_units.md)
def PRF_ENG_CTL.START : Fld := fld 455 0 1 .wo false 0
def PRF_ENG_CTL.BUSY : Fld := fld 456 1 1 .ro false 0
def PRF_ENG_CTL.LEVEL : Fld := fld 457 2 4 .ro false 0
-- PRF_ENG_STATE (R241, 08_proof_units.md)
def PRF_ENG_STATE.STATE : Fld := fld 458 0 64 .ro false 4294967295
-- PRF_ENG_RESULT (R241, 08_proof_units.md)
def PRF_ENG_RESULT.RESULT : Fld := fld 459 0 64 .ro false 0
-- PRF_ENG_FEED_B (R241, 08_proof_units.md)
def PRF_ENG_FEED_B.DATA : Fld := fld 460 0 8 .wo false 0
-- PRF_ENG_FEED_H (R241, 08_proof_units.md)
def PRF_ENG_FEED_H.DATA : Fld := fld 461 0 16 .wo false 0
-- PRF_ENG_FEED_W (R241, 08_proof_units.md)
def PRF_ENG_FEED_W.DATA : Fld := fld 462 0 32 .wo false 0
-- PRF_PROF_CFG (R241, 08_proof_units.md)
def PRF_PROF_CFG.ENABLE : Fld := fld 463 0 1 .rw true 0
def PRF_PROF_CFG.CW : Fld := fld 464 1 2 .rw true 2 0 2 2
def PRF_PROF_CFG.ACW : Fld := fld 465 3 2 .rw true 1 0 2 1
def PRF_PROF_CFG.REFIN : Fld := fld 466 5 1 .rw true 1
def PRF_PROF_CFG.REFOUT : Fld := fld 467 6 1 .rw true 1
def PRF_PROF_CFG.ALIVE_SRC : Fld := fld 468 7 1 .rw true 0
def PRF_PROF_CFG.ACT_BAD : Fld := fld 469 8 1 .rw true 0
def PRF_PROF_CFG.COMPARE : Fld := fld 470 9 1 .rw true 1
def PRF_PROF_CFG.DID_BYTES : Fld := fld 471 10 3 .rw true 0 0 4 4
def PRF_PROF_CFG.RESYNC : Fld := fld 472 16 4 .rw true 3
def PRF_PROF_CFG.TL : Fld := fld 473 24 3 .ro false 5
-- PRF_PROF_CRC (R241, 08_proof_units.md)
def PRF_PROF_CRC.POLY : Fld := fld 474 0 32 .rw true 517762881
def PRF_PROF_CRC.INIT : Fld := fld 475 32 32 .rw true 4294967295
-- PRF_PROF_XOR (R241, 08_proof_units.md)
def PRF_PROF_XOR.XOROUT : Fld := fld 476 0 32 .rw true 4294967295
def PRF_PROF_XOR.DID : Fld := fld 477 32 32 .rw true 0
-- PRF_PROF_SPAN (R241, 08_proof_units.md)
def PRF_PROF_SPAN.SPAN_OFF : Fld := fld 478 0 14 .rw true 14 0 15993 15993
def PRF_PROF_SPAN.SPAN_LEN : Fld := fld 479 16 14 .rw true 46 1 15994 15994
def PRF_PROF_SPAN.ALIVE_OFF : Fld := fld 480 32 14 .rw true 14 0 15993 15993
-- PRF_PROF_SEQ (R241, 08_proof_units.md)
def PRF_PROF_SEQ.WINDOW : Fld := fld 481 0 15 .rw true 16
def PRF_PROF_SEQ.HIST : Fld := fld 482 16 6 .rw true 8 0 32 32
def PRF_PROF_SEQ.RESET_MS : Fld := fld 483 32 12 .rw true 1000
-- PRF_RX_STREAM (R241, 08_proof_units.md)
def PRF_RX_STREAM.ENABLE : Fld := fld 484 0 1 .rw true 0
def PRF_RX_STREAM.PROFILE : Fld := fld 485 1 6 .rw true 0
def PRF_RX_STREAM.REC : Fld := fld 486 8 14 .rw true 0
-- PRF_TX_ALIVE (R241, 08_proof_units.md)
def PRF_TX_ALIVE.ALIVE : Fld := fld 487 0 16 .rw false 0
-- PRF_REC_STATUS (R241, 08_proof_units.md)
def PRF_REC_STATUS.FRESH : Fld := fld 488 0 1 .ro false 1
def PRF_REC_STATUS.OOW_RUN : Fld := fld 489 1 4 .ro false 0
def PRF_REC_STATUS.LAST : Fld := fld 490 16 16 .ro false 0
def PRF_REC_STATUS.MAP : Fld := fld 491 32 32 .ro false 0
-- PRF_R_PASS (R242, 08_proof_units.md)
def PRF_R_PASS.COUNT : Fld := fld 492 0 48 .rc false 0
-- PRF_R_DUP (R242, 08_proof_units.md)
def PRF_R_DUP.COUNT : Fld := fld 493 0 48 .rc false 0
-- PRF_R_DISAGREE (R242, 08_proof_units.md)
def PRF_R_DISAGREE.COUNT : Fld := fld 494 0 48 .rc false 0
-- PRF_R_OOW (R242, 08_proof_units.md)
def PRF_R_OOW.COUNT : Fld := fld 495 0 48 .rc false 0
-- PRF_R_LOST (R242, 08_proof_units.md)
def PRF_R_LOST.COUNT : Fld := fld 496 0 48 .rc false 0
-- PRF_R_RESYNC (R242, 08_proof_units.md)
def PRF_R_RESYNC.COUNT : Fld := fld 497 0 48 .rc false 0
-- PRF_R_BADCHK (R242, 08_proof_units.md)
def PRF_R_BADCHK.COUNT : Fld := fld 498 0 48 .rc false 0
-- PRF_DIS_INFO (R241, 08_proof_units.md)
def PRF_DIS_INFO.VALID : Fld := fld 499 0 1 .w1c false 0
def PRF_DIS_INFO.MORE : Fld := fld 500 1 1 .w1c false 0
def PRF_DIS_INFO.REC : Fld := fld 501 16 14 .ro false 0
def PRF_DIS_INFO.ALIVE : Fld := fld 502 32 16 .ro false 0
def PRF_DIS_INFO.PORT : Fld := fld 503 48 11 .ro false 0
-- PRF_DIS_CHK (R241, 08_proof_units.md)
def PRF_DIS_CHK.FIRST : Fld := fld 504 0 32 .ro false 0
def PRF_DIS_CHK.SECOND : Fld := fld 505 32 32 .ro false 0
-- PRF_TX_TRAILERS (R242, 08_proof_units.md)
def PRF_TX_TRAILERS.COUNT : Fld := fld 506 0 48 .rc false 0
-- PRF_TX_SHORT_SPAN (R242, 08_proof_units.md)
def PRF_TX_SHORT_SPAN.COUNT : Fld := fld 507 0 48 .rc false 0
-- HPE_STATUS (R278, 09_host_packet_engine.md)
def HPE_STATUS.RX_STORE_KIB : Fld := fld 508 0 14 .ro false 0
def HPE_STATUS.TX_STORE_KIB : Fld := fld 509 16 13 .ro false 0
def HPE_STATUS.RX_HELD : Fld := fld 510 29 1 .ro false 0
-- RING_BASE (R278, 09_host_packet_engine.md)
def RING_BASE.ADDR : Fld := fld 511 6 58 .rw true 0
-- RING_LINE (R278, 09_host_packet_engine.md)
def RING_LINE.ADDR : Fld := fld 512 6 58 .rw true 0
-- RING_CFG (R278, 09_host_packet_engine.md)
def RING_CFG.LOG2_SIZE : Fld := fld 513 0 5 .rw true 4 4 16 16
def RING_CFG.FUNC : Fld := fld 514 8 6 .rw true 0
def RING_CFG.ASSIGNED : Fld := fld 515 14 1 .rw true 0
def RING_CFG.EVT_EN : Fld := fld 516 15 1 .rw true 0
def RING_CFG.WEIGHT : Fld := fld 517 16 8 .rw true 1 1 255 255
def RING_CFG.BURST : Fld := fld 518 24 7 .rw true 16 1 64 64
def RING_CFG.KEEP_FCS : Fld := fld 519 31 1 .rw true 0
def RING_CFG.STARVE_US : Fld := fld 520 32 10 .rw true 100 1 1000 1000
def RING_CFG.PUB_BATCH : Fld := fld 521 48 8 .rw true 16
-- RING_STATE (R278, 09_host_packet_engine.md)
def RING_STATE.STATE : Fld := fld 522 0 2 .ro false 0
def RING_STATE.FAULT : Fld := fld 523 2 3 .ro false 0
def RING_STATE.HALT_SEEN : Fld := fld 524 5 1 .w1c false 0
def RING_STATE.HW_INDEX : Fld := fld 525 32 32 .ro false 0
-- RING_RX_HOLD (R278, 09_host_packet_engine.md)
def RING_RX_HOLD.HOLD_KIB : Fld := fld 526 0 14 .rw true 256 16 8192 8192
-- RING_PROGRESS (R278, 09_host_packet_engine.md)
def RING_PROGRESS.SW_SEEN : Fld := fld 527 0 32 .ro false 0
def RING_PROGRESS.NEXT : Fld := fld 528 32 32 .ro false 0
-- RING_CNT (R279, 09_host_packet_engine.md)
def RING_CNT.COUNT (k : Nat) : Fld := fld (529 + k) 0 48 .rc false 0
-- HPE_FN_CFG (R278, 09_host_packet_engine.md)
def HPE_FN_CFG.ENABLE : Fld := fld 537 0 1 .rw true 0
def HPE_FN_CFG.BRIDGE_ID : Fld := fld 538 16 16 .rw true 0
-- HPE_FN_STATUS (R278, 09_host_packet_engine.md)
def HPE_FN_STATUS.RESET_BUSY : Fld := fld 539 0 1 .ro false 0
def HPE_FN_STATUS.RESET_DONE : Fld := fld 540 1 1 .w1c false 0
def HPE_FN_STATUS.BAD_DB_SEEN : Fld := fld 541 2 1 .w1c false 0
def HPE_FN_STATUS.HALT_ANY : Fld := fld 542 3 1 .ro false 0
def HPE_FN_STATUS.TXQ_COUNT : Fld := fld 543 16 13 .ro false 0
def HPE_FN_STATUS.RXQ_COUNT : Fld := fld 544 32 13 .ro false 0
-- HPE_F_BAD_DOORBELL (R279, 09_host_packet_engine.md)
def HPE_F_BAD_DOORBELL.COUNT : Fld := fld 545 0 48 .rc false 0
-- HPE_F_RESETS (R279, 09_host_packet_engine.md)
def HPE_F_RESETS.COUNT : Fld := fld 546 0 48 .rc false 0
-- HPE_F_REPLY_DISCARD (R279, 09_host_packet_engine.md)
def HPE_F_REPLY_DISCARD.COUNT : Fld := fld 547 0 48 .rc false 0
-- HPE_RX_NOQ_DROP (R279, 09_host_packet_engine.md)
def HPE_RX_NOQ_DROP.COUNT : Fld := fld 548 0 48 .rc false 0
-- HPE_LATE_COMPLETION (R279, 09_host_packet_engine.md)
def HPE_LATE_COMPLETION.COUNT : Fld := fld 549 0 48 .rc false 0
-- EVC_STATUS (R297, 10_event_controller.md)
def EVC_STATUS.NO_TARGET_SEEN : Fld := fld 550 0 1 .w1c false 0
def EVC_STATUS.READY_COUNT : Fld := fld 551 16 11 .ro false 0
-- EVC_PEND_SET (R297, 10_event_controller.md)
def EVC_PEND_SET.SOURCE : Fld := fld 552 0 16 .wo false 0
-- EVC_PEND_CLR (R297, 10_event_controller.md)
def EVC_PEND_CLR.SOURCE : Fld := fld 553 0 16 .wo false 0
-- EVC_BAD_PEND_SET (R298, 10_event_controller.md)
def EVC_BAD_PEND_SET.COUNT : Fld := fld 554 0 48 .rc false 0
-- EVC_NO_TARGET (R298, 10_event_controller.md)
def EVC_NO_TARGET.COUNT : Fld := fld 555 0 48 .rc false 0
-- EVC_SB_GLITCH (R298, 10_event_controller.md)
def EVC_SB_GLITCH.COUNT : Fld := fld 556 0 48 .rc false 0
-- EVC_SB_FILT (R297, 10_event_controller.md)
def EVC_SB_FILT.FILT_INT : Fld := fld 557 0 8 .rw true 16 1 255 255
def EVC_SB_FILT.FILT_PRS : Fld := fld 558 8 8 .rw true 16 1 255 255
def EVC_SB_FILT.FILT_WAKE : Fld := fld 559 16 8 .rw true 16 1 255 255
def EVC_SB_FILT.FILT_LOCKUP : Fld := fld 560 24 8 .rw true 16 1 255 255
-- EVC_SB_INT_0 (R297, 10_event_controller.md)
def EVC_SB_INT_0.LEVEL : Fld := fld 561 0 64 .ro false 0
-- EVC_SB_INT_1 (R297, 10_event_controller.md)
def EVC_SB_INT_1.LEVEL : Fld := fld 562 0 64 .ro false 0
-- EVC_SB_PRS_0 (R297, 10_event_controller.md)
def EVC_SB_PRS_0.LEVEL : Fld := fld 563 0 64 .ro false 0
-- EVC_SB_PRS_1 (R297, 10_event_controller.md)
def EVC_SB_PRS_1.LEVEL : Fld := fld 564 0 64 .ro false 0
-- EVC_SB_MISC (R297, 10_event_controller.md)
def EVC_SB_MISC.WAKE : Fld := fld 565 0 1 .ro false 0
def EVC_SB_MISC.LOCKUP : Fld := fld 566 1 1 .ro false 0
def EVC_SB_MISC.GLITCH_SEEN : Fld := fld 567 2 1 .w1c false 0
-- EVC_TGT_CFG (R297, 10_event_controller.md)
def EVC_TGT_CFG.ENABLE : Fld := fld 568 0 1 .rw true 0
def EVC_TGT_CFG.DEST : Fld := fld 569 1 1 .rw true 0
def EVC_TGT_CFG.BRIDGE_ID : Fld := fld 570 16 16 .rw true 0
-- EVC_TGT_ADDR (R297, 10_event_controller.md)
def EVC_TGT_ADDR.MSG_ADDR : Fld := fld 571 2 62 .rw true 0
-- EVC_TGT_CLAIM (R297, 10_event_controller.md)
def EVC_TGT_CLAIM.VECTOR : Fld := fld 572 0 10 .rc false 0
def EVC_TGT_CLAIM.PRIO : Fld := fld 573 10 4 .rc false 0
def EVC_TGT_CLAIM.VALID : Fld := fld 574 14 1 .rc false 0
def EVC_TGT_CLAIM.SOURCE : Fld := fld 575 16 16 .rc false 0
-- EVC_TGT_CLAIM_CAUSE (R297, 10_event_controller.md)
def EVC_TGT_CLAIM_CAUSE.CAUSE : Fld := fld 576 0 32 .ro false 0
def EVC_TGT_CLAIM_CAUSE.EVENTS : Fld := fld 577 32 16 .ro false 0
def EVC_TGT_CLAIM_CAUSE.SW : Fld := fld 578 48 1 .ro false 0
def EVC_TGT_CLAIM_CAUSE.LIVE : Fld := fld 579 49 1 .ro false 0
-- EVC_TGT_EOI (R297, 10_event_controller.md)
def EVC_TGT_EOI.VECTOR : Fld := fld 580 0 10 .wo false 0
def EVC_TGT_EOI.IDLE : Fld := fld 581 14 1 .wo false 0
-- EVC_TGT_PRIO (R297, 10_event_controller.md)
def EVC_TGT_PRIO.CUR_PRIO : Fld := fld 582 0 4 .rw false 0
def EVC_TGT_PRIO.IS_PRIO : Fld := fld 583 4 4 .ro false 0
def EVC_TGT_PRIO.SENT_COUNT : Fld := fld 584 8 11 .ro false 0
def EVC_TGT_PRIO.ACTIVE_COUNT : Fld := fld 585 24 4 .ro false 0
-- EVC_T_MSGS (R298, 10_event_controller.md)
def EVC_T_MSGS.COUNT : Fld := fld 586 0 48 .rc false 0
-- EVC_T_EMPTY_CLAIM (R298, 10_event_controller.md)
def EVC_T_EMPTY_CLAIM.COUNT : Fld := fld 587 0 32 .rc false 0
-- EVC_T_BAD_EOI (R298, 10_event_controller.md)
def EVC_T_BAD_EOI.COUNT : Fld := fld 588 0 32 .rc false 0
-- EVC_TSET (R297, 10_event_controller.md)
def EVC_TSET.MASK (k : Nat) : Fld := fld (589 + k) 0 64 .rw true 0
-- EVC_VEC_CFG (R297, 10_event_controller.md)
def EVC_VEC_CFG.PRIO : Fld := fld 593 0 4 .rw true 1 1 15 15
def EVC_VEC_CFG.ROUTE : Fld := fld 594 4 1 .rw true 0
def EVC_VEC_CFG.TSET : Fld := fld 595 8 6 .rw true 0
def EVC_VEC_CFG.COAL_COUNT : Fld := fld 596 16 10 .rw true 0
def EVC_VEC_CFG.COAL_TIME : Fld := fld 597 32 13 .rw true 1 1 8000 8000
-- EVC_VEC_MASK (R297, 10_event_controller.md)
def EVC_VEC_MASK.MASK : Fld := fld 598 0 1 .rw false 1
-- EVC_VEC_STATUS (R297, 10_event_controller.md)
def EVC_VEC_STATUS.STATE : Fld := fld 599 0 3 .ro false 0
def EVC_VEC_STATUS.VANISHED : Fld := fld 600 3 1 .ro false 0
def EVC_VEC_STATUS.VANISHED_SEEN : Fld := fld 601 4 1 .w1c false 0
def EVC_VEC_STATUS.TARGET : Fld := fld 602 8 8 .ro false 0
def EVC_VEC_STATUS.COUNT : Fld := fld 603 16 11 .ro false 0
def EVC_VEC_STATUS.SOURCE : Fld := fld 604 32 16 .ro false 0
-- EVC_VEC_CAUSE (R297, 10_event_controller.md)
def EVC_VEC_CAUSE.CAUSE : Fld := fld 605 0 32 .ro false 0
def EVC_VEC_CAUSE.EVENTS : Fld := fld 606 32 16 .ro false 0
def EVC_VEC_CAUSE.SW : Fld := fld 607 48 1 .ro false 0
def EVC_VEC_CAUSE.LIVE : Fld := fld 608 49 1 .ro false 0
-- EVC_V_EVENTS (R298, 10_event_controller.md)
def EVC_V_EVENTS.COUNT : Fld := fld 609 0 48 .rc false 0
-- EVC_V_CLAIMS (R298, 10_event_controller.md)
def EVC_V_CLAIMS.COUNT : Fld := fld 610 0 48 .rc false 0
-- EVC_V_VANISHED (R298, 10_event_controller.md)
def EVC_V_VANISHED.COUNT : Fld := fld 611 0 48 .rc false 0
-- EVC_V_FORCED_EOI (R298, 10_event_controller.md)
def EVC_V_FORCED_EOI.COUNT : Fld := fld 612 0 48 .rc false 0
-- EVC_SRC_CFG (R297, 10_event_controller.md)
def EVC_SRC_CFG.VECTOR : Fld := fld 613 0 10 .rw true 0
def EVC_SRC_CFG.ENABLE : Fld := fld 614 15 1 .rw true 0
-- EVC_SRC_STATUS (R297, 10_event_controller.md)
def EVC_SRC_STATUS.PENDING : Fld := fld 615 0 1 .ro false 0
def EVC_SRC_STATUS.PRESENT : Fld := fld 616 1 1 .ro false 0
def EVC_SRC_STATUS.KIND_LEVEL : Fld := fld 617 2 1 .ro false 0
def EVC_SRC_STATUS.EVENTS : Fld := fld 618 16 16 .ro false 0
def EVC_SRC_STATUS.LATCH : Fld := fld 619 32 32 .ro false 0
-- CMP_STATUS (R313, 11_kiland_commands.md)
def CMP_STATUS.CPX_STATE : Fld := fld 620 0 4 .ro false 0
def CMP_STATUS.MODE : Fld := fld 621 4 4 .ro false 15
def CMP_STATUS.EXECUTING : Fld := fld 622 8 1 .ro false 0
def CMP_STATUS.WAITING : Fld := fld 623 16 7 .ro false 0
-- CMP_MBOX_CTL (R313, 11_kiland_commands.md)
def CMP_MBOX_CTL.CMD_LEN : Fld := fld 624 0 14 .rw false 32
def CMP_MBOX_CTL.GO : Fld := fld 625 31 1 .wo false 0
-- CMP_MBOX_STATUS (R313, 11_kiland_commands.md)
def CMP_MBOX_STATUS.STATE : Fld := fld 626 0 2 .ro false 0
def CMP_MBOX_STATUS.DONE_SEEN : Fld := fld 627 2 1 .w1c false 0
def CMP_MBOX_STATUS.GO_IGNORED : Fld := fld 628 3 1 .w1c false 0
def CMP_MBOX_STATUS.REPLY_LEN : Fld := fld 629 16 16 .ro false 0
-- CMP_CMDS (R314, 11_kiland_commands.md)
def CMP_CMDS.COUNT : Fld := fld 630 0 48 .rc false 0
-- CMP_REFUSED (R314, 11_kiland_commands.md)
def CMP_REFUSED.COUNT : Fld := fld 631 0 48 .rc false 0
-- CMP_CHECK_ERR (R314, 11_kiland_commands.md)
def CMP_CHECK_ERR.COUNT : Fld := fld 632 0 48 .rc false 0
-- CMP_BUSY (R314, 11_kiland_commands.md)
def CMP_BUSY.COUNT : Fld := fld 633 0 48 .rc false 0
-- CMP_DRY_RUNS (R314, 11_kiland_commands.md)
def CMP_DRY_RUNS.COUNT : Fld := fld 634 0 48 .rc false 0
-- CMP_IMG_STATUS (R337, 12_image_forme_and_modes.md)
def CMP_IMG_STATUS.SOURCE : Fld := fld 635 0 2 .ro false 2
def CMP_IMG_STATUS.CONFLICT : Fld := fld 636 2 1 .ro false 0
def CMP_IMG_STATUS.FALLBACK : Fld := fld 637 3 1 .ro false 0
def CMP_IMG_STATUS.BASE_MODE : Fld := fld 638 4 4 .ro false 15
def CMP_IMG_STATUS.SAFE_OVL_SKIP : Fld := fld 639 8 1 .w1c false 0
def CMP_IMG_STATUS.DIRECT_WRITES : Fld := fld 640 9 1 .ro false 0
def CMP_IMG_STATUS.GENERATION : Fld := fld 641 32 32 .ro false 0
-- CMP_IMG_LOAD (R337, 12_image_forme_and_modes.md)
def CMP_IMG_LOAD.STATUS : Fld := fld 642 0 4 .ro false 0
def CMP_IMG_LOAD.MODE : Fld := fld 643 4 4 .ro false 15
def CMP_IMG_LOAD.SECTION : Fld := fld 644 8 4 .ro false 0
def CMP_IMG_LOAD.COPY : Fld := fld 645 12 1 .ro false 0
def CMP_IMG_LOAD.DETAIL : Fld := fld 646 16 16 .ro false 0
def CMP_IMG_LOAD.OFFSET : Fld := fld 647 32 32 .ro false 0
-- CMP_IMG_COPY_0_GEN (R337, 12_image_forme_and_modes.md)
def CMP_IMG_COPY_0_GEN.GENERATION : Fld := fld 648 0 32 .ro false 0
def CMP_IMG_COPY_0_GEN.LENGTH : Fld := fld 649 32 32 .ro false 0
-- CMP_IMG_COPY_0_INFO (R337, 12_image_forme_and_modes.md)
def CMP_IMG_COPY_0_INFO.STATUS : Fld := fld 650 0 2 .ro false 0
def CMP_IMG_COPY_0_INFO.START_MODE : Fld := fld 651 4 4 .ro false 15
def CMP_IMG_COPY_0_INFO.SECTIONS : Fld := fld 652 8 4 .ro false 0
def CMP_IMG_COPY_0_INFO.RESULT : Fld := fld 653 16 8 .ro false 1
def CMP_IMG_COPY_0_INFO.FAIL_OFFSET : Fld := fld 654 32 32 .ro false 0
-- CMP_IMG_COPY_1_GEN (R337, 12_image_forme_and_modes.md)
def CMP_IMG_COPY_1_GEN.GENERATION : Fld := fld 655 0 32 .ro false 0
def CMP_IMG_COPY_1_GEN.LENGTH : Fld := fld 656 32 32 .ro false 0
-- CMP_IMG_COPY_1_INFO (R337, 12_image_forme_and_modes.md)
def CMP_IMG_COPY_1_INFO.STATUS : Fld := fld 657 0 2 .ro false 0
def CMP_IMG_COPY_1_INFO.START_MODE : Fld := fld 658 4 4 .ro false 15
def CMP_IMG_COPY_1_INFO.SECTIONS : Fld := fld 659 8 4 .ro false 0
def CMP_IMG_COPY_1_INFO.RESULT : Fld := fld 660 16 8 .ro false 1
def CMP_IMG_COPY_1_INFO.FAIL_OFFSET : Fld := fld 661 32 32 .ro false 0
-- CMP_IMG_WRITE (R337, 12_image_forme_and_modes.md)
def CMP_IMG_WRITE.ACTIVE : Fld := fld 662 0 1 .ro false 0
def CMP_IMG_WRITE.COPY : Fld := fld 663 1 1 .ro false 0
def CMP_IMG_WRITE.ISSUER : Fld := fld 664 8 7 .ro false 0
def CMP_IMG_WRITE.NEXT_OFFSET : Fld := fld 665 32 32 .ro false 0
-- CMP_MODE_SWITCHES (R338, 12_image_forme_and_modes.md)
def CMP_MODE_SWITCHES.COUNT : Fld := fld 666 0 48 .rc false 0
-- CMP_MODE_REFUSED (R338, 12_image_forme_and_modes.md)
def CMP_MODE_REFUSED.COUNT : Fld := fld 667 0 48 .rc false 0
-- CMP_IMG_WRITES (R338, 12_image_forme_and_modes.md)
def CMP_IMG_WRITES.COUNT : Fld := fld 668 0 48 .rc false 0
-- CMP_SAFE_OVL_SKIP (R338, 12_image_forme_and_modes.md)
def CMP_SAFE_OVL_SKIP.COUNT : Fld := fld 669 0 48 .rc false 0
-- FLT_REC_STATUS (R358, 13_faults_and_lockup.md)
def FLT_REC_STATUS.VALID : Fld := fld 670 0 1 .ro false 0
def FLT_REC_STATUS.ACKED : Fld := fld 671 1 1 .w1s false 0
def FLT_REC_STATUS.SEV : Fld := fld 672 2 2 .ro false 0
def FLT_REC_STATUS.PEAK_SEV : Fld := fld 673 4 2 .ro false 0
def FLT_REC_STATUS.INJECTED : Fld := fld 674 6 1 .ro false 0
def FLT_REC_STATUS.SOURCE : Fld := fld 675 16 16 .ro false 0
def FLT_REC_STATUS.MERGE_COUNT : Fld := fld 676 32 16 .ro false 0
-- FLT_REC_INFO (R358, 13_faults_and_lockup.md)
def FLT_REC_INFO.INFO : Fld := fld 677 0 32 .ro false 0
-- FLT_REC_TIME_SEC (R358, 13_faults_and_lockup.md)
def FLT_REC_TIME_SEC.SECONDS : Fld := fld 678 0 48 .ro false 0
-- FLT_REC_TIME_NS (R358, 13_faults_and_lockup.md)
def FLT_REC_TIME_NS.NANOSECONDS : Fld := fld 679 0 32 .ro false 0
def FLT_REC_TIME_NS.FRAC_NS : Fld := fld 680 32 16 .ro false 0
def FLT_REC_TIME_NS.TS_VALID : Fld := fld 681 48 1 .ro false 0
-- FLT_REC_MERGE_MAP (R358, 13_faults_and_lockup.md)
def FLT_REC_MERGE_MAP.MAP : Fld := fld 682 0 64 .ro false 0
-- FLT_STATUS (R358, 13_faults_and_lockup.md)
def FLT_STATUS.FAULT_SEEN : Fld := fld 683 0 1 .w1c false 0
def FLT_STATUS.MERGE_SEEN : Fld := fld 684 1 1 .w1c false 0
def FLT_STATUS.SAFE_IN_SEEN : Fld := fld 685 2 1 .w1c false 0
def FLT_STATUS.SAFE_OUT_SEEN : Fld := fld 686 3 1 .w1c false 0
def FLT_STATUS.SAFE_HELD_SEEN : Fld := fld 687 4 1 .w1c false 0
def FLT_STATUS.SAFE : Fld := fld 688 8 1 .ro false 0
def FLT_STATUS.ENTERING : Fld := fld 689 9 1 .ro false 0
def FLT_STATUS.HELD : Fld := fld 690 10 1 .ro false 0
def FLT_STATUS.EXITS_IN_WIN : Fld := fld 691 16 16 .ro false 0
def FLT_STATUS.QUIET_LEFT_MS : Fld := fld 692 32 32 .ro false 0
-- FLT_SAFE_CFG (R358, 13_faults_and_lockup.md)
def FLT_SAFE_CFG.QUIET_MS : Fld := fld 693 0 16 .rw true 10000 1 60000 60000
def FLT_SAFE_CFG.RECOV_CAP : Fld := fld 694 16 4 .rw true 0
def FLT_SAFE_CFG.RECOV_WIN_S : Fld := fld 695 32 16 .rw true 3600 1 65535 65535
-- FLT_LOG_HEAD (R358, 13_faults_and_lockup.md)
def FLT_LOG_HEAD.HEAD : Fld := fld 696 0 32 .ro false 0
-- FLT_MERGED (R359, 13_faults_and_lockup.md)
def FLT_MERGED.COUNT : Fld := fld 697 0 48 .rc false 0
-- FLT_SAFE_ENTRIES (R359, 13_faults_and_lockup.md)
def FLT_SAFE_ENTRIES.COUNT : Fld := fld 698 0 48 .rc false 0
-- FLT_RECOVERIES (R359, 13_faults_and_lockup.md)
def FLT_RECOVERIES.COUNT : Fld := fld 699 0 48 .rc false 0
-- FLT_SAFE_HELD (R359, 13_faults_and_lockup.md)
def FLT_SAFE_HELD.COUNT : Fld := fld 700 0 48 .rc false 0
-- FLT_REACT (R358, 13_faults_and_lockup.md)
def FLT_REACT.R_NOTICE : Fld := fld 701 0 8 .rw true 1
def FLT_REACT.R_DEGRADED : Fld := fld 702 8 8 .rw true 1
def FLT_REACT.R_SERIOUS : Fld := fld 703 16 8 .rw true 17
def FLT_REACT.R_FATAL : Fld := fld 704 24 8 .rw true 32
-- FLT_CNT (R359, 13_faults_and_lockup.md)
def FLT_CNT.COUNT : Fld := fld 705 0 48 .rc false 0
-- FLT_LOG_LO (R358, 13_faults_and_lockup.md)
def FLT_LOG_LO.SOURCE : Fld := fld 706 0 16 .ro false 0
def FLT_LOG_LO.SEV : Fld := fld 707 16 2 .ro false 0
def FLT_LOG_LO.MERGED : Fld := fld 708 18 1 .ro false 0
def FLT_LOG_LO.INJECTED : Fld := fld 709 19 1 .ro false 0
def FLT_LOG_LO.TS_VALID : Fld := fld 710 20 1 .ro false 0
def FLT_LOG_LO.INFO : Fld := fld 711 32 32 .ro false 0
-- FLT_LOG_HI (R358, 13_faults_and_lockup.md)
def FLT_LOG_HI.NANOSECONDS : Fld := fld 712 0 32 .ro false 0
def FLT_LOG_HI.SECONDS : Fld := fld 713 32 32 .ro false 0
-- LCK_CFG (R358, 13_faults_and_lockup.md)
def LCK_CFG.PIN_EN : Fld := fld 714 0 1 .rw true 1
def LCK_CFG.SIDE_EN : Fld := fld 715 1 1 .rw true 1
def LCK_CFG.TAP_EN : Fld := fld 716 2 1 .rw true 1
def LCK_CFG.CMD_EN : Fld := fld 717 3 1 .rw true 1
def LCK_CFG.CAPTURE_EN : Fld := fld 718 4 1 .rw true 1
def LCK_CFG.KEEP_FIRST : Fld := fld 719 5 1 .rw true 1
def LCK_CFG.AUTO_RELEASE_MS : Fld := fld 720 16 16 .rw true 0
-- LCK_STATUS (R358, 13_faults_and_lockup.md)
def LCK_STATUS.LOCKED : Fld := fld 721 0 1 .ro false 0
def LCK_STATUS.CAPTURING : Fld := fld 722 1 1 .ro false 0
def LCK_STATUS.VALID : Fld := fld 723 2 1 .ro false 0
def LCK_STATUS.CAUSE : Fld := fld 724 3 3 .ro false 0
def LCK_STATUS.DISCARD_SEEN : Fld := fld 725 6 1 .w1c false 0
def LCK_STATUS.RELEASE_WAIT : Fld := fld 726 7 1 .ro false 0
def LCK_STATUS.LOCKUPS : Fld := fld 727 16 16 .ro false 0
-- LCK_SIDE_CTL (R358, 13_faults_and_lockup.md)
def LCK_SIDE_CTL.TRIGGER : Fld := fld 728 0 1 .wo false 0
def LCK_SIDE_CTL.RELEASE : Fld := fld 729 1 1 .wo false 0
def LCK_SIDE_CTL.CLEAR : Fld := fld 730 2 1 .wo false 0
-- CPX_START (R374, 14_start_up_and_reset.md)
def CPX_START.STEP : Fld := fld 731 0 4 .ro false 1
def CPX_START.BOOT_TRIES : Fld := fld 732 4 2 .ro false 0
def CPX_START.BOOT_FAIL : Fld := fld 733 6 1 .ro false 0
def CPX_START.GAL_FAIL : Fld := fld 734 7 1 .ro false 0
def CPX_START.CAUSE : Fld := fld 735 8 3 .ro false 0
def CPX_START.READY_MS : Fld := fld 736 16 16 .ro false 0
def CPX_START.STARTS : Fld := fld 737 32 32 .ro false 0
-- CPX_ID (R383, 15_register_map.md)
def CPX_ID.DEVICE : Fld := fld 738 0 16 .ro false 52752
def CPX_ID.FAMILY : Fld := fld 739 16 8 .ro false 9
def CPX_ID.REV_MINOR : Fld := fld 740 24 4 .ro false 0
def CPX_ID.REV_MAJOR : Fld := fld 741 28 4 .ro false 0
-- CPX_SERIAL (R383, 15_register_map.md)
def CPX_SERIAL.SERIAL : Fld := fld 742 0 64 .ro false 0
-- CPX_FW_VERSION (R383, 15_register_map.md)
def CPX_FW_VERSION.VERSION : Fld := fld 743 0 32 .ro false 0
-- CPX_CAPS (R383, 15_register_map.md)
def CPX_CAPS.LANES : Fld := fld 744 0 16 .ro false 1024
def CPX_CAPS.BANKS : Fld := fld 745 16 8 .ro false 16
def CPX_CAPS.RECIRC : Fld := fld 746 24 8 .ro false 8
def CPX_CAPS.FUNCTIONS : Fld := fld 747 32 8 .ro false 64
def CPX_CAPS.PROFILES : Fld := fld 748 40 8 .ro false 64
def CPX_CAPS.ENGINES : Fld := fld 749 48 8 .ro false 16
def CPX_CAPS.STACKS : Fld := fld 750 56 8 .ro false 4
-- CPX_SCRATCH (R383, 15_register_map.md)
def CPX_SCRATCH.SCRATCH : Fld := fld 751 0 64 .rw false 0
-- CPX_PD_ON (R383, 15_register_map.md)
def CPX_PD_ON.ON : Fld := fld 752 0 35 .ro false 0
-- CPX_PD_BUSY (R383, 15_register_map.md)
def CPX_PD_BUSY.BUSY : Fld := fld 753 0 35 .ro false 0
-- CPX_PD_CTL (R383, 15_register_map.md)
def CPX_PD_CTL.REQ : Fld := fld 754 0 35 .rw true 17179869184
-- CPX_ACCESS_ERR (R385, 15_register_map.md)
def CPX_ACCESS_ERR.OFFSET : Fld := fld 755 0 26 .ro false 0
def CPX_ACCESS_ERR.SIZE : Fld := fld 756 26 3 .ro false 0
def CPX_ACCESS_ERR.WRITE : Fld := fld 757 29 1 .ro false 0
def CPX_ACCESS_ERR.CAUSE : Fld := fld 758 30 1 .ro false 0
def CPX_ACCESS_ERR.AGENT : Fld := fld 759 31 1 .ro false 0
def CPX_ACCESS_ERR.VALID : Fld := fld 760 32 1 .w1c false 0
def CPX_ACCESS_ERR.MORE : Fld := fld 761 33 1 .w1c false 0
-- CPX_BAD_ACCESS (R385, 15_register_map.md)
def CPX_BAD_ACCESS.COUNT : Fld := fld 762 0 48 .rc false 0
-- HPE_DOORBELL (R386, 15_register_map.md)
def HPE_DOORBELL.VALUE : Fld := fld 763 0 32 .wo false 0
-- HPE_PAGE_RESET (R386, 15_register_map.md)
def HPE_PAGE_RESET.RESET : Fld := fld 764 0 1 .wo false 0
-- HPE_PAGE_STATUS (R386, 15_register_map.md)
def HPE_PAGE_STATUS.RESET_BUSY : Fld := fld 765 0 1 .ro false 0
def HPE_PAGE_STATUS.RESET_DONE : Fld := fld 766 1 1 .w1c false 0
def HPE_PAGE_STATUS.ENABLED : Fld := fld 767 2 1 .ro false 0
-- COX_C_CNT (R187, 06_egress_scheduling.md)
def COX_C_CNT.COUNT (k : Nat) : Fld := fld (768 + k) 0 48 .rc false 0
-- COX_P_CNT (R187, 06_egress_scheduling.md)
def COX_P_CNT.COUNT (k : Nat) : Fld := fld (776 + k) 0 48 .rc false 0
/-- Round-robin pointer rr_last of target set i (R287). -/
def X.EVC_RR : Fld := fld 784 0 8 .ro false 255
/-- Messages sent to target i, modulo 256 (R288). -/
def X.EVC_MSEQ : Fld := fld 785 0 8 .ro false 0
/-- PRIO of vector i as it was at its claim (R290). -/
def X.EVC_CLAIM_PRIO : Fld := fld 786 0 4 .ro false 0
/-- Routing of vector i has found no enabled target since its last search that found one (R295). -/
def X.EVC_NO_TGT_RUN : Fld := fld 787 0 1 .ro false 0
/-- A software set contributed to what source i holds pending (R286). -/
def X.EVC_SRC_SW : Fld := fld 788 0 1 .ro false 0
/-- The complex has entered READY since its last complex reset (R348). -/
def X.CMP_READY : Fld := fld 789 0 1 .ro false 0
/-- Consecutive good REF_OCT windows of eight i, held at 3 (R32). -/
def X.REF_GOOD : Fld := fld 790 0 2 .ro false 0
/-- The lanes of eight i are held OFF until three good windows (R32). -/
def X.REF_HOLD : Fld := fld 791 0 1 .ro false 0
/-- Priorities of port i reported XOFF to the MAC (GAL_FC_STATUS.TX_XOFF but for falls not yet reported) (R213). -/
def X.GAL_REP : Fld := fld 792 0 8 .ro false 0
/-- Read point of class i within its extent (R152). -/
def X.GAL_RD_OFF : Fld := fld 793 0 21 .ro false 0
/-- Class from which port i last released (0 at reset, so that the rotation starts at class 15) (R136). -/
def X.GAL_RR : Fld := fld 794 0 4 .ro false 0
/-- Value loaded into receive timer i: port x 9 + priority, the port timer at + 8 (R149). -/
def X.FC_TIMER : Fld := fld 795 0 16 .ro false 0
/-- The pause refresh interval of port i runs (R148). -/
def X.FC_REFRESH : Fld := fld 796 0 1 .ro false 0
/-- A stop is pending on port i (R208). -/
def X.GATE_STOP_PEND : Fld := fld 797 0 1 .ro false 0
/-- Slot of the pending list of port i (R205). -/
def X.GATE_PSLOT : Fld := fld 798 0 1 .ro false 0
/-- Pass of the transmit round (R257). -/
def X.HPE_PASS : Fld := fld 799 0 8 .ro false 1
/-- One past the queue last visited in the pass (R257). -/
def X.HPE_LAST : Fld := fld 800 0 13 .ro false 0
/-- One past the queue whose visit continues inside a frame, 0 for none (R257). -/
def X.HPE_CUR : Fld := fld 801 0 13 .ro false 0
/-- Milliseconds walked since the last PASS of record i (R235). -/
def X.PRF_AGE : Fld := fld 802 0 12 .ro false 0
/-- Port from which the stamp mover last moved a record (R201). -/
def X.STAMP_RR : Fld := fld 803 0 11 .ro false 0
/-- Extent i is marked for retirement (R144). -/
def X.GAL_MARK : Fld := fld 804 0 1 .ro false 0
/-- Corrected errors counted in extent i (R144). -/
def X.GAL_EXT_CE : Fld := fld 805 0 8 .ro false 0
/-- Profile by which record i was last judged (R235). -/
def X.PRF_BY : Fld := fld 806 0 6 .ro false 0
/-- IMPR_ADDR of the IMPR instrument: index of an 8-byte word of the impression (R354). -/
def X.IMPR_ADDR : Fld := fld 807 0 15 .ro false 0
/-- Filter clock of sideband line i is stopped: MOD_INT_L 0 to 127, MOD_PRS_L 128 to 255, CPX_WAKE 256, LOCKUP_REQ 257 (R283). -/
def X.SB_STOP : Fld := fld 808 0 1 .ro false 0
/-- Extent i has left the usable pool for good (R144). -/
def X.GAL_OUT : Fld := fld 809 0 1 .ro false 0
/-- Cell the scrub visits next: extent × 8192 + cell, 65536 × 8192 when the pass has visited all (R143). -/
def X.GAL_SCRUB_POS : Fld := fld 810 0 30 .ro false 0
/-- The function whose telemetry ring the current walk writes (R182). -/
def X.TELEM_FUNC : Fld := fld 811 0 6 .ro false 0
/-- PRIO a vector's message carries: its value at the commit (R288, R296). -/
def X.EVC_PRIO : Fld := fld 812 0 4 .ro false 0
/-- COAL_COUNT in force for the vector's gathering (R296). -/
def X.EVC_COAL : Fld := fld 813 0 10 .ro false 0
/-- The port was created on lanes whose classes may have been left scheduled, and is in NONE (R203). -/
def X.GATE_FRESH : Fld := fld 814 0 1 .ro false 0
/-- The switch into ECONOMY waits for domain 33 to be OFF before its event and its reply (Table 116 steps 5 and 6). -/
def X.CMP_ECO : Fld := fld 815 0 1 .ro false 0
/-- A ring halt of the source has occurred since its last claim (Table 93). -/
def X.EVC_HALT : Fld := fld 816 0 1 .ro false 0

end F

end Sys2Proof.Machine
end

