-- ==== Sys2Proof/Machine/RegMap.lean ====
section
/-!
DEFINITION. The register map (R375, R376, R387; Tables 133 to 146): the places registers lie at, the registers of each
place with their offsets and widths, and the decoding of an offset of the window into a place, an object number and an
offset within it.
-/
namespace Sys2Proof.Machine
open F

/-- The places of Table 134, with the global blocks of the window taken as one place of absolute offsets. -/
inductive Place where
  | glob | bank | eight | lane | pcs | launch | mac | galch | galport | galclass | coxport | coxclass | ptn | lat
  | timport | gateport | gateclass | heat | eng | prof | stream | txalive | record | ring | fn | page | tgt | tset | vec
  | srccfg | srcstat | react | fltcnt | log
  deriving DecidableEq, Repr

/-- One register: its place, its offset there, its width (a 128-bit register is two of 64) and its fields. -/
structure RegDef where
  name : String
  place : Place
  off : Nat
  width : Nat
  flds : List Fld
  deriving Repr

def regs_eight : List RegDef := [
  ⟨"LN_EIGHT_PORTMAP", .eight, 0xC004, 32, (List.range 8).map LN_EIGHT_PORTMAP.WIDTH ++ (List.range 8).map LN_EIGHT_PORTMAP.FIRST⟩,
  ⟨"LN_EIGHT_STATUS", .eight, 0xC000, 32, [LN_EIGHT_STATUS.REF_OK, LN_EIGHT_STATUS.REF_FAULT, LN_EIGHT_STATUS.TX_PLL_LOCK, LN_EIGHT_STATUS.TX_PLL_UNLOCK, LN_EIGHT_STATUS.MIRROR_STALE, LN_EIGHT_STATUS.RESET_ACTIVE, LN_EIGHT_STATUS.REF_COUNT]⟩]

def regs_bank : List RegDef := [
  ⟨"MAC_BANK_DEAL", .bank, 0x10, 32, [MAC_BANK_DEAL.SLICE_EN, MAC_BANK_DEAL.SLICE_READY, MAC_BANK_DEAL.SLICE_WAIT]⟩,
  ⟨"LN_BANK_STATUS", .bank, 0x0, 32, [LN_BANK_STATUS.TX_PD, LN_BANK_STATUS.RX_PD, LN_BANK_STATUS.RESET_ACTIVE, LN_BANK_STATUS.REF_FAULT_SUM, LN_BANK_STATUS.PLL_UNLOCK_SUM]⟩]

def regs_glob : List RegDef := [
  ⟨"MAC_GLOBAL_DEAL", .glob, 0x410, 32, [MAC_GLOBAL_DEAL.SLICE_EN, MAC_GLOBAL_DEAL.SLICE_READY, MAC_GLOBAL_DEAL.SLICE_WAIT]⟩,
  ⟨"GAL_CTL", .glob, 0x2000000, 32, [GAL_CTL.SERVICE, GAL_CTL.CE_THRESH, GAL_CTL.AGE_MAX]⟩,
  ⟨"GAL_STATUS", .glob, 0x2000008, 32, [GAL_STATUS.TRAINED, GAL_STATUS.CLEARED, GAL_STATUS.IN_SERVICE, GAL_STATUS.CH_FAIL, GAL_STATUS.SPARE_OUT, GAL_STATUS.UE_SEEN, GAL_STATUS.OVERRUN_SEEN, GAL_STATUS.RATE]⟩,
  ⟨"GAL_SCRUB", .glob, 0x2000010, 32, [GAL_SCRUB.PERIOD_S, GAL_SCRUB.EN]⟩,
  ⟨"GAL_EXT", .glob, 0x2000018, 64, [GAL_EXT.USABLE, GAL_EXT.COMMITTED, GAL_EXT.SPARE_LEFT, GAL_EXT.RETIRED]⟩,
  ⟨"GAL_CE", .glob, 0x2000100, 64, [GAL_CE.COUNT]⟩,
  ⟨"GAL_UE", .glob, 0x2000108, 64, [GAL_UE.COUNT]⟩,
  ⟨"GAL_SCRUB_PASS", .glob, 0x2000110, 64, [GAL_SCRUB_PASS.COUNT]⟩,
  ⟨"COX_TELEM_CFG", .glob, 0x2200000, 64, [COX_TELEM_CFG.EN, COX_TELEM_CFG.FUNC, COX_TELEM_CFG.INTERVAL_US]⟩,
  ⟨"COX_TELEM_STATUS", .glob, 0x2200008, 64, [COX_TELEM_STATUS.WALKING, COX_TELEM_STATUS.LATE_SEEN, COX_TELEM_STATUS.WALK, COX_TELEM_STATUS.QUEUES]⟩,
  ⟨"COX_CNT_SEL", .glob, 0x2200020, 32, [COX_CNT_SEL.INDEX, COX_CNT_SEL.OBJ, COX_CNT_SEL.CLEAR, COX_CNT_SEL.READY]⟩,
  ⟨"COX_CNT_0", .glob, 0x2200040, 64, [COX_CNT.COUNT 0]⟩,
  ⟨"COX_CNT_1", .glob, 0x2200048, 64, [COX_CNT.COUNT 1]⟩,
  ⟨"COX_CNT_2", .glob, 0x2200050, 64, [COX_CNT.COUNT 2]⟩,
  ⟨"COX_CNT_3", .glob, 0x2200058, 64, [COX_CNT.COUNT 3]⟩,
  ⟨"COX_CNT_4", .glob, 0x2200060, 64, [COX_CNT.COUNT 4]⟩,
  ⟨"COX_CNT_5", .glob, 0x2200068, 64, [COX_CNT.COUNT 5]⟩,
  ⟨"COX_CNT_6", .glob, 0x2200070, 64, [COX_CNT.COUNT 6]⟩,
  ⟨"COX_CNT_7", .glob, 0x2200078, 64, [COX_CNT.COUNT 7]⟩,
  ⟨"COX_BAD_NOTICE", .glob, 0x2200100, 64, [COX_BAD_NOTICE.COUNT]⟩,
  ⟨"COX_TELEM_LATE", .glob, 0x2200108, 64, [COX_TELEM_LATE.COUNT]⟩,
  ⟨"COX_TELEM_RECORDS", .glob, 0x2200110, 64, [COX_TELEM_RECORDS.COUNT]⟩,
  ⟨"TIM_CTL", .glob, 0x2400000, 32, [TIM_CTL.EN]⟩,
  ⟨"TIM_STATUS", .glob, 0x2400008, 32, [TIM_STATUS.RUNNING, TIM_STATUS.SET, TIM_STATUS.STEP_SEEN, TIM_STATUS.STEP_ERR, TIM_STATUS.STEP_COUNT]⟩]

def regs_glob_2 : List RegDef := [
  ⟨"TIM_SNAP", .glob, 0x2400010, 32, [TIM_SNAP.GO, TIM_SNAP.READY]⟩,
  ⟨"TIM_SNAP_SEC", .glob, 0x2400018, 64, [TIM_SNAP_SEC.SECONDS]⟩,
  ⟨"TIM_SNAP_NS", .glob, 0x2400020, 64, [TIM_SNAP_NS.NANOSECONDS, TIM_SNAP_NS.FRAC_NS]⟩,
  ⟨"TIM_FREQ_ADJ", .glob, 0x2400028, 64, [TIM_FREQ_ADJ.FREQ_ADJ]⟩,
  ⟨"TIM_STEP_SEC", .glob, 0x2400030, 64, [TIM_STEP_SEC.SECONDS]⟩,
  ⟨"TIM_STEP_NS", .glob, 0x2400038, 64, [TIM_STEP_NS.NANOSECONDS, TIM_STEP_NS.FRAC_NS]⟩,
  ⟨"TIM_STEP_CTL", .glob, 0x2400040, 32, [TIM_STEP_CTL.GO, TIM_STEP_CTL.MODE, TIM_STEP_CTL.NEG, TIM_STEP_CTL.BUSY]⟩,
  ⟨"TIM_SLEW", .glob, 0x2400048, 64, [TIM_SLEW.OFFSET, TIM_SLEW.RATE_PPM]⟩,
  ⟨"TIM_SLEW_CTL", .glob, 0x2400050, 64, [TIM_SLEW_CTL.GO, TIM_SLEW_CTL.ACTIVE, TIM_SLEW_CTL.LEFT]⟩,
  ⟨"PRF_DIS_INFO", .glob, 0x2600000, 64, [PRF_DIS_INFO.VALID, PRF_DIS_INFO.MORE, PRF_DIS_INFO.REC, PRF_DIS_INFO.ALIVE, PRF_DIS_INFO.PORT]⟩,
  ⟨"PRF_DIS_CHK", .glob, 0x2600008, 64, [PRF_DIS_CHK.FIRST, PRF_DIS_CHK.SECOND]⟩,
  ⟨"PRF_TX_TRAILERS", .glob, 0x2600100, 64, [PRF_TX_TRAILERS.COUNT]⟩,
  ⟨"PRF_TX_SHORT_SPAN", .glob, 0x2600108, 64, [PRF_TX_SHORT_SPAN.COUNT]⟩,
  ⟨"HPE_STATUS", .glob, 0x2800000, 32, [HPE_STATUS.RX_STORE_KIB, HPE_STATUS.TX_STORE_KIB, HPE_STATUS.RX_HELD]⟩,
  ⟨"HPE_RX_NOQ_DROP", .glob, 0x2800100, 64, [HPE_RX_NOQ_DROP.COUNT]⟩,
  ⟨"HPE_LATE_COMPLETION", .glob, 0x2800108, 64, [HPE_LATE_COMPLETION.COUNT]⟩,
  ⟨"EVC_STATUS", .glob, 0x3000000, 32, [EVC_STATUS.NO_TARGET_SEEN, EVC_STATUS.READY_COUNT]⟩,
  ⟨"EVC_PEND_SET", .glob, 0x3000008, 32, [EVC_PEND_SET.SOURCE]⟩,
  ⟨"EVC_PEND_CLR", .glob, 0x3000010, 32, [EVC_PEND_CLR.SOURCE]⟩,
  ⟨"EVC_BAD_PEND_SET", .glob, 0x3000100, 64, [EVC_BAD_PEND_SET.COUNT]⟩,
  ⟨"EVC_NO_TARGET", .glob, 0x3000108, 64, [EVC_NO_TARGET.COUNT]⟩,
  ⟨"EVC_SB_GLITCH", .glob, 0x3000110, 64, [EVC_SB_GLITCH.COUNT]⟩,
  ⟨"EVC_SB_FILT", .glob, 0x3001000, 32, [EVC_SB_FILT.FILT_INT, EVC_SB_FILT.FILT_PRS, EVC_SB_FILT.FILT_WAKE, EVC_SB_FILT.FILT_LOCKUP]⟩,
  ⟨"EVC_SB_INT_0", .glob, 0x3001008, 64, [EVC_SB_INT_0.LEVEL]⟩]

def regs_glob_3 : List RegDef := [
  ⟨"EVC_SB_INT_1", .glob, 0x3001010, 64, [EVC_SB_INT_1.LEVEL]⟩,
  ⟨"EVC_SB_PRS_0", .glob, 0x3001018, 64, [EVC_SB_PRS_0.LEVEL]⟩,
  ⟨"EVC_SB_PRS_1", .glob, 0x3001020, 64, [EVC_SB_PRS_1.LEVEL]⟩,
  ⟨"EVC_SB_MISC", .glob, 0x3001028, 32, [EVC_SB_MISC.WAKE, EVC_SB_MISC.LOCKUP, EVC_SB_MISC.GLITCH_SEEN]⟩,
  ⟨"CMP_STATUS", .glob, 0x3200000, 32, [CMP_STATUS.CPX_STATE, CMP_STATUS.MODE, CMP_STATUS.EXECUTING, CMP_STATUS.WAITING]⟩,
  ⟨"CMP_MBOX_CTL", .glob, 0x3200008, 32, [CMP_MBOX_CTL.CMD_LEN, CMP_MBOX_CTL.GO]⟩,
  ⟨"CMP_MBOX_STATUS", .glob, 0x3200010, 32, [CMP_MBOX_STATUS.STATE, CMP_MBOX_STATUS.DONE_SEEN, CMP_MBOX_STATUS.GO_IGNORED, CMP_MBOX_STATUS.REPLY_LEN]⟩,
  ⟨"CMP_CMDS", .glob, 0x3200100, 64, [CMP_CMDS.COUNT]⟩,
  ⟨"CMP_REFUSED", .glob, 0x3200108, 64, [CMP_REFUSED.COUNT]⟩,
  ⟨"CMP_CHECK_ERR", .glob, 0x3200110, 64, [CMP_CHECK_ERR.COUNT]⟩,
  ⟨"CMP_BUSY", .glob, 0x3200118, 64, [CMP_BUSY.COUNT]⟩,
  ⟨"CMP_DRY_RUNS", .glob, 0x3200120, 64, [CMP_DRY_RUNS.COUNT]⟩,
  ⟨"CMP_IMG_STATUS", .glob, 0x3220000, 64, [CMP_IMG_STATUS.SOURCE, CMP_IMG_STATUS.CONFLICT, CMP_IMG_STATUS.FALLBACK, CMP_IMG_STATUS.BASE_MODE, CMP_IMG_STATUS.SAFE_OVL_SKIP, CMP_IMG_STATUS.DIRECT_WRITES, CMP_IMG_STATUS.GENERATION]⟩,
  ⟨"CMP_IMG_LOAD", .glob, 0x3220008, 64, [CMP_IMG_LOAD.STATUS, CMP_IMG_LOAD.MODE, CMP_IMG_LOAD.SECTION, CMP_IMG_LOAD.COPY, CMP_IMG_LOAD.DETAIL, CMP_IMG_LOAD.OFFSET]⟩,
  ⟨"CMP_IMG_COPY_0_GEN", .glob, 0x3220010, 64, [CMP_IMG_COPY_0_GEN.GENERATION, CMP_IMG_COPY_0_GEN.LENGTH]⟩,
  ⟨"CMP_IMG_COPY_0_INFO", .glob, 0x3220018, 64, [CMP_IMG_COPY_0_INFO.STATUS, CMP_IMG_COPY_0_INFO.START_MODE, CMP_IMG_COPY_0_INFO.SECTIONS, CMP_IMG_COPY_0_INFO.RESULT, CMP_IMG_COPY_0_INFO.FAIL_OFFSET]⟩,
  ⟨"CMP_IMG_COPY_1_GEN", .glob, 0x3220020, 64, [CMP_IMG_COPY_1_GEN.GENERATION, CMP_IMG_COPY_1_GEN.LENGTH]⟩,
  ⟨"CMP_IMG_COPY_1_INFO", .glob, 0x3220028, 64, [CMP_IMG_COPY_1_INFO.STATUS, CMP_IMG_COPY_1_INFO.START_MODE, CMP_IMG_COPY_1_INFO.SECTIONS, CMP_IMG_COPY_1_INFO.RESULT, CMP_IMG_COPY_1_INFO.FAIL_OFFSET]⟩,
  ⟨"CMP_IMG_WRITE", .glob, 0x3220030, 64, [CMP_IMG_WRITE.ACTIVE, CMP_IMG_WRITE.COPY, CMP_IMG_WRITE.ISSUER, CMP_IMG_WRITE.NEXT_OFFSET]⟩,
  ⟨"CMP_MODE_SWITCHES", .glob, 0x3220100, 64, [CMP_MODE_SWITCHES.COUNT]⟩,
  ⟨"CMP_MODE_REFUSED", .glob, 0x3220108, 64, [CMP_MODE_REFUSED.COUNT]⟩,
  ⟨"CMP_IMG_WRITES", .glob, 0x3220110, 64, [CMP_IMG_WRITES.COUNT]⟩,
  ⟨"CMP_SAFE_OVL_SKIP", .glob, 0x3220118, 64, [CMP_SAFE_OVL_SKIP.COUNT]⟩,
  ⟨"FLT_REC_STATUS", .glob, 0x3400000, 64, [FLT_REC_STATUS.VALID, FLT_REC_STATUS.ACKED, FLT_REC_STATUS.SEV, FLT_REC_STATUS.PEAK_SEV, FLT_REC_STATUS.INJECTED, FLT_REC_STATUS.SOURCE, FLT_REC_STATUS.MERGE_COUNT]⟩]

def regs_glob_4 : List RegDef := [
  ⟨"FLT_REC_INFO", .glob, 0x3400008, 64, [FLT_REC_INFO.INFO]⟩,
  ⟨"FLT_REC_TIME_SEC", .glob, 0x3400010, 64, [FLT_REC_TIME_SEC.SECONDS]⟩,
  ⟨"FLT_REC_TIME_NS", .glob, 0x3400018, 64, [FLT_REC_TIME_NS.NANOSECONDS, FLT_REC_TIME_NS.FRAC_NS, FLT_REC_TIME_NS.TS_VALID]⟩,
  ⟨"FLT_REC_MERGE_MAP", .glob, 0x3400020, 64, [FLT_REC_MERGE_MAP.MAP]⟩,
  ⟨"FLT_STATUS", .glob, 0x3400028, 64, [FLT_STATUS.FAULT_SEEN, FLT_STATUS.MERGE_SEEN, FLT_STATUS.SAFE_IN_SEEN, FLT_STATUS.SAFE_OUT_SEEN, FLT_STATUS.SAFE_HELD_SEEN, FLT_STATUS.SAFE, FLT_STATUS.ENTERING, FLT_STATUS.HELD, FLT_STATUS.EXITS_IN_WIN, FLT_STATUS.QUIET_LEFT_MS]⟩,
  ⟨"FLT_SAFE_CFG", .glob, 0x3400030, 64, [FLT_SAFE_CFG.QUIET_MS, FLT_SAFE_CFG.RECOV_CAP, FLT_SAFE_CFG.RECOV_WIN_S]⟩,
  ⟨"FLT_LOG_HEAD", .glob, 0x3400038, 32, [FLT_LOG_HEAD.HEAD]⟩,
  ⟨"FLT_MERGED", .glob, 0x3400100, 64, [FLT_MERGED.COUNT]⟩,
  ⟨"FLT_SAFE_ENTRIES", .glob, 0x3400108, 64, [FLT_SAFE_ENTRIES.COUNT]⟩,
  ⟨"FLT_RECOVERIES", .glob, 0x3400110, 64, [FLT_RECOVERIES.COUNT]⟩,
  ⟨"FLT_SAFE_HELD", .glob, 0x3400118, 64, [FLT_SAFE_HELD.COUNT]⟩,
  ⟨"LCK_CFG", .glob, 0x3600000, 32, [LCK_CFG.PIN_EN, LCK_CFG.SIDE_EN, LCK_CFG.TAP_EN, LCK_CFG.CMD_EN, LCK_CFG.CAPTURE_EN, LCK_CFG.KEEP_FIRST, LCK_CFG.AUTO_RELEASE_MS]⟩,
  ⟨"LCK_STATUS", .glob, 0x3600008, 32, [LCK_STATUS.LOCKED, LCK_STATUS.CAPTURING, LCK_STATUS.VALID, LCK_STATUS.CAUSE, LCK_STATUS.DISCARD_SEEN, LCK_STATUS.RELEASE_WAIT, LCK_STATUS.LOCKUPS]⟩,
  ⟨"LCK_SIDE_CTL", .glob, 0x3600010, 32, [LCK_SIDE_CTL.TRIGGER, LCK_SIDE_CTL.RELEASE, LCK_SIDE_CTL.CLEAR]⟩,
  ⟨"CPX_START", .glob, 0x200, 64, [CPX_START.STEP, CPX_START.BOOT_TRIES, CPX_START.BOOT_FAIL, CPX_START.GAL_FAIL, CPX_START.CAUSE, CPX_START.READY_MS, CPX_START.STARTS]⟩,
  ⟨"CPX_ID", .glob, 0x0, 32, [CPX_ID.DEVICE, CPX_ID.FAMILY, CPX_ID.REV_MINOR, CPX_ID.REV_MAJOR]⟩,
  ⟨"CPX_SERIAL", .glob, 0x8, 64, [CPX_SERIAL.SERIAL]⟩,
  ⟨"CPX_FW_VERSION", .glob, 0x10, 32, [CPX_FW_VERSION.VERSION]⟩,
  ⟨"CPX_CAPS", .glob, 0x18, 64, [CPX_CAPS.LANES, CPX_CAPS.BANKS, CPX_CAPS.RECIRC, CPX_CAPS.FUNCTIONS, CPX_CAPS.PROFILES, CPX_CAPS.ENGINES, CPX_CAPS.STACKS]⟩,
  ⟨"CPX_SCRATCH", .glob, 0x20, 64, [CPX_SCRATCH.SCRATCH]⟩,
  ⟨"CPX_PD_ON", .glob, 0x100, 64, [CPX_PD_ON.ON]⟩,
  ⟨"CPX_PD_BUSY", .glob, 0x108, 64, [CPX_PD_BUSY.BUSY]⟩,
  ⟨"CPX_PD_CTL", .glob, 0x110, 64, [CPX_PD_CTL.REQ]⟩,
  ⟨"CPX_ACCESS_ERR", .glob, 0x120, 64, [CPX_ACCESS_ERR.OFFSET, CPX_ACCESS_ERR.SIZE, CPX_ACCESS_ERR.WRITE, CPX_ACCESS_ERR.CAUSE, CPX_ACCESS_ERR.AGENT, CPX_ACCESS_ERR.VALID, CPX_ACCESS_ERR.MORE]⟩]

def regs_glob_5 : List RegDef := [
  ⟨"CPX_BAD_ACCESS", .glob, 0x180, 64, [CPX_BAD_ACCESS.COUNT]⟩]

def regs_lane : List RegDef := [
  ⟨"LN_CTL", .lane, 0x0, 32, [LN_CTL.TX_INVERT, LN_CTL.RX_INVERT, LN_CTL.TX_PRECODE, LN_CTL.RX_PRECODE, LN_CTL.LOOPBACK]⟩,
  ⟨"LN_STATUS", .lane, 0x8, 32, [LN_STATUS.LOS, LN_STATUS.LOS_SEEN, LN_STATUS.CDR_LOCK, LN_STATUS.COMMA_LOCK, LN_STATUS.COMMA_STATE, LN_STATUS.PPM_RANGE, LN_STATUS.RX_PPM]⟩,
  ⟨"LN_TX_EQ", .lane, 0x10, 32, [LN_TX_EQ.C_PRE, LN_TX_EQ.C_POST, LN_TX_EQ.AMP]⟩,
  ⟨"LN_RX_EQ", .lane, 0x18, 32, [LN_RX_EQ.PEAK, LN_RX_EQ.POLE, LN_RX_EQ.DCGAIN, LN_RX_EQ.ADAPT, LN_RX_EQ.TRACK]⟩,
  ⟨"LN_EQ_LIVE", .lane, 0x20, 64, [LN_EQ_LIVE.PEAK, LN_EQ_LIVE.POLE, LN_EQ_LIVE.DCGAIN, LN_EQ_LIVE.EYE, LN_EQ_LIVE.C_PRE, LN_EQ_LIVE.C_POST, LN_EQ_LIVE.C_MAIN, LN_EQ_LIVE.AMP]⟩,
  ⟨"LN_EASY", .lane, 0x28, 32, [LN_EASY.TX_EASY, LN_EASY.RX_EASY, LN_EASY.ATTN_ARMED, LN_EASY.ATTN_SEEN, LN_EASY.ATTN_COUNT]⟩,
  ⟨"LN_ATTN", .lane, 0x30, 32, [LN_ATTN.WORDS, LN_ATTN.BUSY, LN_ATTN.SENT]⟩,
  ⟨"LN_PAT_CTL", .lane, 0x38, 32, [LN_PAT_CTL.TX_PAT, LN_PAT_CTL.RX_PAT, LN_PAT_CTL.CHK_LOCK, LN_PAT_CTL.CHK_LOST, LN_PAT_CTL.INJECT]⟩,
  ⟨"LN_PAT_USER", .lane, 0x40, 64, [LN_PAT_USER.USER]⟩,
  ⟨"LN_PAT_BITS", .lane, 0x100, 64, [LN_PAT_BITS.COUNT]⟩,
  ⟨"LN_PAT_ERRS", .lane, 0x108, 64, [LN_PAT_ERRS.COUNT]⟩,
  ⟨"LN_FEC_SYMS", .lane, 0x110, 64, [LN_FEC_SYMS.COUNT]⟩,
  ⟨"LN_COMMA_ERR", .lane, 0x118, 64, [LN_COMMA_ERR.COUNT]⟩,
  ⟨"LN_BIP_ERR", .lane, 0x120, 64, [LN_BIP_ERR.COUNT]⟩,
  ⟨"LN_CDR_UNLOCK", .lane, 0x128, 64, [LN_CDR_UNLOCK.COUNT]⟩]

def regs_pcs : List RegDef := [
  ⟨"PCS_CTL", .pcs, 0x0, 32, [PCS_CTL.PROFILE, PCS_CTL.FEC_DETECT, PCS_CTL.HISER_EN, PCS_CTL.FAR_LOOP, PCS_CTL.HISER_THRESH]⟩,
  ⟨"PCS_STATUS", .pcs, 0x8, 32, [PCS_STATUS.ALIGNED, PCS_STATUS.PROFILE_LIVE, PCS_STATUS.HI_SER, PCS_STATUS.HI_SER_SEEN, PCS_STATUS.ALIGN_LOST, PCS_STATUS.LAYOUT_MISMATCH, PCS_STATUS.SKEW_FAULT, PCS_STATUS.RX_RM_OVF, PCS_STATUS.TX_UNDERRUN, PCS_STATUS.REMOTE_RX_OK]⟩,
  ⟨"PCS_SKEW", .pcs, 0x10, 64, (List.range 8).map PCS_SKEW.SKEW⟩,
  ⟨"PCS_CW", .pcs, 0x100, 64, [PCS_CW.COUNT]⟩,
  ⟨"PCS_CW_CORR", .pcs, 0x108, 64, [PCS_CW_CORR.COUNT]⟩,
  ⟨"PCS_CW_UNCORR", .pcs, 0x110, 64, [PCS_CW_UNCORR.COUNT]⟩,
  ⟨"PCS_HISER", .pcs, 0x118, 64, [PCS_HISER.COUNT]⟩,
  ⟨"PCS_ALIGN_LOSS", .pcs, 0x120, 64, [PCS_ALIGN_LOSS.COUNT]⟩,
  ⟨"PCS_RX_RM_DROP", .pcs, 0x128, 64, [PCS_RX_RM_DROP.COUNT]⟩,
  ⟨"PCS_TX_UNDERRUN_CNT", .pcs, 0x130, 64, [PCS_TX_UNDERRUN_CNT.COUNT]⟩,
  ⟨"PCS_CW_HIST_0", .pcs, 0x180, 64, [PCS_CW_HIST.COUNT 0]⟩,
  ⟨"PCS_CW_HIST_1", .pcs, 0x188, 64, [PCS_CW_HIST.COUNT 1]⟩,
  ⟨"PCS_CW_HIST_2", .pcs, 0x190, 64, [PCS_CW_HIST.COUNT 2]⟩,
  ⟨"PCS_CW_HIST_3", .pcs, 0x198, 64, [PCS_CW_HIST.COUNT 3]⟩,
  ⟨"PCS_CW_HIST_4", .pcs, 0x1A0, 64, [PCS_CW_HIST.COUNT 4]⟩,
  ⟨"PCS_CW_HIST_5", .pcs, 0x1A8, 64, [PCS_CW_HIST.COUNT 5]⟩,
  ⟨"PCS_CW_HIST_6", .pcs, 0x1B0, 64, [PCS_CW_HIST.COUNT 6]⟩,
  ⟨"PCS_CW_HIST_7", .pcs, 0x1B8, 64, [PCS_CW_HIST.COUNT 7]⟩,
  ⟨"PCS_CW_HIST_8", .pcs, 0x1C0, 64, [PCS_CW_HIST.COUNT 8]⟩,
  ⟨"PCS_CW_HIST_9", .pcs, 0x1C8, 64, [PCS_CW_HIST.COUNT 9]⟩,
  ⟨"PCS_CW_HIST_10", .pcs, 0x1D0, 64, [PCS_CW_HIST.COUNT 10]⟩,
  ⟨"PCS_CW_HIST_11", .pcs, 0x1D8, 64, [PCS_CW_HIST.COUNT 11]⟩,
  ⟨"PCS_CW_HIST_12", .pcs, 0x1E0, 64, [PCS_CW_HIST.COUNT 12]⟩,
  ⟨"PCS_CW_HIST_13", .pcs, 0x1E8, 64, [PCS_CW_HIST.COUNT 13]⟩]

def regs_pcs_2 : List RegDef := [
  ⟨"PCS_CW_HIST_14", .pcs, 0x1F0, 64, [PCS_CW_HIST.COUNT 14]⟩,
  ⟨"PCS_CW_HIST_15", .pcs, 0x1F8, 64, [PCS_CW_HIST.COUNT 15]⟩]

def regs_launch : List RegDef := [
  ⟨"LN_LAUNCH_CTL", .launch, 0x0, 64, [LN_LAUNCH_CTL.ENABLE, LN_LAUNCH_CTL.NEG, LN_LAUNCH_CTL.DETECT_COUNT, LN_LAUNCH_CTL.PRS_RESTART, LN_LAUNCH_CTL.LAUNCH_RETRY, LN_LAUNCH_CTL.IEEE_PRE, LN_LAUNCH_CTL.IEEE_POST, LN_LAUNCH_CTL.WAKE_WAIT]⟩,
  ⟨"LN_LAUNCH_STATUS", .launch, 0x8, 64, [LN_LAUNCH_STATUS.STATE, LN_LAUNCH_STATUS.PARTNER, LN_LAUNCH_STATUS.STALL_SEEN, LN_LAUNCH_STATUS.ACTIVE_SEEN, LN_LAUNCH_STATUS.FAILS, LN_LAUNCH_STATUS.LAST_FAIL, LN_LAUNCH_STATUS.QUIET, LN_LAUNCH_STATUS.PRS_ABSENT, LN_LAUNCH_STATUS.PARTNER_W1]⟩,
  ⟨"LN_LAUNCH_COUNT", .launch, 0x10, 64, [LN_LAUNCH_COUNT.INTR, LN_LAUNCH_COUNT.FAIL, LN_LAUNCH_COUNT.STALL, LN_LAUNCH_COUNT.UP]⟩]

def regs_mac : List RegDef := [
  ⟨"MAC_PORT_CFG", .mac, 0x0, 32, [MAC_PORT_CFG.RX_EN, MAC_PORT_CFG.TX_EN, MAC_PORT_CFG.PRE_CHECK, MAC_PORT_CFG.LEN_CHECK, MAC_PORT_CFG.PAUSE_EN, MAC_PORT_CFG.PFC_EN, MAC_PORT_CFG.TX_IPG, MAC_PORT_CFG.MAX_FRAME]⟩,
  ⟨"MAC_PORT_SA", .mac, 0x8, 64, [MAC_PORT_SA.SA]⟩,
  ⟨"MAC_PORT_STATUS", .mac, 0x10, 32, [MAC_PORT_STATUS.RX_UP, MAC_PORT_STATUS.TX_UP, MAC_PORT_STATUS.FCS_ERR_SEEN, MAC_PORT_STATUS.OVERSIZE_SEEN, MAC_PORT_STATUS.LEN_MISMATCH_SEEN, MAC_PORT_STATUS.FC_MISMATCH, MAC_PORT_STATUS.RECIRC_LATE_SEEN, MAC_PORT_STATUS.TX_ABORT_SEEN, MAC_PORT_STATUS.TX_LIMIT]⟩,
  ⟨"MAC_PARTNER", .mac, 0x18, 32, [MAC_PARTNER.MAX_FRAME, MAC_PARTNER.PFC, MAC_PARTNER.PAUSE, MAC_PARTNER.VALID]⟩,
  ⟨"MAC_RX_OK", .mac, 0x100, 64, [MAC_RX_OK.COUNT]⟩,
  ⟨"MAC_RX_OK_BYTES", .mac, 0x108, 64, [MAC_RX_OK_BYTES.COUNT]⟩,
  ⟨"MAC_RX_FCS_ERR", .mac, 0x110, 64, [MAC_RX_FCS_ERR.COUNT]⟩,
  ⟨"MAC_RX_RUNT", .mac, 0x118, 64, [MAC_RX_RUNT.COUNT]⟩,
  ⟨"MAC_RX_FRAGMENT", .mac, 0x120, 64, [MAC_RX_FRAGMENT.COUNT]⟩,
  ⟨"MAC_RX_OVERSIZE", .mac, 0x128, 64, [MAC_RX_OVERSIZE.COUNT]⟩,
  ⟨"MAC_RX_ERR_BLOCK", .mac, 0x130, 64, [MAC_RX_ERR_BLOCK.COUNT]⟩,
  ⟨"MAC_RX_TRUNC", .mac, 0x138, 64, [MAC_RX_TRUNC.COUNT]⟩,
  ⟨"MAC_RX_ABORT", .mac, 0x140, 64, [MAC_RX_ABORT.COUNT]⟩,
  ⟨"MAC_RX_LEN_MISMATCH", .mac, 0x148, 64, [MAC_RX_LEN_MISMATCH.COUNT]⟩,
  ⟨"MAC_RX_PREAMBLE_ERR", .mac, 0x150, 64, [MAC_RX_PREAMBLE_ERR.COUNT]⟩,
  ⟨"MAC_RX_DOWN_DISCARD", .mac, 0x158, 64, [MAC_RX_DOWN_DISCARD.COUNT]⟩,
  ⟨"MAC_RX_CTRL", .mac, 0x160, 64, [MAC_RX_CTRL.COUNT]⟩,
  ⟨"MAC_RX_CTRL_DISCARD", .mac, 0x168, 64, [MAC_RX_CTRL_DISCARD.COUNT]⟩,
  ⟨"MAC_RX_RECIRC_LATE", .mac, 0x170, 64, [MAC_RX_RECIRC_LATE.COUNT]⟩,
  ⟨"MAC_RX_HIST_0", .mac, 0x180, 64, [MAC_RX_HIST.COUNT 0]⟩,
  ⟨"MAC_RX_HIST_1", .mac, 0x188, 64, [MAC_RX_HIST.COUNT 1]⟩,
  ⟨"MAC_RX_HIST_2", .mac, 0x190, 64, [MAC_RX_HIST.COUNT 2]⟩,
  ⟨"MAC_RX_HIST_3", .mac, 0x198, 64, [MAC_RX_HIST.COUNT 3]⟩,
  ⟨"MAC_RX_HIST_4", .mac, 0x1A0, 64, [MAC_RX_HIST.COUNT 4]⟩]

def regs_mac_2 : List RegDef := [
  ⟨"MAC_RX_HIST_5", .mac, 0x1A8, 64, [MAC_RX_HIST.COUNT 5]⟩,
  ⟨"MAC_RX_HIST_6", .mac, 0x1B0, 64, [MAC_RX_HIST.COUNT 6]⟩,
  ⟨"MAC_RX_HIST_7", .mac, 0x1B8, 64, [MAC_RX_HIST.COUNT 7]⟩,
  ⟨"MAC_TX_OK", .mac, 0x200, 64, [MAC_TX_OK.COUNT]⟩,
  ⟨"MAC_TX_OK_BYTES", .mac, 0x208, 64, [MAC_TX_OK_BYTES.COUNT]⟩,
  ⟨"MAC_TX_PADDED", .mac, 0x210, 64, [MAC_TX_PADDED.COUNT]⟩,
  ⟨"MAC_TX_ABORT", .mac, 0x218, 64, [MAC_TX_ABORT.COUNT]⟩,
  ⟨"MAC_TX_OVERSIZE", .mac, 0x220, 64, [MAC_TX_OVERSIZE.COUNT]⟩,
  ⟨"MAC_TX_RUNT", .mac, 0x228, 64, [MAC_TX_RUNT.COUNT]⟩,
  ⟨"MAC_TX_CTRL", .mac, 0x230, 64, [MAC_TX_CTRL.COUNT]⟩,
  ⟨"MAC_TX_HIST_0", .mac, 0x280, 64, [MAC_TX_HIST.COUNT 0]⟩,
  ⟨"MAC_TX_HIST_1", .mac, 0x288, 64, [MAC_TX_HIST.COUNT 1]⟩,
  ⟨"MAC_TX_HIST_2", .mac, 0x290, 64, [MAC_TX_HIST.COUNT 2]⟩,
  ⟨"MAC_TX_HIST_3", .mac, 0x298, 64, [MAC_TX_HIST.COUNT 3]⟩,
  ⟨"MAC_TX_HIST_4", .mac, 0x2A0, 64, [MAC_TX_HIST.COUNT 4]⟩,
  ⟨"MAC_TX_HIST_5", .mac, 0x2A8, 64, [MAC_TX_HIST.COUNT 5]⟩,
  ⟨"MAC_TX_HIST_6", .mac, 0x2B0, 64, [MAC_TX_HIST.COUNT 6]⟩,
  ⟨"MAC_TX_HIST_7", .mac, 0x2B8, 64, [MAC_TX_HIST.COUNT 7]⟩]

def regs_galch : List RegDef := [
  ⟨"GAL_CH_STATUS", .galch, 0x0, 64, [GAL_CH_STATUS.FAILED, GAL_CH_STATUS.CE_COUNT]⟩]

def regs_galport : List RegDef := [
  ⟨"GAL_FC_CFG", .galport, 0x0, 64, [GAL_FC_CFG.FIBRE_M, GAL_FC_CFG.PART_RESP_NS, GAL_FC_CFG.TX_QUANTA]⟩,
  ⟨"GAL_FC_MAP", .galport, 0x8, 64, (List.range 8).map GAL_FC_MAP.RX_PRIO_CLASS ++ [GAL_FC_MAP.DEFAULT_CLASS] ++ [GAL_FC_MAP.RX_IGNORE]⟩,
  ⟨"GAL_FC_TXMAP", .galport, 0x10, 64, (List.range 16).map GAL_FC_TXMAP.TX_CLASS_PRIO⟩,
  ⟨"GAL_FC_STATUS", .galport, 0x18, 32, [GAL_FC_STATUS.TX_XOFF, GAL_FC_STATUS.RX_PAUSED, GAL_FC_STATUS.PORT_XOFF, GAL_FC_STATUS.PORT_PAUSED, GAL_FC_STATUS.HOLDING]⟩,
  ⟨"GAL_P_STORED", .galport, 0x20, 64, [GAL_P_STORED.COUNT]⟩,
  ⟨"GAL_P_STORED_BYTES", .galport, 0x28, 64, [GAL_P_STORED_BYTES.COUNT]⟩,
  ⟨"GAL_P_BYPASS", .galport, 0x30, 64, [GAL_P_BYPASS.COUNT]⟩,
  ⟨"GAL_P_RELEASED", .galport, 0x38, 64, [GAL_P_RELEASED.COUNT]⟩,
  ⟨"GAL_P_BAD_DISCARD", .galport, 0x40, 64, [GAL_P_BAD_DISCARD.COUNT]⟩,
  ⟨"GAL_P_QUOTA_DROP", .galport, 0x48, 64, [GAL_P_QUOTA_DROP.COUNT]⟩,
  ⟨"GAL_P_AGE_DROP", .galport, 0x50, 64, [GAL_P_AGE_DROP.COUNT]⟩,
  ⟨"GAL_P_UE_DROP", .galport, 0x58, 64, [GAL_P_UE_DROP.COUNT]⟩,
  ⟨"GAL_P_FLUSH_DROP", .galport, 0x60, 64, [GAL_P_FLUSH_DROP.COUNT]⟩,
  ⟨"GAL_FC_TX_XOFF_0", .galport, 0x80, 64, [GAL_FC_TX_XOFF.COUNT 0]⟩,
  ⟨"GAL_FC_TX_XOFF_1", .galport, 0x88, 64, [GAL_FC_TX_XOFF.COUNT 1]⟩,
  ⟨"GAL_FC_TX_XOFF_2", .galport, 0x90, 64, [GAL_FC_TX_XOFF.COUNT 2]⟩,
  ⟨"GAL_FC_TX_XOFF_3", .galport, 0x98, 64, [GAL_FC_TX_XOFF.COUNT 3]⟩,
  ⟨"GAL_FC_TX_XOFF_4", .galport, 0xA0, 64, [GAL_FC_TX_XOFF.COUNT 4]⟩,
  ⟨"GAL_FC_TX_XOFF_5", .galport, 0xA8, 64, [GAL_FC_TX_XOFF.COUNT 5]⟩,
  ⟨"GAL_FC_TX_XOFF_6", .galport, 0xB0, 64, [GAL_FC_TX_XOFF.COUNT 6]⟩,
  ⟨"GAL_FC_TX_XOFF_7", .galport, 0xB8, 64, [GAL_FC_TX_XOFF.COUNT 7]⟩,
  ⟨"GAL_FC_RX_PFC_0", .galport, 0xC0, 64, [GAL_FC_RX_PFC.COUNT 0]⟩,
  ⟨"GAL_FC_RX_PFC_1", .galport, 0xC8, 64, [GAL_FC_RX_PFC.COUNT 1]⟩,
  ⟨"GAL_FC_RX_PFC_2", .galport, 0xD0, 64, [GAL_FC_RX_PFC.COUNT 2]⟩]

def regs_galport_2 : List RegDef := [
  ⟨"GAL_FC_RX_PFC_3", .galport, 0xD8, 64, [GAL_FC_RX_PFC.COUNT 3]⟩,
  ⟨"GAL_FC_RX_PFC_4", .galport, 0xE0, 64, [GAL_FC_RX_PFC.COUNT 4]⟩,
  ⟨"GAL_FC_RX_PFC_5", .galport, 0xE8, 64, [GAL_FC_RX_PFC.COUNT 5]⟩,
  ⟨"GAL_FC_RX_PFC_6", .galport, 0xF0, 64, [GAL_FC_RX_PFC.COUNT 6]⟩,
  ⟨"GAL_FC_RX_PFC_7", .galport, 0xF8, 64, [GAL_FC_RX_PFC.COUNT 7]⟩]

def regs_galclass : List RegDef := [
  ⟨"GAL_PC_CFG", .galclass, 0x0, 64, [GAL_PC_CFG.FC_MODE, GAL_PC_CFG.QUOTA_EXT, GAL_PC_CFG.XON_GAP_KIB]⟩,
  ⟨"GAL_PC_CORE", .galclass, 0x8, 64, [GAL_PC_CORE.CORE_XOFF_KIB, GAL_PC_CORE.CORE_XON_KIB]⟩,
  ⟨"GAL_PC_HEADROOM", .galclass, 0x10, 64, [GAL_PC_HEADROOM.HEADROOM]⟩,
  ⟨"GAL_PC_XOFF", .galclass, 0x18, 64, [GAL_PC_XOFF.XOFF_TH]⟩,
  ⟨"GAL_PC_XON", .galclass, 0x20, 64, [GAL_PC_XON.XON_TH]⟩,
  ⟨"GAL_PC_STATUS", .galclass, 0x28, 64, [GAL_PC_STATUS.OCCUPANCY, GAL_PC_STATUS.XOFF, GAL_PC_STATUS.HOLDING, GAL_PC_STATUS.OVER_QUOTA, GAL_PC_STATUS.XOFF_SEEN, GAL_PC_STATUS.DROP_SEEN]⟩,
  ⟨"GAL_PC_PEAK", .galclass, 0x30, 64, [GAL_PC_PEAK.PEAK]⟩,
  ⟨"GAL_PC_DROP", .galclass, 0x38, 64, [GAL_PC_DROP.COUNT]⟩]

def regs_coxport : List RegDef := [
  ⟨"COX_PORT_SHAPER", .coxport, 0x0, 64, [COX_PORT_SHAPER.RATE_KBPS, COX_PORT_SHAPER.BURST]⟩,
  ⟨"COX_PORT_STATUS", .coxport, 0x8, 64, [COX_PORT_STATUS.TOKENS, COX_PORT_STATUS.BLOCKED, COX_PORT_STATUS.PAUSED]⟩,
  ⟨"COX_PORT_VTIME", .coxport, 0x10, 64, [COX_PORT_VTIME.V]⟩,
  ⟨"COX_PORT_GUAR", .coxport, 0x18, 64, [COX_PORT_GUAR.AVAIL_KBPS, COX_PORT_GUAR.FREE_KBPS]⟩]

def regs_coxclass : List RegDef := [
  ⟨"COX_CLASS_CFG", .coxclass, 0x0, 64, [COX_CLASS_CFG.KIND, COX_CLASS_CFG.TELEM, COX_CLASS_CFG.WEIGHT, COX_CLASS_CFG.COMMON_WEIGHT]⟩,
  ⟨"COX_CLASS_SHAPER", .coxclass, 0x8, 64, [COX_CLASS_SHAPER.RATE_KBPS, COX_CLASS_SHAPER.BURST]⟩,
  ⟨"COX_CLASS_GUAR", .coxclass, 0x10, 64, [COX_CLASS_GUAR.GUAR_KBPS]⟩,
  ⟨"COX_CLASS_STATUS", .coxclass, 0x18, 64, [COX_CLASS_STATUS.TOKENS, COX_CLASS_STATUS.BLOCKED, COX_CLASS_STATUS.GATE_OPEN, COX_CLASS_STATUS.PAUSED, COX_CLASS_STATUS.ACTIVE, COX_CLASS_STATUS.BAD_NOTICE_SEEN, COX_CLASS_STATUS.COMMON_DEPTH]⟩]

def regs_ptn : List RegDef := [
  ⟨"PTN_CFG", .ptn, 0x0, 64, [PTN_CFG.ENABLE, PTN_CFG.INNER_ANY, PTN_CFG.TELEM, PTN_CFG.POLICE_EN, PTN_CFG.COLOUR_AWARE, PTN_CFG.PORT, PTN_CFG.EG_CLASS, PTN_CFG.WEIGHT, PTN_CFG.VID_OUT, PTN_CFG.VID_IN]⟩,
  ⟨"PTN_SHAPER", .ptn, 0x8, 64, [PTN_SHAPER.RATE_KBPS, PTN_SHAPER.BURST]⟩,
  ⟨"PTN_GUAR", .ptn, 0x10, 64, [PTN_GUAR.GUAR_KBPS, PTN_GUAR.TEST_B]⟩,
  ⟨"PTN_POL_RATE", .ptn, 0x18, 64, [PTN_POL_RATE.CIR_KBPS, PTN_POL_RATE.PIR_KBPS]⟩,
  ⟨"PTN_POL_BURST", .ptn, 0x20, 64, [PTN_POL_BURST.CBS, PTN_POL_BURST.PBS]⟩,
  ⟨"PTN_SH_STATUS", .ptn, 0x28, 64, [PTN_SH_STATUS.TOKENS, PTN_SH_STATUS.BLOCKED, PTN_SH_STATUS.ACTIVE]⟩,
  ⟨"PTN_POL_STATUS", .ptn, 0x30, 64, [PTN_POL_STATUS.TC, PTN_POL_STATUS.TP]⟩,
  ⟨"PTN_Q_STATUS", .ptn, 0x38, 64, [PTN_Q_STATUS.DEPTH_BYTES, PTN_Q_STATUS.DEPTH_FRAMES]⟩]

def regs_lat : List RegDef := [
  ⟨"TIM_LANE_LAT", .lat, 0x0, 64, [TIM_LANE_LAT.RX_FIXED_PS, TIM_LANE_LAT.TX_FIXED_PS, TIM_LANE_LAT.RX_USER_PS, TIM_LANE_LAT.TX_USER_PS]⟩]

def regs_timport : List RegDef := [
  ⟨"TIM_PORT_CFG", .timport, 0x0, 32, [TIM_PORT_CFG.STAMP_EN, TIM_PORT_CFG.STAMP_FUNC]⟩,
  ⟨"TIM_PORT_STATUS", .timport, 0x8, 64, [TIM_PORT_STATUS.DEPTH, TIM_PORT_STATUS.LOSS_PENDING, TIM_PORT_STATUS.OVF_SEEN, TIM_PORT_STATUS.FIRST_LOST_ID, TIM_PORT_STATUS.LOST_RUN]⟩,
  ⟨"TIM_P_STAMPS", .timport, 0x10, 64, [TIM_P_STAMPS.COUNT]⟩,
  ⟨"TIM_P_STAMP_LOST", .timport, 0x18, 64, [TIM_P_STAMP_LOST.COUNT]⟩,
  ⟨"TIM_P_STAMP_OFF", .timport, 0x20, 64, [TIM_P_STAMP_OFF.COUNT]⟩]

def regs_gateport : List RegDef := [
  ⟨"GATE_PORT_CFG", .gateport, 0x0, 32, [GATE_PORT_CFG.HOLD_GATES]⟩,
  ⟨"GATE_PORT_STATUS", .gateport, 0x8, 64, [GATE_PORT_STATUS.STATE, GATE_PORT_STATUS.PENDING, GATE_PORT_STATUS.RUN_SLOT, GATE_PORT_STATUS.SWITCH_SEEN, GATE_PORT_STATUS.STEP_RESTART_SEEN, GATE_PORT_STATUS.LATE_SEEN, GATE_PORT_STATUS.GUARD_ACTIVE, GATE_PORT_STATUS.GATES, GATE_PORT_STATUS.ENTRY]⟩,
  ⟨"GATE_SLOT_0", .gateport, 0x10, 64, [GATE_SLOT_0.ENTRY_BASE, GATE_SLOT_0.COUNT, GATE_SLOT_0.CYCLE_NS]⟩,
  ⟨"GATE_SLOT_1", .gateport, 0x18, 64, [GATE_SLOT_1.ENTRY_BASE, GATE_SLOT_1.COUNT, GATE_SLOT_1.CYCLE_NS]⟩,
  ⟨"GATE_BASE_0_SEC", .gateport, 0x20, 64, [GATE_BASE_0_SEC.SECONDS]⟩,
  ⟨"GATE_BASE_0_NS", .gateport, 0x28, 64, [GATE_BASE_0_NS.NANOSECONDS]⟩,
  ⟨"GATE_BASE_1_SEC", .gateport, 0x30, 64, [GATE_BASE_1_SEC.SECONDS]⟩,
  ⟨"GATE_BASE_1_NS", .gateport, 0x38, 64, [GATE_BASE_1_NS.NANOSECONDS]⟩,
  ⟨"GATE_SWITCH_SEC", .gateport, 0x40, 64, [GATE_SWITCH_SEC.SECONDS]⟩,
  ⟨"GATE_SWITCH_NS", .gateport, 0x48, 64, [GATE_SWITCH_NS.NANOSECONDS]⟩,
  ⟨"GATE_GUARD", .gateport, 0x50, 32, [GATE_GUARD.GUARD_NEED_NS]⟩,
  ⟨"GATE_P_SWITCH", .gateport, 0x58, 64, [GATE_P_SWITCH.COUNT]⟩,
  ⟨"GATE_P_OVERLEN", .gateport, 0x60, 64, [GATE_P_OVERLEN.COUNT]⟩,
  ⟨"GATE_P_STEP_RESTART", .gateport, 0x68, 64, [GATE_P_STEP_RESTART.COUNT]⟩,
  ⟨"GATE_P_LATE", .gateport, 0x70, 64, [GATE_P_LATE.COUNT]⟩]

def regs_gateclass : List RegDef := [
  ⟨"GATE_CLASS_CFG", .gateclass, 0x0, 32, [GATE_CLASS_CFG.SCHED, GATE_CLASS_CFG.MAX_LEN]⟩,
  ⟨"GATE_CLASS_BOUND", .gateclass, 0x8, 64, [GATE_CLASS_BOUND.BOUND_NS, GATE_CLASS_BOUND.CUT_NS, GATE_CLASS_BOUND.OPEN_PPM]⟩,
  ⟨"GATE_C_MAXRES", .gateclass, 0x10, 32, [GATE_C_MAXRES.MAXRES_NS]⟩,
  ⟨"GATE_C_CUTOFF", .gateclass, 0x18, 64, [GATE_C_CUTOFF.COUNT]⟩]

def regs_heat : List RegDef := [
  ⟨"GATE_HEAT", .heat, 0x0, 64, [GATE_HEAT.ENTRY]⟩]

def regs_eng : List RegDef := [
  ⟨"PRF_ENG_CFG", .eng, 0x0, 32, [PRF_ENG_CFG.WIDTH, PRF_ENG_CFG.REFIN, PRF_ENG_CFG.REFOUT, PRF_ENG_CFG.PRESET]⟩,
  ⟨"PRF_ENG_POLY", .eng, 0x8, 64, [PRF_ENG_POLY.POLY]⟩,
  ⟨"PRF_ENG_INIT", .eng, 0x10, 64, [PRF_ENG_INIT.INIT]⟩,
  ⟨"PRF_ENG_XOROUT", .eng, 0x18, 64, [PRF_ENG_XOROUT.XOROUT]⟩,
  ⟨"PRF_ENG_CTL", .eng, 0x20, 32, [PRF_ENG_CTL.START, PRF_ENG_CTL.BUSY, PRF_ENG_CTL.LEVEL]⟩,
  ⟨"PRF_ENG_STATE", .eng, 0x28, 64, [PRF_ENG_STATE.STATE]⟩,
  ⟨"PRF_ENG_RESULT", .eng, 0x30, 64, [PRF_ENG_RESULT.RESULT]⟩,
  ⟨"PRF_ENG_FEED_B", .eng, 0x38, 32, [PRF_ENG_FEED_B.DATA]⟩,
  ⟨"PRF_ENG_FEED_H", .eng, 0x40, 32, [PRF_ENG_FEED_H.DATA]⟩,
  ⟨"PRF_ENG_FEED_W", .eng, 0x48, 32, [PRF_ENG_FEED_W.DATA]⟩]

def regs_prof : List RegDef := [
  ⟨"PRF_PROF_CFG", .prof, 0x0, 64, [PRF_PROF_CFG.ENABLE, PRF_PROF_CFG.CW, PRF_PROF_CFG.ACW, PRF_PROF_CFG.REFIN, PRF_PROF_CFG.REFOUT, PRF_PROF_CFG.ALIVE_SRC, PRF_PROF_CFG.ACT_BAD, PRF_PROF_CFG.COMPARE, PRF_PROF_CFG.DID_BYTES, PRF_PROF_CFG.RESYNC, PRF_PROF_CFG.TL]⟩,
  ⟨"PRF_PROF_CRC", .prof, 0x8, 64, [PRF_PROF_CRC.POLY, PRF_PROF_CRC.INIT]⟩,
  ⟨"PRF_PROF_XOR", .prof, 0x10, 64, [PRF_PROF_XOR.XOROUT, PRF_PROF_XOR.DID]⟩,
  ⟨"PRF_PROF_SPAN", .prof, 0x18, 64, [PRF_PROF_SPAN.SPAN_OFF, PRF_PROF_SPAN.SPAN_LEN, PRF_PROF_SPAN.ALIVE_OFF]⟩,
  ⟨"PRF_PROF_SEQ", .prof, 0x20, 64, [PRF_PROF_SEQ.WINDOW, PRF_PROF_SEQ.HIST, PRF_PROF_SEQ.RESET_MS]⟩]

def regs_stream : List RegDef := [
  ⟨"PRF_RX_STREAM", .stream, 0x0, 64, [PRF_RX_STREAM.ENABLE, PRF_RX_STREAM.PROFILE, PRF_RX_STREAM.REC]⟩]

def regs_txalive : List RegDef := [
  ⟨"PRF_TX_ALIVE", .txalive, 0x0, 64, [PRF_TX_ALIVE.ALIVE]⟩]

def regs_record : List RegDef := [
  ⟨"PRF_REC_STATUS", .record, 0x0, 64, [PRF_REC_STATUS.FRESH, PRF_REC_STATUS.OOW_RUN, PRF_REC_STATUS.LAST, PRF_REC_STATUS.MAP]⟩,
  ⟨"PRF_R_PASS", .record, 0x8, 64, [PRF_R_PASS.COUNT]⟩,
  ⟨"PRF_R_DUP", .record, 0x10, 64, [PRF_R_DUP.COUNT]⟩,
  ⟨"PRF_R_DISAGREE", .record, 0x18, 64, [PRF_R_DISAGREE.COUNT]⟩,
  ⟨"PRF_R_OOW", .record, 0x20, 64, [PRF_R_OOW.COUNT]⟩,
  ⟨"PRF_R_LOST", .record, 0x28, 64, [PRF_R_LOST.COUNT]⟩,
  ⟨"PRF_R_RESYNC", .record, 0x30, 64, [PRF_R_RESYNC.COUNT]⟩,
  ⟨"PRF_R_BADCHK", .record, 0x38, 64, [PRF_R_BADCHK.COUNT]⟩]

def regs_ring : List RegDef := [
  ⟨"RING_BASE", .ring, 0x0, 64, [RING_BASE.ADDR]⟩,
  ⟨"RING_LINE", .ring, 0x8, 64, [RING_LINE.ADDR]⟩,
  ⟨"RING_CFG", .ring, 0x10, 64, [RING_CFG.LOG2_SIZE, RING_CFG.FUNC, RING_CFG.ASSIGNED, RING_CFG.EVT_EN, RING_CFG.WEIGHT, RING_CFG.BURST, RING_CFG.KEEP_FCS, RING_CFG.STARVE_US, RING_CFG.PUB_BATCH]⟩,
  ⟨"RING_STATE", .ring, 0x18, 64, [RING_STATE.STATE, RING_STATE.FAULT, RING_STATE.HALT_SEEN, RING_STATE.HW_INDEX]⟩,
  ⟨"RING_RX_HOLD", .ring, 0x20, 32, [RING_RX_HOLD.HOLD_KIB]⟩,
  ⟨"RING_PROGRESS", .ring, 0x28, 64, [RING_PROGRESS.SW_SEEN, RING_PROGRESS.NEXT]⟩,
  ⟨"RING_CNT_0", .ring, 0x40, 64, [RING_CNT.COUNT 0]⟩,
  ⟨"RING_CNT_1", .ring, 0x48, 64, [RING_CNT.COUNT 1]⟩,
  ⟨"RING_CNT_2", .ring, 0x50, 64, [RING_CNT.COUNT 2]⟩,
  ⟨"RING_CNT_3", .ring, 0x58, 64, [RING_CNT.COUNT 3]⟩,
  ⟨"RING_CNT_4", .ring, 0x60, 64, [RING_CNT.COUNT 4]⟩,
  ⟨"RING_CNT_5", .ring, 0x68, 64, [RING_CNT.COUNT 5]⟩,
  ⟨"RING_CNT_6", .ring, 0x70, 64, [RING_CNT.COUNT 6]⟩,
  ⟨"RING_CNT_7", .ring, 0x78, 64, [RING_CNT.COUNT 7]⟩]

def regs_fn : List RegDef := [
  ⟨"HPE_FN_CFG", .fn, 0x200, 32, [HPE_FN_CFG.ENABLE, HPE_FN_CFG.BRIDGE_ID]⟩,
  ⟨"HPE_FN_STATUS", .fn, 0x208, 64, [HPE_FN_STATUS.RESET_BUSY, HPE_FN_STATUS.RESET_DONE, HPE_FN_STATUS.BAD_DB_SEEN, HPE_FN_STATUS.HALT_ANY, HPE_FN_STATUS.TXQ_COUNT, HPE_FN_STATUS.RXQ_COUNT]⟩,
  ⟨"HPE_F_BAD_DOORBELL", .fn, 0x240, 64, [HPE_F_BAD_DOORBELL.COUNT]⟩,
  ⟨"HPE_F_RESETS", .fn, 0x248, 64, [HPE_F_RESETS.COUNT]⟩,
  ⟨"HPE_F_REPLY_DISCARD", .fn, 0x250, 64, [HPE_F_REPLY_DISCARD.COUNT]⟩]

def regs_tgt : List RegDef := [
  ⟨"EVC_TGT_CFG", .tgt, 0x0, 64, [EVC_TGT_CFG.ENABLE, EVC_TGT_CFG.DEST, EVC_TGT_CFG.BRIDGE_ID]⟩,
  ⟨"EVC_TGT_ADDR", .tgt, 0x8, 64, [EVC_TGT_ADDR.MSG_ADDR]⟩,
  ⟨"EVC_TGT_CLAIM", .tgt, 0x10, 64, [EVC_TGT_CLAIM.VECTOR, EVC_TGT_CLAIM.PRIO, EVC_TGT_CLAIM.VALID, EVC_TGT_CLAIM.SOURCE]⟩,
  ⟨"EVC_TGT_CLAIM_CAUSE", .tgt, 0x18, 64, [EVC_TGT_CLAIM_CAUSE.CAUSE, EVC_TGT_CLAIM_CAUSE.EVENTS, EVC_TGT_CLAIM_CAUSE.SW, EVC_TGT_CLAIM_CAUSE.LIVE]⟩,
  ⟨"EVC_TGT_EOI", .tgt, 0x20, 32, [EVC_TGT_EOI.VECTOR, EVC_TGT_EOI.IDLE]⟩,
  ⟨"EVC_TGT_PRIO", .tgt, 0x28, 32, [EVC_TGT_PRIO.CUR_PRIO, EVC_TGT_PRIO.IS_PRIO, EVC_TGT_PRIO.SENT_COUNT, EVC_TGT_PRIO.ACTIVE_COUNT]⟩,
  ⟨"EVC_T_MSGS", .tgt, 0x30, 64, [EVC_T_MSGS.COUNT]⟩,
  ⟨"EVC_T_EMPTY_CLAIM", .tgt, 0x38, 32, [EVC_T_EMPTY_CLAIM.COUNT]⟩,
  ⟨"EVC_T_BAD_EOI", .tgt, 0x3C, 32, [EVC_T_BAD_EOI.COUNT]⟩]

def regs_tset : List RegDef := [
  ⟨"EVC_TSET_0", .tset, 0x0, 64, [EVC_TSET.MASK 0]⟩,
  ⟨"EVC_TSET_1", .tset, 0x8, 64, [EVC_TSET.MASK 1]⟩,
  ⟨"EVC_TSET_2", .tset, 0x10, 64, [EVC_TSET.MASK 2]⟩,
  ⟨"EVC_TSET_3", .tset, 0x18, 64, [EVC_TSET.MASK 3]⟩]

def regs_vec : List RegDef := [
  ⟨"EVC_VEC_CFG", .vec, 0x0, 64, [EVC_VEC_CFG.PRIO, EVC_VEC_CFG.ROUTE, EVC_VEC_CFG.TSET, EVC_VEC_CFG.COAL_COUNT, EVC_VEC_CFG.COAL_TIME]⟩,
  ⟨"EVC_VEC_MASK", .vec, 0x8, 32, [EVC_VEC_MASK.MASK]⟩,
  ⟨"EVC_VEC_STATUS", .vec, 0x10, 64, [EVC_VEC_STATUS.STATE, EVC_VEC_STATUS.VANISHED, EVC_VEC_STATUS.VANISHED_SEEN, EVC_VEC_STATUS.TARGET, EVC_VEC_STATUS.COUNT, EVC_VEC_STATUS.SOURCE]⟩,
  ⟨"EVC_VEC_CAUSE", .vec, 0x18, 64, [EVC_VEC_CAUSE.CAUSE, EVC_VEC_CAUSE.EVENTS, EVC_VEC_CAUSE.SW, EVC_VEC_CAUSE.LIVE]⟩,
  ⟨"EVC_V_EVENTS", .vec, 0x20, 64, [EVC_V_EVENTS.COUNT]⟩,
  ⟨"EVC_V_CLAIMS", .vec, 0x28, 64, [EVC_V_CLAIMS.COUNT]⟩,
  ⟨"EVC_V_VANISHED", .vec, 0x30, 64, [EVC_V_VANISHED.COUNT]⟩,
  ⟨"EVC_V_FORCED_EOI", .vec, 0x38, 64, [EVC_V_FORCED_EOI.COUNT]⟩]

def regs_srccfg : List RegDef := [
  ⟨"EVC_SRC_CFG", .srccfg, 0x0, 32, [EVC_SRC_CFG.VECTOR, EVC_SRC_CFG.ENABLE]⟩]

def regs_srcstat : List RegDef := [
  ⟨"EVC_SRC_STATUS", .srcstat, 0x0, 64, [EVC_SRC_STATUS.PENDING, EVC_SRC_STATUS.PRESENT, EVC_SRC_STATUS.KIND_LEVEL, EVC_SRC_STATUS.EVENTS, EVC_SRC_STATUS.LATCH]⟩]

def regs_react : List RegDef := [
  ⟨"FLT_REACT", .react, 0x0, 32, [FLT_REACT.R_NOTICE, FLT_REACT.R_DEGRADED, FLT_REACT.R_SERIOUS, FLT_REACT.R_FATAL]⟩]

def regs_fltcnt : List RegDef := [
  ⟨"FLT_CNT", .fltcnt, 0x0, 64, [FLT_CNT.COUNT]⟩]

def regs_log : List RegDef := [
  ⟨"FLT_LOG_LO", .log, 0x0, 64, [FLT_LOG_LO.SOURCE, FLT_LOG_LO.SEV, FLT_LOG_LO.MERGED, FLT_LOG_LO.INJECTED, FLT_LOG_LO.TS_VALID, FLT_LOG_LO.INFO]⟩,
  ⟨"FLT_LOG_HI", .log, 0x8, 64, [FLT_LOG_HI.NANOSECONDS, FLT_LOG_HI.SECONDS]⟩]

def regs_page : List RegDef := [
  ⟨"HPE_DOORBELL", .page, 0x0, 32, [HPE_DOORBELL.VALUE]⟩,
  ⟨"HPE_PAGE_RESET", .page, 0x8, 32, [HPE_PAGE_RESET.RESET]⟩,
  ⟨"HPE_PAGE_STATUS", .page, 0x10, 32, [HPE_PAGE_STATUS.RESET_BUSY, HPE_PAGE_STATUS.RESET_DONE, HPE_PAGE_STATUS.ENABLED]⟩]

/-- The registers of each place (Tables 137 to 146). -/
def regsAt : Place → List RegDef
  | .eight => regs_eight
  | .bank => regs_bank
  | .glob => regs_glob ++ regs_glob_2 ++ regs_glob_3 ++ regs_glob_4 ++ regs_glob_5
  | .lane => regs_lane
  | .pcs => regs_pcs ++ regs_pcs_2
  | .launch => regs_launch
  | .mac => regs_mac ++ regs_mac_2
  | .galch => regs_galch
  | .galport => regs_galport ++ regs_galport_2
  | .galclass => regs_galclass
  | .coxport => regs_coxport
  | .coxclass => regs_coxclass
  | .ptn => regs_ptn
  | .lat => regs_lat
  | .timport => regs_timport
  | .gateport => regs_gateport
  | .gateclass => regs_gateclass
  | .heat => regs_heat
  | .eng => regs_eng
  | .prof => regs_prof
  | .stream => regs_stream
  | .txalive => regs_txalive
  | .record => regs_record
  | .ring => regs_ring
  | .fn => regs_fn
  | .tgt => regs_tgt
  | .tset => regs_tset
  | .vec => regs_vec
  | .srccfg => regs_srccfg
  | .srcstat => regs_srcstat
  | .react => regs_react
  | .fltcnt => regs_fltcnt
  | .log => regs_log
  | .page => regs_page

end Sys2Proof.Machine
end

