-- ==== Sys2Proof/Config.lean ====
section
/-!
DEFINITION. What a device or its silicon fixes and the spec leaves open: per-device constants and free values. Every one
is opaque, so that nothing can be proved of its value.
-/
namespace Sys2Proof.Config

/-- The device serial number, CPX_SERIAL (R383: per device). -/
opaque serial : Nat

/-- Major and minor revision of CPX_ID (R383: per revision). -/
opaque revMajor : Nat
opaque revMinor : Nat

/-- The compositor firmware version of SESSION_INFO and CPX_FW_VERSION (R383). -/
opaque fwVersion : Nat

/-- The calibrated receive and transmit latency of a lane, in picoseconds (R197: calibrated per device and lane). -/
opaque rxFixedPs : Nat → Nat
opaque txFixedPs : Nat → Nat

/-- A fresh free value: what the spec leaves undefined where the machine goes on. -/
opaque freeValue : Nat → Nat

/-- A state-chain byte of an impression: lock-up number and buffer offset (R353: the instrument description gives it). -/
opaque chainByte : Nat → Nat → BitVec 8

/-- The alignment-marker blocks of the IEEE 802.3 PCS: port width in lanes and place among its markers (R61). -/
opaque ieeeMarker : Nat → Nat → Nat

end Sys2Proof.Config
end

