-- ==== Sys2Proof/Machine/State.lean ====
section
/-!
DEFINITION. The state of the Celori complex as plain data, the reasons a step can stop, and the state after power-on.
-/
namespace Sys2Proof.Machine

/-- The complex states of R8, in the order of Table 103. -/
inductive CpxState where
  | powered | imageLoad | ready | running | safe | locked
  deriving DecidableEq, Repr

/-- The modes a complex can be set to (Table 10, Table 103). SAFE, mode code 7, is read from the complex state. -/
inductive Mode where
  | fabric | reach | timed | converged | economy | proof | service
  deriving DecidableEq, Repr

/-- Why a step stops. -/
inductive Fault where
  /-- Raised by every clocked command while CHIP_REF is absent or no chip reset has followed its return: R388 leaves
  the behaviour undefined. Safe: the model allows less than the hardware. -/
  | chipRefAbsent
  deriving DecidableEq, Repr

/-- Why a command has no meaning. -/
inductive Refusal where
  /-- Raised by the dispatch for a command the model has no meaning for yet. Safe. -/
  | notModelled (mnemonic : String)
  deriving DecidableEq, Repr

/-- An instant of the timebase in the format of Table 8. -/
structure Stamp where
  sec : Nat
  ns : Nat
  frac : Nat
  deriving DecidableEq, Repr

/-- The timebase (R188): seconds, nanoseconds in units of 2^-50 ns, the slew that remains in the same units, the step
requested for the next tick (seconds, nanoseconds, fraction, 1 for ADD, 1 to subtract), and the TCLK ticks run, which
give the galley its arrival clock (Table 50). -/
structure Tim where
  sec : Nat
  acc : Nat
  slew : Int
  step : Option (Nat × Nat × Nat × Bool × Bool)
  ticks : Nat
  deriving DecidableEq, Repr

/-- One switched power domain (R33, R35): 0 OFF, 1 POWERING, 2 ON, 3 DRAINING, and the opposite request that waits. -/
structure PdSt where
  st : Nat
  upWait : Bool
  downWait : Bool
  deriving DecidableEq, Repr

/-- What a compositor reply needs of the command it answers (R302); `lost` where its function was reset since (R276). -/
structure Ticket where
  issuer : Nat
  seq : Nat
  opcode : Nat
  cmdIndex : Nat
  replyAddr : Nat
  bufLen : Nat
  lost : Bool
  deriving DecidableEq, Repr

/-- What a command that released the compositor waits for (R306). -/
inductive Wait where
  | reset (s : Scope) | fnReset (f : Nat) | flash (body : List Nat) | easy (p : Nat) | modeSwitch | ecoOff
  | domain33 (f image : Nat)
  deriving DecidableEq, Repr

/-- A command taken and not yet replied to. -/
structure Waiting where
  t : Ticket
  why : Wait
  deriving DecidableEq, Repr

/-- The image write session beyond CMP_IMG_WRITE (R325 to R328). -/
structure Session where
  generation : Nat
  length : Nat
  header : List Byte
  deriving DecidableEq, Repr

/-- A packet of an image section, with its opcode and its offset in the copy. -/
structure SecPkt where
  opcode : Nat
  off : Nat
  pkt : Pkt
  deriving DecidableEq, Repr

/-- A section of the copy in use: its mode code (15 for the forme), its index in the section table, its packets. -/
structure Section where
  mode : Nat
  index : Nat
  pkts : List SecPkt
  deriving DecidableEq, Repr

/-- A heat list the forme commits for a port: cycle, base time, entries (R330). -/
structure FormeList where
  port : Nat
  cycle : Nat
  sec : Nat
  ns : Nat
  entries : List Nat
  deriving DecidableEq, Repr

/-- The compositor beyond its registers: commands that wait, a barrier, the write session, the layers of R330 (the
overlays of the copy in use, the forme values, the forme's heat lists, what the overlay of the present mode owns), the
values the SERVICE quiesce holds (R334) and those SAFE returns (R336), what start-up, SAFE and CPX_RESET defer, and the
issuer its round visited last, 64 for the mailbox (R305). -/
structure Cmp where
  waits : List Waiting
  barrier : Option Ticket
  session : Option Session
  overlays : List Section
  forme : Tab (Tab Nat)
  formeLists : List FormeList
  owned : List (Nat × Nat)
  ownedLists : List Nat
  safeSaved : List (Nat × Nat × Nat)
  quiesce : Bool
  heldEn : Tab Nat
  inUse : Option Nat
  startMode : Option Nat
  safeHeld : Bool
  resetDue : Option Nat
  last : Nat
  deriving DecidableEq, Repr

/-- A fault on its way to its local reactions (R343). -/
structure React where
  source : Nat
  byte : Nat
  deriving DecidableEq, Repr

/-- The fault desk beyond its registers: local reactions not yet started, the last SAFE exits (in TCLK ticks run, R350), the
accepted lock-up triggers on their way to the island (causes of Table 124), and the tick at which the quiet timer was
loaded last (R349). -/
structure Desk where
  reacts : List React
  exits : List Nat
  trigs : List Nat
  quiet : Nat
  deriving DecidableEq, Repr

/-- A PEAK search in progress (R51): pass (0 first, 1 coarse, 2 fine), the points still to measure, the best point and
its eye height. -/
structure Search where
  pass : Nat
  todo : List Nat
  best : Nat
  bestEye : Nat
  deriving DecidableEq, Repr

/-- A lane beyond its registers: training-frame lock (R89), the PEAK search and the value it chose (R51, R90), the
partner's RX_READY and the coefficient responses (R91), the comma-lock machine's expectations with the last comma (R65,
R66, R99), and what it sends: FSEQ and RIDX of the next training frame, the generator of PRBS13Q or of a test pattern
(0 not yet seeded), the last level precoded, the BIP8 since the last comma (R64, R88, R93, R75), and of the checker the
last bits received, or while it is locked those of its reference, and which of the last 1024 bits were in error (R75). -/
structure LaneSt where
  markers : Nat
  frameLock : Bool
  search : Option Search
  searchDone : Bool
  trained : Nat
  rxReady : Bool
  preSts : Nat
  postSts : Nat
  expIdx : Nat
  expSeq : Nat
  misses : Nat
  comma : Option (Nat × Nat × Nat)
  easySeen : Nat
  fseq : Nat
  ridx : Nat
  gen : Nat
  prev : Nat
  bip : Nat
  chk : List Bool
  hits : List Bool
  deriving DecidableEq, Repr

def LaneSt.reset : LaneSt := ⟨0, false, none, false, 24, false, 0, 0, 0, 0, 0, none, 0, 0, 0, 0, 0, 0, [], []⟩

/-- The launch and coding state of a port beyond its registers (03_launch_sequence.md, R66, R68, R72): what it waits
for, the partner's roster words held and seen once, the profile resolved (1 IEEE, 2 NATIVE, 3 mismatch), coding each
way, the timers that run, first failures of alignment, EASY entry and expectation, wakes, the HI_SER window, the
receive FIFO with its drop state (R69, R72) and the codewords for which an uncorrectable one still marks blocks (R62).
Then what the port sends: its drive, eighths of a symbol since the last unit sent, the codeword in the comma period,
COMMA_SEQ, the scrambler's last 58 bits, the characters waiting to be sent, and the filler owed for commas and markers
(R63, R64, R70). -/
structure PortSt where
  launchWait : Bool
  pllWait : Bool
  words : List (Option Nat)
  cand : List (Option Nat)
  sel : Nat
  gotDone : Bool
  codingTx : Bool
  codingRx : Bool
  trainT : Bool
  rosterT : Bool
  wakeT : Bool
  mismatched : Bool
  skewed : Bool
  entering : Bool
  easyArmed : Bool
  txWake : Bool
  rxWake : Bool
  rxWakePend : Bool
  wakeWait : Bool
  coxHold : Bool
  hiCw : Nat
  hiErr : Nat
  rmDrop : Bool
  rmFifo : List Oct
  badLeft : Nat
  drive : LaneDrive
  acc : Nat
  cw : Nat
  commaSeq : Nat
  scr : Nat
  octs : List Oct
  owed : Nat
  deriving DecidableEq, Repr

def noWords : List (Option Nat) := List.replicate 8 none

def PortSt.reset : PortSt :=
  ⟨false, false, noWords, noWords, 0, false, false, false, false, false, false, false, false, false, false, false,
   false, false, false, false, 0, 0, false, [], 0, .idle, 0, 0, 0, 0, [], 0⟩

/-- A decided head: arrival time and whether the timebase ran (R195), the epoch tag of a recirculated frame (R128),
VLAN tags and length/type (R121), the partner matched (R175), its colour (R177, 3 where it was not policed), and the
profile and record of its receive stream (R231, R239). -/
structure Head where
  ts : Stamp
  tsValid : Bool
  epoch : Option Nat
  tags : Nat
  lt : Nat
  partner : Option Nat
  colour : Nat
  stream : Option (Nat × Nat)
  deriving DecidableEq, Repr

/-- What becomes of a frame in reception after its head decision: its remainder is dropped uncounted, its head waits
for its slice, its body runs, the galley stores it, it is a control frame being consumed, or the galley had no room for it
and the MAC only counts it. -/
inductive RxStage where
  | gone | waiting | body | storing | control | dropped
  deriving DecidableEq, Repr

/-- A frame in reception at a MAC (R114): its stage, its head, its first 64 bytes, its receive class, the STEP_TAG and
arrival clock of a stored frame, the limits and control-frame switches in force at its start (R107, R132), the slice
(R23) and the sequence number (R24) it was given, the bytes after its first 64 received so far (R115), and the verdict
that ended it while its head waited for its slice (R119). -/
structure RxFrame where
  stage : RxStage
  head : Head
  first : List Byte
  cls : Nat
  stepTag : Nat
  arrUs : Nat
  maxFrame : Nat
  lenCheck : Bool
  slice : Nat
  seq : Nat
  pauseEn : Bool
  pfcEn : Bool
  got : List Byte
  fate : Option Nat
  deriving DecidableEq, Repr

/-- A frame the galley holds (Table 50): head, bytes, verdict, length mismatch, KEEP, trailer outcome, the step tag and
the arrival clock, and whether an uncorrectable error was seen in its bytes (R142). -/
structure Stored where
  head : Head
  bytes : List Byte
  verdict : Nat
  lenMis : Bool
  keep : Bool
  trailer : Nat
  stepTag : Nat
  arrUs : Nat
  hurt : Bool
  deriving DecidableEq, Repr

/-- A receive class at the galley: its queue, oldest first, the last core occupancy report in bytes (none before the
first), with whether it is stale (R40), and the extents chained to it from that of its read point on, each with its
place in the class's ring (R139, R152). -/
structure GalClass where
  q : List Stored
  report : Option Nat
  stale : Bool
  chain : List (Nat × Nat)
  deriving DecidableEq, Repr

def GalClass.reset : GalClass := ⟨[], none, false, []⟩

/-- A descriptor of an egress queue's front (Table 56). -/
structure Desc where
  len : Nat
  fcsKeep : Bool
  trailerEn : Bool
  prof : Nat
  enqNs : Nat
  deriving DecidableEq, Repr

/-- A member of an egress class (R159, R161, R168): depth in frames and bytes, front, tags, whether it is eligible,
and for a scheduled class the instant, in picoseconds of the timebase, at which its head frame became eligible (R215). -/
structure Member where
  frames : Nat
  bytes : Nat
  front : List Desc
  s : Nat
  f : Nat
  elig : Bool
  since : Option Nat
  deriving DecidableEq, Repr

def Member.reset : Member := ⟨0, 0, [], 0, 0, false, none⟩

/-- An egress class (R168): the virtual time of its members, its own tags as a FAIR class, whether it is eligible, and the
candidate its F was computed for. -/
structure CoxClass where
  v : Nat
  s : Nat
  f : Nat
  elig : Bool
  cand : Option Nat
  deriving DecidableEq, Repr

def CoxClass.reset : CoxClass := ⟨0, 0, 0, false, none⟩

/-- A token bucket (R171): tokens in units of 2^-16 byte, the rate in force, and whether it is filled at its next refill
(R173, R179). -/
structure Bucket where
  tok : Int
  rate : Nat
  fill : Bool
  deriving DecidableEq, Repr

def Bucket.reset : Bucket := ⟨65536 * 65536, 0, false⟩

/-- A request issued for a port and not yet begun on the wire (R162): class, charged length, the instant of eligibility
of a scheduled frame, and whether TX_UP fell since it was issued (R110). -/
structure Req where
  cls : Nat
  cl : Nat
  since : Option Nat
  doomed : Bool
  deriving DecidableEq, Repr

/-- The trailer a frame in transmission carries, as fixed when it started (R229): profile number, counter width code,
check width code, data identifier and span, CRC parameters, the source and offset of the counter, and the GEN counter
taken. -/
structure TxTrailer where
  ab : Nat
  cb : Nat
  acw : Nat
  did : List Nat
  off : Nat
  len : Nat
  poly : Nat
  init : Nat
  xorout : Nat
  refin : Bool
  refout : Bool
  data : Bool
  alOff : Nat
  alive : Nat
  deriving DecidableEq, Repr

/-- A frame in transmission (R125): its metadata word, the bytes delivered so far, its trailer, its departure, whether
the timebase ran, its STEP_TAG, its charged length, and the TCLK tick at which it started (R211). -/
structure TxFrame where
  md : Nat
  bytes : List Byte
  trailer : Option TxTrailer
  ts : Stamp
  tsValid : Bool
  stepTag : Nat
  cl : Nat
  tick : Nat
  deriving DecidableEq, Repr

/-- A frame in the loop FIFO of a recirculation port: its bytes, its epoch tag, whether its transmit side aborted it. -/
structure LoopFrame where
  bytes : List Byte
  epoch : Option Nat
  aborted : Bool
  deriving DecidableEq, Repr

/-- A pause or PFC frame received and acted on, 200 ns before it loads its timers (R149). -/
structure PauseRx where
  pfc : Bool
  enable : Nat
  times : List Nat
  deriving DecidableEq, Repr

/-- The MAC and stamp state of a port: the frame in reception, the next sequence number, the slice last used, the idle
deficit (R111), requests and the frame in transmission, a control frame asked for (R148) and acted-on ones not yet
loaded, the loop FIFO, the stamp queue with its open loss run (identifier, sequence, count) and the next record number. -/
structure MacSt where
  rx : Option RxFrame
  seq : Nat
  lastSlice : Nat
  deficit : Nat
  reqs : List Req
  tx : Option TxFrame
  fcReq : Bool
  pauses : List PauseRx
  loop : List LoopFrame
  stamps : List Nat
  run : Option (Nat × Nat × Nat)
  stampSeq : Nat
  deriving DecidableEq, Repr

def MacSt.reset : MacSt := ⟨none, 0, 3, 0, [], none, false, [], [], [], none, 0⟩

/-- An entry of a software proof engine's FIFO (Table 71). -/
inductive EngOp where
  | feed (n data : Nat)
  | cfg (value : Nat)
  | poly (value : Nat)
  | init (value : Nat)
  | xorout (value : Nat)
  | start
  | none
  deriving DecidableEq, Repr

/-- A frame for the host in the receive store (R261). -/
structure HostRx where
  port : Nat
  tag : Nat
  ts : Stamp
  tsValid : Bool
  verdict : Nat
  keep : Bool
  lenMis : Bool
  trailer : Nat
  bytes : List Byte
  deriving DecidableEq, Repr

/-- A whole frame in the transmit store (R259). -/
structure HostTx where
  ring : Nat
  func : Nat
  stampReq : Bool
  stampId : Nat
  directive : Nat
  bytes : List Byte
  deriving DecidableEq, Repr

/-- A read of descriptors in flight (R254): its first index, how many descriptors are still to come, and whether their data
will be used. -/
structure FetchRead where
  first : Nat
  count : Nat
  live : Bool
  deriving DecidableEq, Repr

/-- A ring beyond its registers: a line read outstanding and one owed (R250), descriptors validated and not yet used,
from index NEXT on, reads of descriptors in flight, oldest first, the look-ahead stopped (R254), re-reads of the next
descriptor (R255), reads of the line, of descriptors and of a re-read that a reset abandoned and that have not completed
yet (Table 89), completions not published,
the descriptors and bytes of an open transmit frame and whether its remainder is being dropped (Table 83), frames
waiting for buffers (R262), the record-ring spill, its loss run with first record and count, slots reserved for
replies (R272), and records on their way to the ring. -/
structure RingSt where
  reading : Bool
  again : Bool
  ready : List Nat
  reads : List FetchRead
  stopped : Bool
  retries : Option Nat
  lateLine : Nat
  lateFetch : Nat
  lateRetry : Nat
  unpub : Nat
  openD : List Nat
  openB : List Byte
  skip : Bool
  rx : List HostRx
  spill : List Nat
  run : Option (Nat × Nat)
  reserved : Nat
  arrive : List Nat
  deriving DecidableEq, Repr

def RingSt.reset : RingSt :=
  ⟨false, false, [], [], false, none, 0, 0, 0, 0, [], [], false, [], [], none, 0, []⟩

/-- The complex without its addressed buffers and its command queue: register and internal fields, the MCLK mirrors of
eight-domain fields (R29), and the records of each block. -/
structure Dev where
  f : Tab (Tab Nat)
  mir : Tab (Tab Nat)
  tim : Tim
  pds : Tab PdSt
  lanes : Tab LaneSt
  ports : Tab PortSt
  macs : Tab MacSt
  gals : Tab GalClass
  members : Tab Member
  classes : Tab CoxClass
  buckets : Tab Bucket
  chks : Tab (List Nat)
  fifos : Tab (List EngOp)
  rings : Tab RingSt
  txStore : List HostTx
  cmp : Cmp
  resets : List Scope
  desk : Desk
  out : List Output
  free : Nat
  deriving DecidableEq, Repr

/-- What the island and the compositor hold of the complex as a whole: the complex state and the mode in force (while
SAFE, the base mode), the island's supply, CHIP_REF and whether it was lost with no chip reset since (R388), the PLL,
domain 34, the target of a mode switch in its wakes (R332 step 3), a release requested and waiting (R355), and what a
lock-up latched: state and mode codes and its cause (R352). -/
structure Ctl where
  state : CpxState
  mode : Option Mode
  supply : Bool
  chipRef : Bool
  refLost : Bool
  pll : Bool
  d34 : Bool
  switching : Option Mode
  release : Bool
  lockFrom : Option (Nat × Nat × Nat)
  deriving DecidableEq, Repr

/-- The addressed buffers, each a canonical list of cells. -/
structure Mems where
  mboxCmd : List Host.Cell
  mboxReply : List Host.Cell
  flash : List Host.Cell
  impression : List Host.Cell
  deriving DecidableEq, Repr

/-- The state of the block and the commands that wait to act on it, first in, first out. -/
structure State where
  ctl : Ctl
  dev : Dev
  mem : Mems
  pending : List Instr
  deriving DecidableEq, Repr

/-- The device state after a complex reset, but for the island (R360, R372). DESIGN CHOICE (log 8). -/
def Dev.blank : Dev where
  f := []
  mir := []
  tim := ⟨0, 0, 0, none, 0⟩
  pds := []
  lanes := []
  ports := []
  macs := []
  gals := []
  members := []
  classes := []
  buckets := []
  chks := []
  fifos := []
  rings := []
  txStore := []
  cmp := ⟨[], none, none, [], [], [], [], [], [], false, [], none, none, false, none, 63⟩
  resets := []
  desk := ⟨[], [], [], 0⟩
  out := []
  free := 0

/-- The state with nothing powered: step 1 of Table 131 (R360), POWERED, every field at its reset value (an unlisted field
reads its reset value, Fields.lean), flash erased, no command waiting. ISLAND_POWER_ON is the first event that acts. -/
def State.reset : State where
  ctl := ⟨.powered, none, false, true, false, false, false, none, false, none⟩
  dev := Dev.blank
  mem := ⟨[], [], [], []⟩
  pending := []

end Sys2Proof.Machine
end

