-- ==== Sys2Proof/Machine/Ops.lean ====
section
/-!
DEFINITION. The named operations over register fields, counters, buffers, ports, power domains and the boundary that
every family uses.
-/
namespace Sys2Proof.Machine
open F

/-- The reset value of a field at an object: FLT_REACT_0 alone differs from its siblings (R341, R358). -/
def Fld.rstAt (F : Fld) (i : Nat) : Nat :=
  if i = 0 ∧ (F.id = FLT_REACT.R_NOTICE.id ∨ F.id = FLT_REACT.R_DEGRADED.id ∨ F.id = FLT_REACT.R_SERIOUS.id)
  then 0x20 else F.rst

/-- A field of a field table. -/
def fldGet (t : Tab (Tab Nat)) (F : Fld) (i : Nat) : Nat := (t.get F.id []).get i (F.rstAt i)

/-- Write a field of a field table, held to its width. -/
def fldPut (t : Tab (Tab Nat)) (F : Fld) (i v : Nat) : Tab (Tab Nat) :=
  t.set F.id ((t.get F.id []).set i (v % 2 ^ F.w) (F.rstAt i)) []

/-- A failed admission check (R303): the port or partner found failing (0xFFFF for a complex-wide check), its class
(0xFF for none), the detail code, and the quantity compared. -/
structure Adm where
  obj : Nat
  cls : Nat
  detail : Nat
  qty : Nat
  deriving DecidableEq, Repr

/-- The value of a field of an object. -/
def Dev.get (d : Dev) (F : Fld) (i : Nat) : Nat := fldGet d.f F i

/-- Write a field of an object. -/
def Dev.put (d : Dev) (F : Fld) (i v : Nat) : Dev := { d with f := fldPut d.f F i v }

/-- A one-bit field as a Bool. -/
def Dev.on (d : Dev) (F : Fld) (i : Nat) : Bool := d.get F i == 1

/-- Add to a counter that saturates at its width (R14). -/
def Dev.add (d : Dev) (F : Fld) (i n : Nat) : Dev := d.put F i (min (d.get F i + n) (2 ^ F.w - 1))

/-- Count one event (R14). -/
def Dev.inc (d : Dev) (F : Fld) (i : Nat) : Dev := d.add F i 1

/-- Add to a field that wraps at its width. -/
def Dev.wrap (d : Dev) (F : Fld) (i n : Nat) : Dev := d.put F i (d.get F i + n)

/-- Return a field of one object to its reset value. -/
def Dev.clr (d : Dev) (F : Fld) (i : Nat) : Dev := d.put F i (F.rstAt i)

/-- Set several fields of one object. -/
def Dev.puts (d : Dev) (i : Nat) (l : List (Fld × Nat)) : Dev := l.foldl (fun d p => d.put p.1 i p.2) d

/-- Return several fields of one object to their reset values. -/
def Dev.clrs (d : Dev) (i : Nat) (l : List Fld) : Dev := l.foldl (fun d F => d.clr F i) d

/-- The objects whose field is not at its reset value, rising. -/
def Dev.keys (d : Dev) (F : Fld) : List Nat := (d.f.get F.id []).map (·.1)

/-- Drive something across the boundary of the complex (newest first). DESIGN CHOICE (log 75). -/
def Dev.emit (d : Dev) (o : Output) : Dev := { d with out := o :: d.out }

/-- Take a fresh free value of `w` bits: one that nothing in the model fixes. DESIGN CHOICE (log 11). -/
def Dev.fresh (d : Dev) (w : Nat) : Nat × Dev := (Config.freeValue d.free % 2 ^ w, { d with free := d.free + 1 })

/-- The first lane of the port that holds lane `n` in the committed layout (R18), none for an unassigned lane. -/
def Dev.portOf (d : Dev) (n : Nat) : Option Nat :=
  let e := n / 8
  let cand := (List.range (n % 8 + 1)).reverse.find? fun i => d.get (LN_EIGHT_PORTMAP.FIRST i) e == 1
  match cand with
  | some i =>
    if n % 8 < i + 2 ^ d.get (LN_EIGHT_PORTMAP.WIDTH i) e then some (e * 8 + i) else none
  | none => none

/-- The width in lanes of a configured lane port, 8 for a recirculation port; none where the number names no port (R3,
R18, R19). -/
def Dev.portWidth (d : Dev) (p : Nat) : Option Nat :=
  if p < 1024 then
    if d.get (LN_EIGHT_PORTMAP.FIRST (p % 8)) (p / 8) = 1 then some (2 ^ d.get (LN_EIGHT_PORTMAP.WIDTH (p % 8)) (p / 8))
    else none
  else if p < 1032 then some 8 else none

/-- DEDUCED (log 77). -/
def Dev.isPort (d : Dev) (p : Nat) : Bool := (d.portWidth p).isSome
def Dev.isLanePort (d : Dev) (p : Nat) : Bool := decide (p < 1024) && d.isPort p

/-- The lanes of a port, rising; none for a recirculation port. -/
def Dev.portLanes (d : Dev) (p : Nat) : List Nat :=
  if p < 1024 then match d.portWidth p with
    | some w => (List.range w).map (p + ·)
    | none => []
  else []

/-- The configured lane ports of an eight, of a bank, and of the complex, rising. -/
def Dev.eightPorts (d : Dev) (e : Nat) : List Nat := ((List.range 8).map (e * 8 + ·)).filter d.isLanePort
def Dev.bankPorts (d : Dev) (b : Nat) : List Nat := (List.range 8).flatMap fun i => d.eightPorts (b * 8 + i)
def Dev.lanePorts (d : Dev) : List Nat := (List.range 128).flatMap d.eightPorts
def recircPorts : List Nat := (List.range 8).map (1024 + ·)
def Dev.allPorts (d : Dev) : List Nat := d.lanePorts ++ recircPorts

/-- A lane's and a port's records. -/
def Dev.lane (d : Dev) (n : Nat) : LaneSt := d.lanes.get n LaneSt.reset
def Dev.setLane (d : Dev) (n : Nat) (l : LaneSt) : Dev := { d with lanes := d.lanes.set n l LaneSt.reset }
def Dev.port (d : Dev) (p : Nat) : PortSt := d.ports.get p PortSt.reset
def Dev.setPort (d : Dev) (p : Nat) (r : PortSt) : Dev := { d with ports := d.ports.set p r PortSt.reset }

/-- Apply an action to every object of a list. -/
def Dev.each (d : Dev) (l : List Nat) (g : Dev → Nat → Dev) : Dev := l.foldl g d

/-- A power domain (Table 17), OFF at reset; ON and on the way. -/
def Dev.pd (d : Dev) (k : Nat) : PdSt := d.pds.get k ⟨0, false, false⟩
def Dev.setPd (d : Dev) (k : Nat) (p : PdSt) : Dev := { d with pds := d.pds.set k p ⟨0, false, false⟩ }
def Dev.pdOn (d : Dev) (k : Nat) : Bool := (d.pd k).st == 2

/-- A reset scope contains a bank, an eight, a port, another scope (Table 19). -/
def Scope.holdsBank (s : Scope) (b : Nat) : Bool := s == .bank b
def Scope.holdsEight (s : Scope) (e : Nat) : Bool := s == .eight e || s == .bank (e / 8)
def Scope.holdsPort (s : Scope) (p : Nat) : Bool := s == .port p || (decide (p < 1024) && s.holdsEight (p / 8))
def Scope.holds (s : Scope) : Scope → Bool
  | .bank b => s.holdsBank b
  | .eight e => s.holdsEight e
  | .port p => s.holdsPort p

/-- A reset in progress holds the port. -/
def Dev.portResetting (d : Dev) (p : Nat) : Bool := d.resets.any fun s => s.holdsPort p

/-- The transmit and receive domain of a lane's bank (Table 17). -/
def txDomain (n : Nat) : Nat := n / 64 * 2
def rxDomain (n : Nat) : Nat := n / 64 * 2 + 1

/-- Request a domain on (R35, R371): OFF starts powering, DRAINING waits for OFF and is then carried out;
POWERING goes on, and a power-down that waited is withdrawn. DESIGN CHOICE (log 89). -/
def Dev.powerUp (d : Dev) (k : Nat) : Dev :=
  let p := d.pd k
  let d := d.put CPX_PD_CTL.REQ 0 (setBitAt (d.get CPX_PD_CTL.REQ 0) k)
  match p.st with
  | 0 => d.setPd k ⟨1, false, false⟩
  | 1 => d.setPd k ⟨1, false, false⟩
  | 3 => d.setPd k ⟨3, true, false⟩
  | _ => d

/-- Request a domain off (R35): ON starts draining, POWERING waits for ON; a power-up that waits for OFF stands. DESIGN CHOICE (log 89). -/
def Dev.powerDown (d : Dev) (k : Nat) : Dev :=
  let p := d.pd k
  let n := d.put CPX_PD_CTL.REQ 0 (clrBitAt (d.get CPX_PD_CTL.REQ 0) k)
  match p.st with
  | 2 => n.setPd k ⟨3, false, false⟩
  | 1 => n.setPd k ⟨1, false, true⟩
  | 3 => if p.upWait then d else n
  | _ => n

end Sys2Proof.Machine
end

