-- ==== Sys2Proof/Machine/Evc.lean ====
section
/-!
DEFINITION. The event controller (10_event_controller.md): sources and their cause bits (R280, R281, Table 93), the
vector state machine and coalescing (Table 94, R284, R285), routing and messages (R287, R288), claim, end of interrupt
and their neighbours (R286, R289 to R294).
-/
namespace Sys2Proof.Machine
open F

/-- The kinds of R280. -/
inductive SrcKind where
  | pulse | flag | line
  deriving DecidableEq, Repr

/-- The kind of a source, or none where its number is reserved (Table 93). -/
def srcKind (s : Nat) : Option SrcKind :=
  if s < 8192 then some .flag
  else if s < 8256 then (if s % 8 = 3 ∨ s % 8 = 5 then some .flag else none)
  else if s < 0x2400 then none
  else if s < 0x2C00 then
    (if s % 16 < 10 ∨ s % 16 = 12 then some .flag else if s % 16 = 10 then some .line
     else if s % 16 = 11 then some .pulse else none)
  else if s < 0x2C80 then (if s % 8 = 0 then some .flag else none)
  else if s < 0x2D00 then none
  else if s < 0x2D0A then (if s = 0x2D05 ∨ s = 0x2D08 then some .pulse else some .flag)
  else if s < 0x4000 then none
  else if s < 0xA000 then some .pulse
  else if s < 0xA200 then
    (if s % 8 < 5 then some .pulse else if s % 8 < 7 then some .flag else none)
  else if s < 0xF000 then none
  else if s < 0x10000 then some .pulse
  else none

def srcLevel (s : Nat) : Bool := srcKind s == some .flag || srcKind s == some .line

/-- Source numbers of Table 93. -/
def srcPort (p k : Nat) : Nat := p * 8 + k
def srcEight (e k : Nat) : Nat := 0x2400 + e * 16 + k
def srcBank (b : Nat) : Nat := 0x2C00 + b * 8
def srcFn (f k : Nat) : Nat := 0xA000 + f * 8 + k
def srcGalley : Nat := 0x2D00
def srcTime : Nat := 0x2D01
def srcCopies : Nat := 0x2D02
def srcTelem : Nat := 0x2D03
def srcRecircWait : Nat := 0x2D04
def srcWake : Nat := 0x2D05
def srcGlitch : Nat := 0x2D06
def srcDesk : Nat := 0x2D07
def srcState : Nat := 0x2D08
def srcNoTarget : Nat := 0x2D09

/-- One bit of a status field of an object. -/
structure FlagBit where
  fld : Fld
  idx : Nat
  bit : Nat

/-- The cause bits of a FLAG source, bit 0 first (Table 93). -/
def srcFlags (s : Nat) : List FlagBit :=
  let p := s / 8
  if s < 8256 then
    match s % 8 with
    | 0 => [⟨LN_LAUNCH_STATUS.ACTIVE_SEEN, p, 0⟩]
    | 1 => [⟨PCS_STATUS.ALIGN_LOST, p, 0⟩, ⟨PCS_STATUS.LAYOUT_MISMATCH, p, 0⟩, ⟨PCS_STATUS.SKEW_FAULT, p, 0⟩]
    | 2 => [⟨PCS_STATUS.HI_SER_SEEN, p, 0⟩]
    | 3 => [⟨MAC_PORT_STATUS.FCS_ERR_SEEN, p, 0⟩, ⟨MAC_PORT_STATUS.OVERSIZE_SEEN, p, 0⟩,
            ⟨MAC_PORT_STATUS.LEN_MISMATCH_SEEN, p, 0⟩, ⟨MAC_PORT_STATUS.FC_MISMATCH, p, 0⟩,
            ⟨MAC_PORT_STATUS.RECIRC_LATE_SEEN, p, 0⟩, ⟨MAC_PORT_STATUS.TX_ABORT_SEEN, p, 0⟩]
    | 4 => (List.range 16).map fun c => ⟨GAL_PC_STATUS.DROP_SEEN, p * 16 + c, 0⟩
    | 5 => [⟨TIM_PORT_STATUS.OVF_SEEN, p, 0⟩]
    | 6 => [⟨GATE_PORT_STATUS.SWITCH_SEEN, p, 0⟩, ⟨GATE_PORT_STATUS.STEP_RESTART_SEEN, p, 0⟩,
            ⟨GATE_PORT_STATUS.LATE_SEEN, p, 0⟩]
    | _ => [⟨PCS_STATUS.RX_RM_OVF, p, 0⟩, ⟨PCS_STATUS.TX_UNDERRUN, p, 0⟩]
  else if s < 0x2C00 then
    let e := (s - 0x2400) / 16
    let k := s % 16
    if k < 8 then [⟨LN_LAUNCH_STATUS.STALL_SEEN, e * 8 + k, 0⟩]
    else if k = 8 then [⟨LN_EIGHT_STATUS.REF_FAULT, e, 0⟩]
    else if k = 9 then [⟨LN_EIGHT_STATUS.TX_PLL_UNLOCK, e, 0⟩]
    else if k = 12 then (List.range 8).map fun i => ⟨LN_EASY.ATTN_SEEN, e * 8 + i, 0⟩
    else []
  else if s < 0x2D00 then (List.range 4).map fun i => ⟨MAC_BANK_DEAL.SLICE_WAIT, (s - 0x2C00) / 8, i⟩
  else if s = srcGalley then
    [⟨GAL_STATUS.CH_FAIL, 0, 0⟩, ⟨GAL_STATUS.SPARE_OUT, 0, 0⟩, ⟨GAL_STATUS.UE_SEEN, 0, 0⟩,
     ⟨GAL_STATUS.OVERRUN_SEEN, 0, 0⟩]
  else if s = srcTime then [⟨TIM_STATUS.STEP_SEEN, 0, 0⟩, ⟨TIM_STATUS.STEP_ERR, 0, 0⟩]
  else if s = srcCopies then [⟨PRF_DIS_INFO.VALID, 0, 0⟩, ⟨PRF_DIS_INFO.MORE, 0, 0⟩]
  else if s = srcTelem then [⟨COX_TELEM_STATUS.LATE_SEEN, 0, 0⟩]
  else if s = srcRecircWait then (List.range 4).map fun i => ⟨MAC_GLOBAL_DEAL.SLICE_WAIT, 0, i⟩
  else if s = srcGlitch then [⟨EVC_SB_MISC.GLITCH_SEEN, 0, 0⟩]
  else if s = srcDesk then
    [⟨FLT_STATUS.FAULT_SEEN, 0, 0⟩, ⟨FLT_STATUS.MERGE_SEEN, 0, 0⟩, ⟨FLT_STATUS.SAFE_IN_SEEN, 0, 0⟩,
     ⟨FLT_STATUS.SAFE_OUT_SEEN, 0, 0⟩, ⟨FLT_STATUS.SAFE_HELD_SEEN, 0, 0⟩]
  else if s = srcNoTarget then [⟨EVC_STATUS.NO_TARGET_SEEN, 0, 0⟩]
  else if 0xA000 ≤ s ∧ s < 0xA200 then
    if s % 8 = 5 then [⟨HPE_FN_STATUS.RESET_DONE, (s - 0xA000) / 8, 0⟩]
    else if s % 8 = 6 then [⟨HPE_FN_STATUS.BAD_DB_SEEN, (s - 0xA000) / 8, 0⟩] else []
  else []

/-- The filtered level of MOD_INT_L and MOD_PRS_L of an eight (1 asserted). -/
def Dev.modInt (d : Dev) (e : Nat) : Bool :=
  bitAt (if e < 64 then d.get EVC_SB_INT_0.LEVEL 0 else d.get EVC_SB_INT_1.LEVEL 0) (e % 64)
def Dev.modPrs (d : Dev) (e : Nat) : Bool :=
  bitAt (if e < 64 then d.get EVC_SB_PRS_0.LEVEL 0 else d.get EVC_SB_PRS_1.LEVEL 0) (e % 64)

/-- The cause bits a level source shows now (R281). -/
def Dev.causes (d : Dev) (s : Nat) : Nat :=
  if srcKind s = some .line then flag (d.modInt ((s - 0x2400) / 16))
  else (srcFlags s).zipIdx.foldl (fun n p => if bitAt (d.get p.1.fld p.1.idx) p.1.bit then setBitAt n p.2 else n) 0

/-- The condition of a level source is present. -/
def Dev.present (d : Dev) (s : Nat) : Bool := srcLevel s && d.causes s != 0

/-- A vector starts to gather (Table 94), with the coalescing then configured (R296). DEDUCED (log 47). -/
def Dev.vecStart (d : Dev) (v : Nat) : Dev :=
  d.puts v [(EVC_VEC_STATUS.STATE, 1), (X.EVC_COAL, d.get EVC_VEC_CFG.COAL_COUNT v)]

/-- A gathering vector that has its events becomes READY (Table 94); its count then starts for the next round. -/
def Dev.vecGather (d : Dev) (v : Nat) : Dev :=
  if d.get X.EVC_COAL v + 1 ≤ d.get EVC_VEC_STATUS.COUNT v then
    d.puts v [(EVC_VEC_STATUS.STATE, 2), (EVC_VEC_STATUS.COUNT, 0)]
  else d

/-- One event of a source of the vector (Table 94, R285). -/
def Dev.vecEvent (d : Dev) (v : Nat) : Dev :=
  let d := d.inc EVC_V_EVENTS.COUNT v
  let d1 := d.put EVC_VEC_STATUS.COUNT v (min (d.get EVC_VEC_STATUS.COUNT v + 1) 1024)
  match d.get EVC_VEC_STATUS.STATE v with
  | 0 => ((d.put EVC_VEC_STATUS.COUNT v 1).vecStart v).vecGather v
  | 1 => d1.vecGather v
  | _ => d1

/-- An event of an enabled source (R284): it is pending with its latch, counted, and feeds its vector. -/
def Dev.fire (d : Dev) (s latch : Nat) (sw : Bool) : Dev :=
  let d := (d.puts s [(EVC_SRC_STATUS.PENDING, 1), (EVC_SRC_STATUS.LATCH, latch)]).inc EVC_SRC_STATUS.EVENTS s
  let d := if sw then d.put X.EVC_SRC_SW s 1 else d
  d.vecEvent (d.get EVC_SRC_CFG.VECTOR s)

/-- The source of a function's ring halts (Table 93). -/
def haltSrc (s : Nat) : Bool := decide (0xA000 ≤ s ∧ s < 0xA200 ∧ s % 8 = 4)

/-- A source fires or asserts (R281, R284): level sources gather every cause bit they show in the latch; a PULSE keeps its
last detail, but a ring halt its first since the claim. -/
def Dev.event (d : Dev) (s detail : Nat) (sw : Bool := false) : Dev :=
  if d.on EVC_SRC_CFG.ENABLE s then
    let old := d.get EVC_SRC_STATUS.LATCH s
    if srcLevel s then d.fire s (old ||| detail ||| d.causes s) sw
    else if haltSrc s then (d.put X.EVC_HALT s 1).fire s (if d.on X.EVC_HALT s then old else detail) sw
    else d.fire s detail sw
  else d

/-- Hardware sets cause bit `b` of FLAG source `s`: a rise is an event (R281). -/
def Dev.seen (d : Dev) (s b : Nat) : Dev :=
  match (srcFlags s)[b]? with
  | none => d
  | some g =>
    let w := d.get g.fld g.idx
    if bitAt w g.bit then d else (d.put g.fld g.idx (setBitAt w g.bit)).event s (2 ^ b)

/-- A source that is disabled clears its pending state and its latch (R284). -/
def Dev.srcClear (d : Dev) (s : Nat) : Dev :=
  d.clrs s [EVC_SRC_STATUS.PENDING, EVC_SRC_STATUS.EVENTS, EVC_SRC_STATUS.LATCH, X.EVC_SRC_SW, X.EVC_HALT]

/-- The latch of an enabled level source takes in at once what the source shows (R281). DEDUCED (log 47). -/
def Dev.latchShown (d : Dev) (s : Nat) : Dev :=
  if srcLevel s && d.on EVC_SRC_CFG.ENABLE s then
    d.put EVC_SRC_STATUS.LATCH s (d.get EVC_SRC_STATUS.LATCH s ||| d.causes s)
  else d

/-- Write the routing of a source (R284). DEDUCED (log 47). -/
def Dev.srcCfg (d : Dev) (s vec en : Nat) : Dev :=
  let d := d.puts s [(EVC_SRC_CFG.VECTOR, vec), (EVC_SRC_CFG.ENABLE, en)]
  if en = 0 then d.srcClear s else d.latchShown s

/-- The vectors in a state, rising. -/
def Dev.vecsIn (d : Dev) (st : Nat) : List Nat :=
  (d.keys EVC_VEC_STATUS.STATE).filter fun v => d.get EVC_VEC_STATUS.STATE v == st

/-- The vectors SENT to, or ACTIVE at, a target. -/
def Dev.sentTo (d : Dev) (t : Nat) : List Nat := (d.vecsIn 3).filter fun v => d.get EVC_VEC_STATUS.TARGET v == t
def Dev.activeAt (d : Dev) (t : Nat) : List Nat := (d.vecsIn 4).filter fun v => d.get EVC_VEC_STATUS.TARGET v == t

/-- IS_PRIO: the highest priority in service at a target, as it was at the claim (R287, R290). -/
def Dev.isPrio (d : Dev) (t : Nat) : Nat := ((d.activeAt t).map (d.get X.EVC_CLAIM_PRIO)).foldl max 0

/-- The enabled targets of a set, rising. -/
def Dev.setTargets (d : Dev) (k : Nat) : List Nat :=
  (List.range 256).filter fun t => bitAt (d.get (EVC_TSET.MASK (t / 64)) k) (t % 64) && d.on EVC_TGT_CFG.ENABLE t

/-- R287: the target accepts the vector. -/
def Dev.accepts (d : Dev) (t v : Nat) : Bool :=
  let p := d.get EVC_VEC_CFG.PRIO v
  d.on EVC_TGT_CFG.ENABLE t && decide (d.isPrio t < p) && decide (d.get EVC_TGT_PRIO.CUR_PRIO t < p)

/-- Write one message to a target (Table 95, R288), with the PRIO the vector had at its commit. DEDUCED (log 49). -/
def Dev.message (d : Dev) (t v : Nat) (again : Bool) : Dev :=
  let word := v + d.get X.EVC_PRIO v * 2 ^ 10 + flag again * 2 ^ 14 + t * 2 ^ 16 + d.get X.EVC_MSEQ t * 2 ^ 24
  let d := (d.wrap X.EVC_MSEQ t 1).inc EVC_T_MSGS.COUNT t
  d.emit (.message (d.on EVC_TGT_CFG.DEST t) (d.get EVC_TGT_CFG.BRIDGE_ID t) (d.get EVC_TGT_ADDR.MSG_ADDR t * 4) word)

/-- Commit a vector to a target. -/
def Dev.vecCommit (d : Dev) (v t : Nat) : Dev :=
  ((d.puts v [(EVC_VEC_STATUS.STATE, 3), (EVC_VEC_STATUS.TARGET, t), (X.EVC_PRIO, d.get EVC_VEC_CFG.PRIO v)]).put
    X.EVC_NO_TGT_RUN v 0).message t v false

/-- The first member, in rotation after the set's pointer, that accepts the vector. -/
def Dev.rrTarget (d : Dev) (v : Nat) : Option Nat :=
  let k := d.get EVC_VEC_CFG.TSET v
  let s := d.setTargets k
  let r := d.get X.EVC_RR k
  ((s.filter (fun t => decide (r < t))) ++ s.filter (fun t => decide (t ≤ r))).find? (fun t => d.accepts t v)

/-- The member with the lowest current priority, ties to the lower number. -/
def Dev.lowTarget (d : Dev) : List Nat → Option Nat
  | [] => none
  | t :: r =>
    match d.lowTarget r with
    | none => some t
    | some u => if d.get EVC_TGT_PRIO.CUR_PRIO u < d.get EVC_TGT_PRIO.CUR_PRIO t then some u else some t

/-- route(v) of R287: the target it commits to, none where the vector stays READY. -/
def Dev.routeTarget (d : Dev) (v : Nat) : Option Nat :=
  let rr := if d.get EVC_VEC_CFG.ROUTE v = 0 then d.rrTarget v else none
  match rr with
  | some t => some t
  | none =>
    match d.lowTarget (d.setTargets (d.get EVC_VEC_CFG.TSET v)) with
    | some t => if d.accepts t v then some t else none
    | none => none

/-- The READY unmasked vectors in the order of R287: descending PRIO, then ascending number. -/
def Dev.readyVecs (d : Dev) : List Nat :=
  let r := (d.vecsIn 2).filter fun v => !d.on EVC_VEC_MASK.MASK v
  (List.range 15).flatMap fun k => r.filter fun v => d.get EVC_VEC_CFG.PRIO v == 15 - k

/-- End a vector's service or message: GATHER where a source is still pending, IDLE otherwise (Table 94). -/
def Dev.vecEnd (d : Dev) (v : Nat) : Dev :=
  let pending := (d.keys EVC_SRC_STATUS.PENDING).any fun s => d.get EVC_SRC_CFG.VECTOR s == v
  let d := d.puts v [(EVC_VEC_STATUS.TARGET, 0), (EVC_VEC_STATUS.SOURCE, 0)]
  if pending then (d.vecStart v).vecGather v
  else d.puts v [(EVC_VEC_STATUS.STATE, 0), (EVC_VEC_STATUS.COUNT, 0)]

/-- The vector a claim of the target takes: the highest eligible, by the PRIO it was committed with (R296), ties to the lower
number (R289). -/
def Dev.claimVec (d : Dev) (t : Nat) : Option Nat :=
  let c := (d.sentTo t).filter fun v => d.on EVC_TGT_CFG.ENABLE t && decide (d.isPrio t < d.get X.EVC_PRIO v)
  ((List.range 15).flatMap fun k => c.filter fun v => d.get X.EVC_PRIO v == 15 - k).head?

/-- A claim by target `t` (R289): the word returned and what the claim leaves. -/
def Dev.claim (d : Dev) (t : Nat) : Nat × Dev :=
  match d.claimVec t with
  | none => (0, d.inc EVC_T_EMPTY_CLAIM.COUNT t)
  | some v =>
    let (s, d) := match (d.keys EVC_SRC_STATUS.PENDING).find? (fun s => d.get EVC_SRC_CFG.VECTOR s == v) with
      | some s => (s, d)
      | none => d.fresh 16
    let cause := d.get EVC_SRC_STATUS.LATCH s
    let events := d.get EVC_SRC_STATUS.EVENTS s
    let sw := d.get X.EVC_SRC_SW s
    let live := flag (d.present s)
    let prio := d.get X.EVC_PRIO v
    let d := d.puts t [(EVC_TGT_CLAIM_CAUSE.CAUSE, cause), (EVC_TGT_CLAIM_CAUSE.EVENTS, events),
      (EVC_TGT_CLAIM_CAUSE.SW, sw), (EVC_TGT_CLAIM_CAUSE.LIVE, live)]
    let d := d.puts v [(EVC_VEC_CAUSE.CAUSE, cause), (EVC_VEC_CAUSE.EVENTS, events), (EVC_VEC_CAUSE.SW, sw),
      (EVC_VEC_CAUSE.LIVE, live), (EVC_VEC_STATUS.STATE, 4), (EVC_VEC_STATUS.SOURCE, s),
      (EVC_VEC_STATUS.COUNT, 0), (EVC_VEC_STATUS.VANISHED, 0), (X.EVC_CLAIM_PRIO, prio)]
    let d := ((d.srcClear s).latchShown s).inc EVC_V_CLAIMS.COUNT v
    (v + prio * 2 ^ 10 + 2 ^ 14 + s * 2 ^ 16, d)

/-- The highest SENT vector of a target above its IS_PRIO, presented again (R292). -/
def Dev.repeatVec (d : Dev) (t : Nat) : Option Nat := d.claimVec t

/-- The vanish check of an EOI (R291). -/
def Dev.vanishes (d : Dev) (v : Nat) (idle : Bool) : Bool :=
  srcLevel (d.get EVC_VEC_STATUS.SOURCE v) &&
    ((!d.on EVC_VEC_CAUSE.LIVE v && !d.on EVC_VEC_CAUSE.SW v) || idle)

/-- The service of an ACTIVE vector ends (R291): a level source still present is pending again at once. -/
def Dev.vecFinish (d : Dev) (v : Nat) : Dev :=
  let s := d.get EVC_VEC_STATUS.SOURCE v
  let d := if d.present s then d.event s (d.causes s) else d
  d.vecEnd v

/-- End the service of an ACTIVE vector by EOI (R291), with its vanish check. -/
def Dev.eoiVec (d : Dev) (v : Nat) (idle : Bool) : Dev :=
  (if d.vanishes v idle then
      (d.puts v [(EVC_VEC_STATUS.VANISHED, 1), (EVC_VEC_STATUS.VANISHED_SEEN, 1)]).inc EVC_V_VANISHED.COUNT v
    else d).vecFinish v

/-- A target goes to ENABLE = 0: its SENT vectors return to READY, its ACTIVE vectors end (R294). -/
def Dev.targetOff (d : Dev) (t : Nat) : Dev :=
  let sent := d.sentTo t
  let act := d.activeAt t
  let d := sent.foldl (fun d v => d.puts v [(EVC_VEC_STATUS.STATE, 2), (EVC_VEC_STATUS.TARGET, 0)]) d
  act.foldl (fun d v => (d.inc EVC_V_FORCED_EOI.COUNT v).vecFinish v) d

/-- A run without an enabled target ends where its vector is no longer routed without finding one: masked, not READY, or its
set has an enabled target (R295). -/
def Dev.runsEnd (d : Dev) : Dev :=
  d.each (d.keys X.EVC_NO_TGT_RUN) fun d v =>
    if d.on EVC_VEC_MASK.MASK v || d.get EVC_VEC_STATUS.STATE v != 2 || !(d.setTargets (d.get EVC_VEC_CFG.TSET v)).isEmpty then
      d.put X.EVC_NO_TGT_RUN v 0
    else d

/-- EVC_PEND_SET (R286): a PULSE source fires with the detail of its last occurrence, a module presence change with the
level it then had. DEDUCED (log 47). -/
def Dev.pendSet (d : Dev) (s : Nat) : Dev :=
  if (srcKind s).isSome && d.on EVC_SRC_CFG.ENABLE s then
    if srcLevel s then d.event s 0 true
    else if decide (0x2400 ≤ s ∧ s < 0x2C00) then d.fire s (flag (d.modPrs ((s - 0x2400) / 16))) false
    else d.fire s (d.get EVC_SRC_STATUS.LATCH s) false
  else d.inc EVC_BAD_PEND_SET.COUNT 0

/-- EVC_PEND_CLR (R286). -/
def Dev.pendClr (d : Dev) (s : Nat) : Dev :=
  let st := d.get EVC_VEC_STATUS.STATE (d.get EVC_SRC_CFG.VECTOR s)
  if d.present s then d
  else if st = 2 ∨ (srcKind s = some .pulse ∧ st < 2) then d.srcClear s else d

/-- The complex state and mode changed: source 0x2D08 fires with their codes (Table 93, Table 103). -/
def Dev.stateEvent (d : Dev) (state mode : Nat) : Dev := d.event srcState (state + mode * 16)

end Sys2Proof.Machine
end

