-- ==== Sys2Proof/Machine/Desk.lean ====
section
/-!
DEFINITION. The fault desk (13_faults_and_lockup.md): source indices and classes (R339, Tables 119 and 120), what a
fault does at once (R340 to R346), acknowledgement (R347), and the routing step that can raise a fault (R287, R295).
-/
namespace Sys2Proof.Machine
open F

/-- Severities of Table 121. -/
def sevNotice : Nat := 0
def sevDegraded : Nat := 1
def sevSerious : Nat := 2
def sevFatal : Nat := 3

/-- The classes Table 120 lists. -/
def faultClasses : List Nat := List.range 17 ++ [32, 33] ++ (List.range 9).map (· + 48)

/-- The source index of Table 119: the unit is 0, a bank, or eight × 8 + position. -/
def faultSrc (cls unit : Nat) : Nat :=
  if cls < 32 then cls else if cls < 48 then 0x100 + unit * 0x10 + (cls - 32)
  else 0x200 + unit / 8 * 0x80 + (cls - 48) * 8 + unit % 8

/-- The class of a source index, or none where the index is reserved (R339). -/
def faultClass (src : Nat) : Option Nat :=
  let c := if src < 32 then some src
    else if 0x100 ≤ src ∧ src < 0x200 then some (32 + src % 16)
    else if 0x200 ≤ src ∧ src < 0x4200 then some (48 + (src - 0x200) % 0x80 / 8)
    else none
  match c with
  | some k => if k ∈ faultClasses then (if (k = 48 ∨ k = 49) ∧ src % 8 ≠ 0 then none else some k) else none
  | none => none

/-- The bank of a bank source; eight × 8 + position of an eight source. -/
def faultUnit (src : Nat) : Nat :=
  if src < 0x200 then (src - 0x100) / 16 else (src - 0x200) / 0x80 * 8 + src % 8

/-- Port classes of Table 120, whose position is a port's first lane. -/
def portClass (cls : Nat) : Bool := cls ∈ [50, 51, 52, 54, 55, 56]

/-- The timebase as a stamp in the format of Table 8 (R188). -/
def Dev.now (d : Dev) : Stamp := ⟨d.tim.sec, d.tim.acc / 2 ^ 50, d.tim.acc / 2 ^ 34 % 2 ^ 16⟩

/-- The timebase runs: TCLK does whenever a clocked command acts, so TIM_CTL.EN decides (R189). -/
def Dev.tsValid (d : Dev) : Bool := d.on TIM_CTL.EN 0

/-- One fault raised: source index, severity, INFO, injected or hardware. -/
structure Raised where
  src : Nat
  sev : Nat
  info : Nat
  inj : Bool
  deriving DecidableEq, Repr

/-- The reaction byte of a fault: that of its class at its severity (R341). -/
def Dev.reactByte (d : Dev) (cls sev : Nat) : Nat :=
  match sev with
  | 0 => d.get FLT_REACT.R_NOTICE cls
  | 1 => d.get FLT_REACT.R_DEGRADED cls
  | 2 => d.get FLT_REACT.R_SERIOUS cls
  | _ => d.get FLT_REACT.R_FATAL cls

/-- A fault opens the record (R344); once SAFE entry is in progress it cannot. -/
def Dev.opens (d : Dev) : Bool :=
  (!d.on FLT_REC_STATUS.VALID 0 || d.on FLT_REC_STATUS.ACKED 0) && !d.on FLT_STATUS.ENTERING 0

/-- Enter the fault in the log (R342). -/
def Dev.logFault (d : Dev) (r : Raised) (merged : Bool) : Dev :=
  let n := d.get FLT_LOG_HEAD.HEAD 0 % 64
  let t := d.now
  (d.puts n [(FLT_LOG_LO.SOURCE, r.src), (FLT_LOG_LO.SEV, r.sev), (FLT_LOG_LO.MERGED, flag merged),
    (FLT_LOG_LO.INJECTED, flag r.inj), (FLT_LOG_LO.TS_VALID, flag d.tsValid), (FLT_LOG_LO.INFO, r.info),
    (FLT_LOG_HI.NANOSECONDS, t.ns), (FLT_LOG_HI.SECONDS, t.sec)]).wrap FLT_LOG_HEAD.HEAD 0 1

/-- Open the first-fault record (R344). -/
def Dev.openRecord (d : Dev) (r : Raised) : Dev :=
  let t := d.now
  d.puts 0 [(FLT_REC_STATUS.VALID, 1), (FLT_REC_STATUS.ACKED, 0), (FLT_REC_STATUS.SEV, r.sev),
    (FLT_REC_STATUS.PEAK_SEV, r.sev), (FLT_REC_STATUS.INJECTED, flag r.inj), (FLT_REC_STATUS.SOURCE, r.src),
    (FLT_REC_STATUS.MERGE_COUNT, 0), (FLT_REC_INFO.INFO, r.info), (FLT_REC_TIME_SEC.SECONDS, t.sec),
    (FLT_REC_TIME_NS.NANOSECONDS, t.ns), (FLT_REC_TIME_NS.FRAC_NS, t.frac),
    (FLT_REC_TIME_NS.TS_VALID, flag d.tsValid), (FLT_REC_MERGE_MAP.MAP, 0)]

/-- Merge a later fault into the record (R346). -/
def Dev.mergeRecord (d : Dev) (r : Raised) (cls : Nat) : Dev :=
  let d := d.puts 0 [(FLT_REC_MERGE_MAP.MAP, setBitAt (d.get FLT_REC_MERGE_MAP.MAP 0) cls),
    (FLT_REC_STATUS.PEAK_SEV, max (d.get FLT_REC_STATUS.PEAK_SEV 0) r.sev)]
  (d.inc FLT_REC_STATUS.MERGE_COUNT 0).inc FLT_MERGED.COUNT 0

/-- A SAFE reaction (R348): held before READY, the start of SAFE entry in READY or RUNNING, nothing further after. -/
def Dev.askSafe (d : Dev) : Dev :=
  if d.on FLT_STATUS.SAFE 0 then d
  else if d.on X.CMP_READY 0 then d.put FLT_STATUS.ENTERING 0 1
  else { d with cmp := { d.cmp with safeHeld := true } }

/-- A lock-up trigger is accepted and on its way to the controller (R343, R351). -/
def Dev.askLockup (d : Dev) (cause : Nat) : Dev :=
  if cause ∈ d.desk.trigs then d else { d with desk := { d.desk with trigs := d.desk.trigs ++ [cause] } }

/-- TCLK ticks in a millisecond: TCLK is 400 MHz. -/
def msTicks : Nat := 400000

/-- The quiet timer is loaded with QUIET_MS (R348, R349). -/
def Dev.quietLoad (d : Dev) : Dev :=
  { d.put FLT_STATUS.QUIET_LEFT_MS 0 (d.get FLT_SAFE_CFG.QUIET_MS 0) with desk := { d.desk with quiet := d.tim.ticks } }

/-- What is left of the quiet timer, which counts milliseconds down from its load (R349). DEDUCED (log 76). -/
def Dev.quietLeft (d : Dev) : Nat := d.get FLT_STATUS.QUIET_LEFT_MS 0 - (d.tim.ticks - d.desk.quiet) / msTicks

/-- One fault through the desk: count, log, record or merge, event, quiet timer, and its reactions. `noSafe` holds when
a LOCKUP of the same cycle supersedes SAFE (R343). -/
def Dev.raise1 (d : Dev) (r : Raised) (noSafe : Bool) : Dev :=
  match faultClass r.src with
  | none => d
  | some cls =>
    let byte := d.reactByte cls r.sev
    let first := d.opens
    let d := (d.inc FLT_CNT.COUNT cls).logFault r (!first)
    let d := if first then d.openRecord r else d.mergeRecord r cls
    let d := if bitAt byte 0 then d.seen srcDesk (if first then 0 else 1) else d
    let d := if d.on FLT_STATUS.SAFE 0 && decide (2 ≤ r.sev) then d.quietLoad else d
    let d := if byte / 2 % 8 ≠ 0 then { d with desk := { d.desk with reacts := d.desk.reacts ++ [⟨r.src, byte⟩] } } else d
    let d := if bitAt byte 5 then d.askLockup 1 else d
    if bitAt byte 4 && !noSafe then d.askSafe else d

/-- Of two faults of one cycle, the first is treated before the second (R345). -/
def Raised.before (a b : Raised) : Bool := decide (b.sev < a.sev) || (a.sev == b.sev && decide (a.src < b.src))

/-- Insert a fault in the order of R345; of one source only the highest severity is kept, hardware before injected
(R340). -/
def orderFault (r : Raised) : List Raised → List Raised
  | [] => [r]
  | a :: l =>
    if a.src = r.src then
      (if a.sev < r.sev ∨ (a.sev = r.sev ∧ a.inj ∧ !r.inj) then orderFault r l else a :: l)
    else if r.before a then r :: (a :: l).filter (fun x => decide (x.src ≠ r.src))
    else a :: orderFault r l

/-- The faults of one MCLK cycle (R340, R343, R345). DEDUCED (log 76). -/
def Dev.faults (d : Dev) (l : List Raised) : Dev :=
  let o := l.foldl (fun acc r => orderFault r acc) []
  let lock := o.any fun r => match faultClass r.src with
    | some c => bitAt (d.reactByte c r.sev) 5
    | none => false
  o.foldl (fun d r => d.raise1 r lock) d

/-- One hardware fault of a class and unit. -/
def Dev.fault (d : Dev) (cls unit sev info : Nat) : Dev := d.faults [⟨faultSrc cls unit, sev, info % 2 ^ 32, false⟩]

/-- Acknowledge the record (R347), releasing a SAFE hold (R350). -/
def Dev.ackRecord (d : Dev) : Dev :=
  let d := if d.on FLT_REC_STATUS.VALID 0 then d.put FLT_REC_STATUS.ACKED 0 1 else d
  if d.on FLT_STATUS.HELD 0 then
    let d := (d.put FLT_STATUS.HELD 0 0).quietLoad
    { d with desk := { d.desk with exits := [] } }
  else d

/-- The reaction bits allowed for a class (Table 122). -/
def allowedBits (cls : Nat) : Nat := if cls < 32 then 0x31 else if cls < 48 then 0x39 else 0x3F

/-- A configuration write that is ignored is logged once per access (R9, R389). -/
def Dev.cfgIgnored (d : Dev) (off : Nat) : Dev := d.fault 2 0 sevNotice (off % 2 ^ 26)

/-- One routing step for one vector (R287, R295): it commits, or its set has no enabled target, which shows in every such
cycle and counts in the first of a run; whether it commits, and whether a run begins. -/
def Dev.route1 (d : Dev) (v : Nat) : Dev × Bool × Bool :=
  let k := d.get EVC_VEC_CFG.TSET v
  if (d.setTargets k).isEmpty then
    let n := d.seen srcNoTarget 0
    if d.on X.EVC_NO_TGT_RUN v then (n, false, false) else ((n.put X.EVC_NO_TGT_RUN v 1).inc EVC_NO_TARGET.COUNT 0, false, true)
  else
    let d := d.put X.EVC_NO_TGT_RUN v 0
    let rr := if d.get EVC_VEC_CFG.ROUTE v = 0 then d.rrTarget v else none
    match rr with
    | some t => ((d.put X.EVC_RR k t).vecCommit v t, true, false)
    | none => match d.routeTarget v with
      | some t => (d.vecCommit v t, true, false)
      | none => (d, false, false)

/-- Route vectors in order until `n` of them have committed; with the vectors whose run without a target begins. -/
def Dev.routeList (d : Dev) (n : Nat) : List Nat → Dev × List Nat
  | [] => (d, [])
  | v :: l =>
    match n with
    | 0 => (d, [])
    | n + 1 => match d.route1 v with
      | (d, true, _) => d.routeList n l
      | (d, false, false) => d.routeList (n + 1) l
      | (d, false, true) => let (d, r) := d.routeList (n + 1) l; (d, v :: r)

/-- One routing cycle: up to 4 vectors commit (R287); what its vectors without a target raise are faults of one cycle (R295,
R340). -/
def Dev.routeCycle (d : Dev) : Dev :=
  let (d, l) := d.routeList 4 d.readyVecs
  d.faults (l.map fun v => ⟨faultSrc 14 0, sevNotice, v, false⟩)

/-- An EOI of target `t` (R291, R292): the service ends; a vector held for the target is presented again, and READY
vectors route in the same cycle, the higher first. -/
def Dev.eoi (d : Dev) (t v : Nat) (idle : Bool) : Dev :=
  if d.get EVC_VEC_STATUS.STATE v = 4 ∧ d.get EVC_VEC_STATUS.TARGET v = t ∧ d.on EVC_TGT_CFG.ENABLE t then
    let before := d.isPrio t
    let d := d.eoiVec v idle
    if d.isPrio t < before then
      let newPrio := match d.readyVecs.find? (fun u => d.routeTarget u == some t) with
        | some u => d.get EVC_VEC_CFG.PRIO u
        | none => 0
      match d.repeatVec t with
      | some r =>
        if d.get X.EVC_PRIO r < newPrio then (d.routeCycle).message t r true
        else (d.message t r true).routeCycle
      | none => d.routeCycle
    else d
  else d.inc EVC_T_BAD_EOI.COUNT t

end Sys2Proof.Machine
end

