-- ==== Sys2Proof/Machine/Time.lean ====
section
/-!
DEFINITION. The time unit (07_time_and_gates.md, R188 to R202): the timebase and its tick, steps, slews and snapshots,
capture, and transmit stamps.
-/
namespace Sys2Proof.Machine
open F

/-- The accumulator's second, in units of 2^-50 ns. -/
def secUnits : Nat := 10 ^ 9 * 2 ^ 50

/-- The whole range of the timebase, in the same units (Table 8: 48 bits of seconds). -/
def timeRange : Nat := 2 ^ 48 * secUnits

/-- One TCLK tick of the timebase (R188), which does not advance while TIM_CTL.EN is 0 (R189). -/
def Dev.tick (d : Dev) : Dev :=
  let t := { d.tim with ticks := d.tim.ticks + 1 }
  if d.on TIM_CTL.EN 0 then
    let s := min t.slew.natAbs (d.get TIM_SLEW.RATE_PPM 0 * 2814749767)
    let sg : Int := if t.slew < 0 then -(s : Int) else s
    let acc := ((t.acc : Int) + 10 * (2 ^ 48 + signedOf (d.get TIM_FREQ_ADJ.FREQ_ADJ 0) 40) + sg).toNat
    let t := { t with slew := t.slew - sg }
    if secUnits ≤ acc then { d with tim := { t with acc := acc - secUnits, sec := (t.sec + 1) % 2 ^ 48 } }
    else { d with tim := { t with acc := acc } }
  else { d with tim := t }

/-- The timebase as one number of units of 2^-50 ns. -/
def Tim.total (t : Tim) : Nat := t.sec * secUnits + t.acc

/-- The timebase in whole nanoseconds (R162) and in picoseconds. -/
def Dev.nowNs (d : Dev) : Nat := d.tim.sec * 10 ^ 9 + d.tim.acc / 2 ^ 50
def Dev.nowPs (d : Dev) : Nat := d.tim.total * 1000 / 2 ^ 50

/-- FREQ_ADJ held to ±500 ppm (R191). -/
def clipFreq (v : Nat) : Nat :=
  let z := signedOf v 40
  if 140737488355 < z then 140737488355 else if z < -140737488355 then unsignedOf (-140737488355) 40 else v % 2 ^ 40

/-- A write of TIM_STEP_CTL.GO (R192). -/
def Dev.stepGo (d : Dev) (add neg : Bool) : Dev :=
  let ns := d.get TIM_STEP_NS.NANOSECONDS 0
  if 999999999 < ns then d.seen srcTime 1
  else { d.put TIM_STEP_CTL.BUSY 0 1 with
    tim := { d.tim with step := some (d.get TIM_STEP_SEC.SECONDS 0, ns, d.get TIM_STEP_NS.FRAC_NS 0, add, neg) } }

/-- The new time of a step (R192). -/
def stepTime (t : Tim) (sec ns frac : Nat) (add neg : Bool) : Tim :=
  let v := sec * secUnits + ns * 2 ^ 50 + frac * 2 ^ 34
  let x := if !add then v else if neg then t.total + (timeRange - v % timeRange) else t.total + v
  { t with sec := x % timeRange / secUnits, acc := x % timeRange % secUnits, slew := 0, step := none }

/-- The timebase part of a step at its TCLK tick (R192). -/
def Dev.stepApply (d : Dev) : Dev :=
  match d.tim.step with
  | none => d
  | some (sec, ns, frac, add, neg) =>
    let d := { d with tim := stepTime d.tim sec ns frac add neg }
    let d := d.puts 0 [(TIM_STEP_CTL.BUSY, 0), (TIM_SLEW_CTL.ACTIVE, 0)]
    let d := if add then d else d.put TIM_STATUS.SET 0 1
    (d.wrap TIM_STATUS.STEP_COUNT 0 1).seen srcTime 0

/-- A write of TIM_SLEW_CTL.GO (R193). -/
def Dev.slewGo (d : Dev) : Dev :=
  let off := signedOf (d.get TIM_SLEW.OFFSET 0) 48
  { d.put TIM_SLEW_CTL.ACTIVE 0 (flag (off != 0)) with tim := { d.tim with slew := off * 2 ^ 34 } }

/-- The remaining slew has reached 0 (R193). -/
def Dev.slewDone (d : Dev) : Dev := if d.tim.slew = 0 then d.put TIM_SLEW_CTL.ACTIVE 0 0 else d

/-- TIM_SLEW_CTL.LEFT (R193). -/
def Dev.slewLeft (d : Dev) : Nat := unsignedOf (Int.tdiv d.tim.slew (2 ^ 34)) 48

/-- A write of TIM_SNAP.GO (R194). -/
def Dev.snapGo (d : Dev) : Dev :=
  let t := d.now
  d.puts 0 [(TIM_SNAP_SEC.SECONDS, t.sec), (TIM_SNAP_NS.NANOSECONDS, t.ns), (TIM_SNAP_NS.FRAC_NS, t.frac),
    (TIM_SNAP.READY, 1)]

/-- Table 8 as 96 bits: FRAC_NS lowest. -/
def Stamp.bits (t : Stamp) : Nat := t.frac % 2 ^ 16 + t.ns % 2 ^ 32 * 2 ^ 16 + t.sec % 2 ^ 48 * 2 ^ 48

def Stamp.zero : Stamp := ⟨0, 0, 0⟩

/-- A number of FRAC_NS units as a stamp, modulo 2^48 s. -/
def stampOfFrac (x : Int) : Stamp :=
  let n := (x % ((2 ^ 48 * 10 ^ 9 * 2 ^ 16 : Nat) : Int)).toNat
  ⟨n / (10 ^ 9 * 2 ^ 16), n / 2 ^ 16 % 10 ^ 9, n % 2 ^ 16⟩

/-- The time `periods` ROOTCLK periods after the last tick, moved by a latency in picoseconds (R195, R196). -/
def Dev.capture (d : Dev) (periods : Nat) (ps : Int) : Stamp :=
  stampOfFrac ((d.tim.total / 2 ^ 34 : Nat) + (20480 * periods : Nat) + ps * 65536 / 1000)

/-- Receive and transmit corrections of a lane (R195, R197). -/
def Dev.rxLat (d : Dev) (n : Nat) : Int :=
  (Config.rxFixedPs n % 2 ^ 16 : Nat) + signedOf (d.get TIM_LANE_LAT.RX_USER_PS n) 16
def Dev.txLat (d : Dev) (n : Nat) : Int :=
  (Config.txFixedPs n % 2 ^ 16 : Nat) + signedOf (d.get TIM_LANE_LAT.TX_USER_PS n) 16

/-- Arrival and departure at a port (R195, R198): a recirculation port has no lane correction. -/
def Dev.arrival (d : Dev) (p lane periods : Nat) : Stamp := d.capture periods (if p < 1024 then -(d.rxLat lane) else 0)
def Dev.departure (d : Dev) (p lane periods : Nat) : Stamp := d.capture periods (if p < 1024 then d.txLat lane else 0)

/-- The galley arrival clock of Table 50: 1 µs is 400 TCLK ticks. DEDUCED (log 54). -/
def Dev.arrivalUs (d : Dev) : Nat := d.tim.ticks / 400 % 2 ^ 21

/-- STEP_COUNT modulo 4. -/
def Dev.stepTag (d : Dev) : Nat := d.get TIM_STATUS.STEP_COUNT 0 % 4

/-- A port's MAC and stamp record. -/
def Dev.mac (d : Dev) (p : Nat) : MacSt := d.macs.get p MacSt.reset
def Dev.setMac (d : Dev) (p : Nat) (m : MacSt) : Dev := { d with macs := d.macs.set p m MacSt.reset }

/-- A stamp record (Table 64). -/
def stampWord (tsValid : Bool) (status tag port id seq : Nat) (ts : Stamp) : Nat :=
  0x31 + flag tsValid * 2 ^ 8 + status * 2 ^ 9 + tag * 2 ^ 11 + port * 2 ^ 16 + id % 2 ^ 16 * 2 ^ 32 +
    seq % 2 ^ 16 * 2 ^ 48 + ts.bits * 2 ^ 64

/-- A stamp loss record (Table 64); `ring` where it is lost at the stamp ring. -/
def stampLoss (ring : Bool) (port id seq count : Nat) : Nat :=
  0x3F + flag ring * 2 ^ 13 + port * 2 ^ 16 + id % 2 ^ 16 * 2 ^ 32 + seq % 2 ^ 16 * 2 ^ 48 +
    min count (2 ^ 32 - 1) * 2 ^ 160

/-- Status codes of a stamp record (R199). -/
def stSent : Nat := 0
def stAborted : Nat := 1
def stUnsent : Nat := 2

/-- Make a stamp record for a frame that asked for one (R199, R200, R202). -/
def Dev.stamp (d : Dev) (p id status tag : Nat) (ts : Stamp) (tsValid : Bool) : Dev :=
  if d.on TIM_PORT_CFG.STAMP_EN p then
    let m := d.mac p
    let w := if status = stUnsent then stampWord false status tag p id m.stampSeq Stamp.zero
      else stampWord tsValid status tag p id m.stampSeq (if tsValid then ts else Stamp.zero)
    let m1 := { m with stampSeq := (m.stampSeq + 1) % 2 ^ 16 }
    let d := d.inc TIM_P_STAMPS.COUNT p
    if m.stamps.length < 64 then d.setMac p { m1 with stamps := m.stamps ++ [w] }
    else
      let run := match m.run with
        | none => (id % 2 ^ 16, m.stampSeq, 1)
        | some (i, q, k) => (i, q, min (k + 1) (2 ^ 32 - 1))
      ((d.setMac p { m1 with run := some run }).inc TIM_P_STAMP_LOST.COUNT p).seen (srcPort p 5) 0
  else d.inc TIM_P_STAMP_OFF.COUNT p

/-- Rings by number: transmit queues, receive queues, then the four rings of each function (R243, R244). -/
def ringTx (q : Nat) : Nat := q
def ringRx (q : Nat) : Nat := 4096 + q
def ringCmd (f : Nat) : Nat := 8192 + 4 * f
def ringReply (f : Nat) : Nat := 8192 + 4 * f + 1
def ringStamp (f : Nat) : Nat := 8192 + 4 * f + 2
def ringTelem (f : Nat) : Nat := 8192 + 4 * f + 3

/-- A ring's record. -/
def Dev.ring (d : Dev) (r : Nat) : RingSt := d.rings.get r RingSt.reset
def Dev.setRing (d : Dev) (r : Nat) (x : RingSt) : Dev := { d with rings := d.rings.set r x RingSt.reset }

/-- A record on its way to a record ring. -/
def Dev.toRing (d : Dev) (r rec : Nat) : Dev := d.setRing r { d.ring r with arrive := (d.ring r).arrive ++ [rec] }

/-- The next port, in rotation, whose stamp queue holds a record (R201). -/
def Dev.nextStamped (d : Dev) : Option Nat :=
  let ps := (d.macs.filter fun m => !m.2.stamps.isEmpty).map (·.1)
  let r := d.get X.STAMP_RR 0
  (ps.filter (fun p => decide (r < p)) ++ ps.filter (fun p => decide (p ≤ r))).head?

/-- The stamp mover moves one record; an open loss run takes the entry freed (R200, R201). -/
def Dev.stampMove (d : Dev) : Dev :=
  match d.nextStamped with
  | none => d
  | some p =>
    let m := d.mac p
    match m.stamps with
    | [] => d
    | w :: rest =>
      let d := (d.put X.STAMP_RR 0 p).toRing (ringStamp (d.get TIM_PORT_CFG.STAMP_FUNC p)) w
      match m.run with
      | none => d.setMac p { m with stamps := rest }
      | some (i, q, k) => d.setMac p { m with stamps := rest ++ [stampLoss false p i q k], run := none }

/-- The stamps of a port reset (R37) are those its frames make: the queue itself is kept. Timebase values for TIM_GET
(R194), as words: seconds low and high, nanoseconds, fraction. -/
def Dev.timeWords (d : Dev) : List Nat :=
  let t := d.now
  [t.sec % 2 ^ 32, t.sec / 2 ^ 32, t.ns, t.frac]

end Sys2Proof.Machine
end

