-- ==== Sys2Proof/Machine/Gate.lean ====
section
/-!
DEFINITION. The gate engine (07_time_and_gates.md, R203 to R218): heat lists and their store, gate states now and ahead,
switches, steps, the start test, and the admission of gates.
-/
namespace Sys2Proof.Machine
open F

/-- Gate states of a port, as GATE_PORT_STATUS.STATE codes them. -/
def gsNone : Nat := 0
def gsHold : Nat := 1
def gsRun : Nat := 2

/-- The registers of slot `s`. -/
def slotBase (s : Nat) : Fld := if s = 0 then GATE_SLOT_0.ENTRY_BASE else GATE_SLOT_1.ENTRY_BASE
def slotCount (s : Nat) : Fld := if s = 0 then GATE_SLOT_0.COUNT else GATE_SLOT_1.COUNT
def slotCycle (s : Nat) : Fld := if s = 0 then GATE_SLOT_0.CYCLE_NS else GATE_SLOT_1.CYCLE_NS
def slotSec (s : Nat) : Fld := if s = 0 then GATE_BASE_0_SEC.SECONDS else GATE_BASE_1_SEC.SECONDS
def slotNs (s : Nat) : Fld := if s = 0 then GATE_BASE_0_NS.NANOSECONDS else GATE_BASE_1_NS.NANOSECONDS

/-- A heat list: entries of gate vector and duration, cycle, and base time in nanoseconds. -/
structure Heat where
  entries : List (Nat × Nat)
  cycle : Nat
  base : Nat
  deriving DecidableEq, Repr

/-- The list in slot `s` of port `p`, read from the store (Table 65). -/
def Dev.heat (d : Dev) (p s : Nat) : Heat :=
  let b := d.get (slotBase s) p
  ⟨(List.range (d.get (slotCount s) p)).map fun i =>
      let w := d.get GATE_HEAT.ENTRY (b + i)
      (bitsOf w 0 16, bitsOf w 32 32),
    d.get (slotCycle s) p, d.get (slotSec s) p * 10 ^ 9 + d.get (slotNs s) p⟩

/-- The scheduled classes of a port as a vector (R214). -/
def Dev.schedMask (d : Dev) (p : Nat) : Nat :=
  (List.range 16).foldl (fun n c => if d.on GATE_CLASS_CFG.SCHED (p * 16 + c) then setBitAt n c else n) 0

/-- Gates of a port with no list: HOLD or NONE (R208). -/
def Dev.staticGates (d : Dev) (p st : Nat) : Nat :=
  if st = gsHold then d.get GATE_PORT_CFG.HOLD_GATES p &&& (0xFFFF ^^^ d.schedMask p) else 0xFFFF

/-- The position of an instant in the cycle of a list, in picoseconds. -/
def Heat.phase (l : Heat) (t : Nat) : Nat :=
  (((t : Int) - (l.base * 1000 : Nat)) % ((l.cycle * 1000 : Nat) : Int)).toNat

/-- The index of the entry that holds a phase, counting from `i`. -/
def entryAt : List (Nat × Nat) → Nat → Nat → Nat
  | [], _, i => i
  | (_, dur) :: r, ph, i => if ph < dur * 1000 ∨ r.isEmpty then i else entryAt r (ph - dur * 1000) (i + 1)

def Heat.indexAt (l : Heat) (t : Nat) : Nat := entryAt l.entries (l.phase t) 0
def Heat.gatesAt (l : Heat) (t : Nat) : Nat := ((l.entries[l.indexAt t]?).map (·.1)).getD 0

/-- The start of every entry within the cycle, in picoseconds. -/
def starts : List (Nat × Nat) → Nat → List Nat
  | [], _ => []
  | (_, dur) :: r, o => o :: starts r (o + dur * 1000)

/-- The first instant after `t` at which each entry of a list begins. -/
def Heat.changes (l : Heat) (t : Nat) : List Nat :=
  (starts l.entries 0).map fun (o : Nat) =>
    let k := (((o : Nat) : Int) - ((l.phase t : Nat) : Int)) % ((l.cycle * 1000 : Nat) : Int)
    t + (if k = 0 then l.cycle * 1000 else k.toNat)

/-- What is pending on a port: a list or a stop. -/
def Dev.switchPending (d : Dev) (p : Nat) : Bool := d.on GATE_PORT_STATUS.PENDING p || d.on X.GATE_STOP_PEND p

/-- S, in picoseconds. -/
def Dev.switchAt (d : Dev) (p : Nat) : Nat :=
  (d.get GATE_SWITCH_SEC.SECONDS p * 10 ^ 9 + d.get GATE_SWITCH_NS.NANOSECONDS p) * 1000

/-- The charge of the longest frame class `c` may send (R217). -/
def Dev.clMax (d : Dev) (p c : Nat) : Nat :=
  min (d.get GATE_CLASS_CFG.MAX_LEN (p * 16 + c)) (d.get MAC_PORT_CFG.MAX_FRAME p) + 8 + d.get MAC_PORT_CFG.TX_IPG p

/-- The largest charge among the classes of a vector. -/
def Dev.clMaxOf (d : Dev) (p mask : Nat) : Nat := ((bitList mask 16).map (d.clMax p)).foldl max 0

/-- gneed of R217 over the classes of a vector that are not scheduled. -/
def Dev.guardNeed (d : Dev) (p w mask : Nat) : Nat :=
  ceilDiv (d.clMaxOf p (mask &&& (0xFFFF ^^^ d.schedMask p)) * 40) (w * 1000)

/-- The classes a list opens anywhere. -/
def Heat.anywhere (l : Heat) : Nat := l.entries.foldl (fun n e => n ||| e.1) 0

/-- The guard requirement of what is in force, and of what follows S (R206). -/
def Dev.needNow (d : Dev) (p : Nat) : Nat :=
  let w := (d.portWidth p).getD 1
  let st := d.get GATE_PORT_STATUS.STATE p
  if st = gsRun then d.guardNeed p w (d.heat p (d.get GATE_PORT_STATUS.RUN_SLOT p)).anywhere
  else d.guardNeed p w (d.staticGates p st)

/-- The state a port with no list takes (R208). -/
def Dev.staticState (d : Dev) (p : Nat) : Nat := if d.schedMask p = 0 then gsNone else gsHold

def Dev.needThen (d : Dev) (p : Nat) : Nat :=
  let w := (d.portWidth p).getD 1
  if d.on X.GATE_STOP_PEND p then d.guardNeed p w (d.staticGates p (d.staticState p))
  else d.guardNeed p w (d.heat p (d.get X.GATE_PSLOT p)).anywhere

/-- G of R206, in picoseconds. -/
def Dev.guardPs (d : Dev) (p : Nat) : Nat := max (d.needNow p) (d.needThen p) * 1000

/-- The gates in force now, were there no switch. -/
def Dev.gatesBefore (d : Dev) (p t : Nat) : Nat :=
  let st := d.get GATE_PORT_STATUS.STATE p
  if st = gsRun then (d.heat p (d.get GATE_PORT_STATUS.RUN_SLOT p)).gatesAt t else d.staticGates p st

/-- The gates in force from S on. -/
def Dev.gatesAfter (d : Dev) (p t : Nat) : Nat :=
  if d.on X.GATE_STOP_PEND p then d.staticGates p (d.staticState p) else (d.heat p (d.get X.GATE_PSLOT p)).gatesAt t

/-- The gates that will be in force at an instant (R206, R211). -/
def Dev.gatesAt (d : Dev) (p t : Nat) : Nat :=
  if d.switchPending p then
    if d.switchAt p ≤ t then d.gatesAfter p t
    else if d.switchAt p ≤ t + d.guardPs p then d.gatesBefore p t &&& d.schedMask p
    else d.gatesBefore p t
  else d.gatesBefore p t

/-- The instants after `t` at which gates may change. -/
def Dev.gateChanges (d : Dev) (p t : Nat) : List Nat :=
  let run := if d.get GATE_PORT_STATUS.STATE p = gsRun then (d.heat p (d.get GATE_PORT_STATUS.RUN_SLOT p)).changes t else []
  if d.switchPending p then
    let s := d.switchAt p
    run ++ [s - d.guardPs p, s] ++
      (if d.on X.GATE_STOP_PEND p then [] else (d.heat p (d.get X.GATE_PSLOT p)).changes (max t s))
  else run

/-- Class `c` is open throughout [a, b] (R211). -/
def Dev.openThroughout (d : Dev) (p c a b : Nat) : Bool :=
  bitAt (d.gatesAt p a) c &&
    (d.gateChanges p a).all fun t => decide (t ≤ a) || decide (b < t) || bitAt (d.gatesAt p t) c

/-- k and ctl of R217. -/
def Dev.ctlCount (d : Dev) (p : Nat) : Nat := if d.on MAC_PORT_CFG.PFC_EN p && d.schedMask p != 0 then 17 else 0
def Dev.ctlBytes (d : Dev) (p : Nat) : Nat := 72 + d.get MAC_PORT_CFG.TX_IPG p

/-- The start test of R211: `q` wire bytes requested and not yet at the pin, `cl` the candidate's charge. DEDUCED (log 60). -/
def Dev.startTest (d : Dev) (p c q cl : Nat) : Bool :=
  let w := (d.portWidth p).getD 1
  let te := d.nowPs + q * 40 / w
  let tl := d.nowPs + 107000 + (q + d.ctlCount p * d.ctlBytes p) * 40 / w
  d.openThroughout p c te tl &&
    (!d.on GATE_CLASS_CFG.SCHED (p * 16 + c) || d.openThroughout p c te (tl + cl * 40 / w))

/-- How long class `c` stays open from the start of a list of entries, none if it never closes within it. DEDUCED (log 53). -/
def openRun (c : Nat) : List (Nat × Nat) → Option Nat
  | [] => none
  | (g, dur) :: r => if bitAt g c then (openRun c r).map (· + dur * 1000) else some 0

/-- Entries turned so that the entry at index `i` comes first. -/
def turned (l : List (Nat × Nat)) (i : Nat) : List (Nat × Nat) := l.drop i ++ l.take i

/-- An instant is at or before the cut-off of the window that holds it (R215). -/
def Dev.beforeCut (d : Dev) (p c t : Nat) : Bool :=
  let cut := d.get GATE_CLASS_BOUND.CUT_NS (p * 16 + c) * 1000
  let l := d.heat p (d.get GATE_PORT_STATUS.RUN_SLOT p)
  let i := l.indexAt t
  let into := l.phase t - (starts l.entries 0)[i]?.getD 0
  let endOk := match openRun c (turned l.entries i) with
    | none => true
    | some k => decide (t + cut + into ≤ t + k)
  bitAt (d.gatesAt p t) c && endOk && (!d.switchPending p || decide (t + cut ≤ d.switchAt p))

/-- The windows of a class in a list (R203), in nanoseconds, with the gates of the entries before each opening, last
first; a class that never closes has one window of a cycle and no opening. -/
def windowsFrom (c : Nat) : List (Nat × Nat) → Option Nat → List Nat
  | [], none => []
  | [], some k => [k]
  | (g, dur) :: r, k =>
    if bitAt g c then windowsFrom c r (some (k.getD 0 + dur))
    else match k with
      | none => windowsFrom c r none
      | some k => k :: windowsFrom c r none

/-- The index of the first entry that closes class `c`. -/
def firstClosed (c : Nat) (l : List (Nat × Nat)) : Option Nat := l.findIdx? fun e => !bitAt e.1 c

def Heat.windows (l : Heat) (c : Nat) : List Nat :=
  match firstClosed c l.entries with
  | none => if l.entries.isEmpty then [] else [l.cycle]
  | some i => windowsFrom c (turned l.entries i) none

/-- How long the classes of `mask` stay closed at the head of a list, up to its end. -/
def closedRun (mask : Nat) : List (Nat × Nat) → Nat
  | [] => 0
  | (g, dur) :: r => if g &&& mask = 0 then dur + closedRun mask r else 0

/-- Every opening of class `c` is protected (R217): no class of `mask` is open in the `need` nanoseconds before it. -/
def Heat.guarded (l : Heat) (c mask need : Nat) : Bool :=
  let n := l.entries.length
  (List.range n).all fun i =>
    let here := ((l.entries[i]?).map (fun e => bitAt e.1 c)).getD false
    let before := ((l.entries[(i + n - 1) % n]?).map (fun e => bitAt e.1 c)).getD false
    let back := (turned l.entries i).reverse
    !(here && !before) || decide (need ≤ closedRun mask back) || back.all (fun e => e.1 &&& mask == 0)

/-- bound() of R217. -/
def Dev.bound (d : Dev) (p w l h : Nat) : Nat :=
  ceilDiv (112000 * w + (w * 3072 + l + h + d.ctlCount p * d.ctlBytes p) * 40) (1000 * w)

/-- x of R217. -/
def Dev.xNs (d : Dev) (p w c : Nat) : Nat := ceilDiv (d.clMax p c * 40) (w * 1000)

/-- The admission of one scheduled class against a list (R217): BOUND_NS, or the detail code of Table 67 with the
nanoseconds compared. -/
def Dev.admitClass (d : Dev) (p w : Nat) (l : Heat) (c : Nat) : Except (Nat × Nat) Nat :=
  if (l.windows c).isEmpty then .error (0x0705, 0)
  else
    let near := setBitAt (l.entries.foldl (fun n e => if bitAt e.1 c then n ||| e.1 else n) 0) c
    let high := (bitList near 16).filter fun k => decide (c < k) && d.on COX_CLASS_CFG.KIND (p * 16 + k)
    if high.any (fun k => d.get COX_CLASS_SHAPER.RATE_KBPS (p * 16 + k) == 0) then .error (0x0704, 0)
    else
      let h := (high.map fun k => d.get COX_CLASS_SHAPER.BURST (p * 16 + k) +
        ceilDiv (d.get COX_CLASS_SHAPER.RATE_KBPS (p * 16 + k) * 3) 32000).foldl (· + ·) 0
      let rProt := d.bound p w (d.clMaxOf p near) h
      let prot := l.guarded c (0xFFFF ^^^ d.schedMask p) (d.guardNeed p w l.anywhere)
      let r := if prot then rProt else d.bound p w (d.clMaxOf p l.anywhere) h
      if 750 < r then .error (if 750 < rProt then 0x0701 else 0x0702, r)
      else if (l.windows c).any (fun k => decide (k < r + d.xNs p w c)) then .error (0x0703, r + d.xNs p w c)
      else .ok r

/-- admit_gates of R217 for one list: none if it passes. -/
def Dev.admitList (d : Dev) (p : Nat) (l : Heat) : Option Adm :=
  let w := (d.portWidth p).getD 1
  let q := d.get GAL_FC_CFG.TX_QUANTA p * 1280
  if d.ctlCount p ≠ 0 ∧ q < 1000000 * w then some ⟨p, 0xFF, 0x0706, q / (1000 * w)⟩
  else (bitList (d.schedMask p) 16).findSome? fun c => match d.admitClass p w l c with
    | .error e => some ⟨p, c, e.1, e.2⟩
    | .ok _ => none

/-- The lists a port has running or pending. -/
def Dev.liveLists (d : Dev) (p : Nat) : List Heat :=
  (if d.get GATE_PORT_STATUS.STATE p = gsRun then [d.heat p (d.get GATE_PORT_STATUS.RUN_SLOT p)] else []) ++
  (if d.on GATE_PORT_STATUS.PENDING p then [d.heat p (d.get X.GATE_PSLOT p)] else [])

/-- A port has a list running or pending (R189). -/
def Dev.listLive (d : Dev) (p : Nat) : Bool := !(d.liveLists p).isEmpty

/-- The admission of every lane port with a list (R217), and of scheduled classes to the mode (R214): `sched` holds in
TIMED and CONVERGED. DEDUCED (log 63). -/
def Dev.admitGates (d : Dev) (sched : Bool) : Option Adm :=
  d.lanePorts.findSome? fun p => match (bitList (d.schedMask p) 16).head? with
    | some c => if sched then (d.liveLists p).findSome? (d.admitList p) else some ⟨p, c, 0x070A, 0⟩
    | none => (d.liveLists p).findSome? (d.admitList p)

/-- open(p, c) of a list, as a fraction (R218). -/
def Dev.openList (d : Dev) (p : Nat) (l : Heat) (c : Nat) : Nat × Nat :=
  let x := if d.on GATE_CLASS_CFG.SCHED (p * 16 + c) then d.xNs p ((d.portWidth p).getD 1) c else 0
  (((l.windows c).map (· - x)).foldl (· + ·) 0, l.cycle)

/-- open(p, c) of R218: the smaller of its values before and after S while a list is pending. -/
def Dev.openFrac (d : Dev) (p c : Nat) : Nat × Nat :=
  let st := d.get GATE_PORT_STATUS.STATE p
  let stat := (flag (bitAt (d.staticGates p st) c), 1)
  let before := if st = gsRun then d.openList p (d.heat p (d.get GATE_PORT_STATUS.RUN_SLOT p)) c else stat
  if d.on GATE_PORT_STATUS.PENDING p then
    let after := d.openList p (d.heat p (d.get X.GATE_PSLOT p)) c
    if after.1 * before.2 < before.1 * after.2 then after else before
  else before

/-- BOUND_NS and CUT_NS of a class under a list (R217), 0 for a class that is not scheduled. -/
def Dev.classBound (d : Dev) (p : Nat) (l : Option Heat) (c : Nat) : Nat × Nat :=
  let w := (d.portWidth p).getD 1
  match l with
  | some l => if d.on GATE_CLASS_CFG.SCHED (p * 16 + c) then match d.admitClass p w l c with
      | .ok r => (r, r + d.xNs p w c)
      | .error _ => (0, 0) else (0, 0)
  | none => (0, 0)

/-- OPEN_PPM of a class (R218). -/
def Dev.openPpm (d : Dev) (p c : Nat) : Nat :=
  let o := d.openFrac p c
  if o.2 = 0 then 0 else o.1 * 1000000 / o.2

/-- Write the derived gate registers of a port: GUARD_NEED_NS, and BOUND_NS, CUT_NS and OPEN_PPM of each class for the
list in force, or the pending one where none runs (R217, R218). -/
def Dev.gateDerive (d : Dev) (p : Nat) : Dev :=
  let d := d.put GATE_GUARD.GUARD_NEED_NS p (d.needNow p)
  (List.range 16).foldl (fun d c =>
    let b := d.classBound p (d.liveLists p).head? c
    d.puts (p * 16 + c) [(GATE_CLASS_BOUND.BOUND_NS, b.1), (GATE_CLASS_BOUND.CUT_NS, b.2),
      (GATE_CLASS_BOUND.OPEN_PPM, d.openPpm p c)]) d

/-- The gate vector in force is taken from what holds now (R208, R209). DEDUCED (log 53). -/
def Dev.gateShow (d : Dev) (p : Nat) : Dev :=
  let st := d.get GATE_PORT_STATUS.STATE p
  let t := d.nowPs
  let g := d.gatesBefore p t
  let g := if d.on GATE_PORT_STATUS.GUARD_ACTIVE p then g &&& d.schedMask p else g
  let e := if st = gsRun then (d.heat p (d.get GATE_PORT_STATUS.RUN_SLOT p)).indexAt t else 0
  d.puts p [(GATE_PORT_STATUS.GATES, g), (GATE_PORT_STATUS.ENTRY, e)]

/-- The state of a port with no list (R208); a port created on lanes whose classes were left scheduled is in NONE until a list
switches or a class is made scheduled anew (R203). DEDUCED (log 60). -/
def Dev.idleState (d : Dev) (p : Nat) : Nat := if d.on X.GATE_FRESH p then gsNone else d.staticState p

/-- SCHED or HOLD_GATES of a port changed (R208): a port with no list goes between NONE and HOLD. -/
def Dev.gateRefresh (d : Dev) (p : Nat) : Dev :=
  let st := d.get GATE_PORT_STATUS.STATE p
  let d := if st = gsRun then d
    else if st = gsHold ∧ d.on GATE_PORT_STATUS.PENDING p then d
    else d.put GATE_PORT_STATUS.STATE p (d.idleState p)
  (d.gateShow p).gateDerive p

/-- Free a slot's entries in the store. -/
def Dev.slotFree (d : Dev) (p s : Nat) : Dev :=
  d.puts p [(slotBase s, 0), (slotCount s, 0), (slotCycle s, 0), (slotSec s, 0), (slotNs s, 0)]

/-- Every list that holds entries of the store: base, count, port, slot, by rising base. -/
def insBase (x : Nat × Nat × Nat × Nat) : List (Nat × Nat × Nat × Nat) → List (Nat × Nat × Nat × Nat)
  | [] => [x]
  | y :: r => if x.1 < y.1 then x :: y :: r else y :: insBase x r

def Dev.storeLists (d : Dev) : List (Nat × Nat × Nat × Nat) :=
  let of s := (d.keys (slotCount s)).map fun p => (d.get (slotBase s) p, d.get (slotCount s) p, p, s)
  (of 0 ++ of 1).foldl (fun l x => insBase x l) []

/-- The entries in use. -/
def Dev.storeUsed (d : Dev) : Nat := (d.storeLists.map (·.2.1)).foldl (· + ·) 0

/-- The lowest free run of `n` entries from `at_` on among lists by rising base. -/
def freeRun (n : Nat) : List (Nat × Nat × Nat × Nat) → Nat → Option Nat
  | [], a => if a + n ≤ 131072 then some a else none
  | (b, k, _, _) :: r, a => if a + n ≤ b then some a else freeRun n r (b + k)

/-- Copy `n` entries of the store downwards. -/
def Dev.moveEntries (d : Dev) (src dst : Nat) : Nat → Dev
  | 0 => d
  | n + 1 => let d := d.moveEntries src dst n
    d.put GATE_HEAT.ENTRY (dst + n) (d.get GATE_HEAT.ENTRY (src + n))

/-- Pack the lists from entry `a` on, in order of their base (R204). DEDUCED (log 60). -/
def Dev.packStore (d : Dev) : List (Nat × Nat × Nat × Nat) → Nat → Dev
  | [], _ => d
  | (b, k, p, s) :: r, a => ((d.moveEntries b a k).put (slotBase s) p a).packStore r (a + k)

/-- Allocate `n` entries to a slot whose previous entries are free: the lowest run that holds them, after compaction if
no run does (R204). -/
def Dev.slotAlloc (d : Dev) (p s n : Nat) : Dev :=
  match freeRun n d.storeLists 0 with
  | some a => d.puts p [(slotBase s, a), (slotCount s, n)]
  | none =>
    let d := d.packStore d.storeLists 0
    d.puts p [(slotBase s, d.storeUsed), (slotCount s, n)]

/-- The staging slot: the one that is not running (R204); on a port with no list the slot that is or was last pending, and
slot 0 before any. DEDUCED (log 60). -/
def Dev.staging (d : Dev) (p : Nat) : Nat :=
  if d.get GATE_PORT_STATUS.STATE p = gsRun then 1 - d.get GATE_PORT_STATUS.RUN_SLOT p
  else d.get X.GATE_PSLOT p

/-- The staging slot holds the pending list. -/
def Dev.stagingPends (d : Dev) (p : Nat) : Bool :=
  d.on GATE_PORT_STATUS.PENDING p && d.get X.GATE_PSLOT p == d.staging p

/-- Write entries from an offset of the staging slot on. -/
def Dev.writeEntries (d : Dev) (at_ : Nat) : List Nat → Dev
  | [] => d
  | e :: r => (d.put GATE_HEAT.ENTRY at_ (e &&& 0xFFFFFFFF0000FFFF)).writeEntries (at_ + 1) r

/-- GATE_LIST_LOAD (R204): with its pending list cancelled, a port that no list runs on is in HOLD or NONE as its classes are
now (R208). -/
def Dev.listLoad (d : Dev) (p offset count : Nat) (entries : List Nat) : Dev :=
  let s := d.staging p
  let d := if offset = 0 then
      let d := if d.stagingPends p then
          (d.puts p [(GATE_PORT_STATUS.PENDING, 0), (GATE_PORT_STATUS.GUARD_ACTIVE, 0)]).gateRefresh p
        else d
      (d.slotFree p s).slotAlloc p s count
    else d
  (d.writeEntries (d.get (slotBase s) p + offset) entries).gateDerive p

/-- The first base + n × cycle, in nanoseconds, that is at least `lead` nanoseconds after now. -/
def Dev.switchFor (d : Dev) (base cycle lead : Nat) : Nat :=
  let t := d.nowPs + lead * 1000
  if t ≤ base * 1000 then base else base + ceilDiv (t - base * 1000) (cycle * 1000) * cycle

/-- Set S. -/
def Dev.putSwitch (d : Dev) (p ns : Nat) : Dev :=
  d.puts p [(GATE_SWITCH_SEC.SECONDS, ns / 10 ^ 9), (GATE_SWITCH_NS.NANOSECONDS, ns % 10 ^ 9)]

/-- GATE_LIST_COMMIT once admitted: the staging list is pending with its S (R205). -/
def Dev.listCommit (d : Dev) (p cycle sec ns : Nat) : Dev :=
  let s := d.staging p
  let d := d.puts p [(slotCycle s, cycle), (slotSec s, sec), (slotNs s, ns), (GATE_PORT_STATUS.PENDING, 1),
    (X.GATE_PSLOT, s), (X.GATE_STOP_PEND, 0), (GATE_PORT_STATUS.GUARD_ACTIVE, 0)]
  ((d.putSwitch p (d.switchFor (sec * 10 ^ 9 + ns) cycle 2000)).gateShow p).gateDerive p

/-- GATE_STOP (R208): S from the running list's base and cycle; a pending list is replaced and its entries freed. -/
def Dev.gateStop (d : Dev) (p : Nat) : Dev :=
  let l := d.heat p (d.get GATE_PORT_STATUS.RUN_SLOT p)
  let d := if d.on GATE_PORT_STATUS.PENDING p then
      (d.slotFree p (d.get X.GATE_PSLOT p)).puts p [(GATE_PORT_STATUS.PENDING, 0), (GATE_PORT_STATUS.GUARD_ACTIVE, 0)]
    else d
  (((d.put X.GATE_STOP_PEND p 1).putSwitch p (d.switchFor l.base l.cycle 2000)).gateShow p).gateDerive p

/-- The gate vector of the entry the timebase is in takes effect (R209). -/
def Dev.entryBoundary (d : Dev) (p : Nat) : Dev :=
  if d.get GATE_PORT_STATUS.STATE p = gsRun then d.gateShow p else d

/-- The switch guard starts (R206). -/
def Dev.guardStart (d : Dev) (p : Nat) : Dev :=
  if d.switchPending p ∧ d.switchAt p ≤ d.nowPs + d.guardPs p ∧ d.nowPs < d.switchAt p then
    (d.put GATE_PORT_STATUS.GUARD_ACTIVE p 1).gateShow p
  else d

/-- The port goes to HOLD or NONE with no list; what its other slot has loaded stays in the staging slot. -/
def Dev.gateIdle (d : Dev) (p : Nat) : Dev :=
  let run := d.get GATE_PORT_STATUS.RUN_SLOT p
  let d := if d.get GATE_PORT_STATUS.STATE p = gsRun then (d.slotFree p run).put X.GATE_PSLOT p (1 - run) else d
  ((d.puts p [(GATE_PORT_STATUS.STATE, d.staticState p), (X.GATE_STOP_PEND, 0), (GATE_PORT_STATUS.GUARD_ACTIVE, 0),
    (X.GATE_FRESH, 0)]).gateShow p).gateDerive p

/-- At S (R205, R206, R208). -/
def Dev.gateSwitch (d : Dev) (p : Nat) : Dev :=
  if d.switchPending p ∧ d.switchAt p ≤ d.nowPs then
    let d := d.seen (srcPort p 6) 0
    if d.on X.GATE_STOP_PEND p then d.gateIdle p
    else
      let s := d.get X.GATE_PSLOT p
      let run := d.get GATE_PORT_STATUS.RUN_SLOT p
      let d := if d.get GATE_PORT_STATUS.STATE p = gsRun ∧ run ≠ s then d.slotFree p run else d
      let d := d.puts p [(GATE_PORT_STATUS.STATE, gsRun), (GATE_PORT_STATUS.RUN_SLOT, s), (GATE_PORT_STATUS.PENDING, 0),
        (GATE_PORT_STATUS.GUARD_ACTIVE, 0), (X.GATE_FRESH, 0)]
      (((d.inc GATE_P_SWITCH.COUNT p).gateShow p).gateDerive p)
  else d

/-- A step moves the list of a port off its cycle (R210). -/
def Dev.gateStep (d : Dev) (p : Nat) : Dev :=
  let run := d.get GATE_PORT_STATUS.RUN_SLOT p
  let running := d.get GATE_PORT_STATUS.STATE p == gsRun
  if d.on X.GATE_STOP_PEND p then
    ((d.gateIdle p).inc GATE_P_STEP_RESTART.COUNT p).seen (srcPort p 6) 1
  else if running || d.on GATE_PORT_STATUS.PENDING p then
    let d := if d.on GATE_PORT_STATUS.PENDING p then (if running then d.slotFree p run else d)
      else d.puts p [(GATE_PORT_STATUS.PENDING, 1), (X.GATE_PSLOT, run)]
    let l := d.heat p (d.get X.GATE_PSLOT p)
    let d := (d.puts p [(GATE_PORT_STATUS.STATE, gsHold), (GATE_PORT_STATUS.GUARD_ACTIVE, 0)]).putSwitch p
      (d.switchFor l.base l.cycle 10000)
    ((((d.gateShow p).gateDerive p).inc GATE_P_STEP_RESTART.COUNT p).seen (srcPort p 6) 1)
  else d

/-- A removed port drops its lists (R203). -/
def Dev.gateDrop (d : Dev) (p : Nat) : Dev :=
  ((d.slotFree p 0).slotFree p 1).clrs p [GATE_PORT_STATUS.STATE, GATE_PORT_STATUS.PENDING, GATE_PORT_STATUS.RUN_SLOT,
    GATE_PORT_STATUS.GUARD_ACTIVE, GATE_PORT_STATUS.GATES, GATE_PORT_STATUS.ENTRY, X.GATE_STOP_PEND, X.GATE_PSLOT,
    GATE_SWITCH_SEC.SECONDS, GATE_SWITCH_NS.NANOSECONDS, GATE_GUARD.GUARD_NEED_NS]

end Sys2Proof.Machine
end

