-- ==== Sys2Proof/Machine/Galley.lean ====
section
/-!
DEFINITION. The galley and flow control (05_galley_and_flow_control.md): headroom and admission, hysteresis and the
states it reports, storage and release, retirement of extents, and the receive timers.
-/
namespace Sys2Proof.Machine
open F

/-- Flow-control modes of Table 49. -/
def fcNone : Nat := 0
def fcCore : Nat := 1
def fcGalley : Nat := 2

/-- Bytes of an extent. -/
def extBytes : Nat := 2097152

def Dev.fcMode (d : Dev) (pc : Nat) : Nat := d.get GAL_PC_CFG.FC_MODE pc
def Dev.gal (d : Dev) (pc : Nat) : GalClass := d.gals.get pc GalClass.reset
def Dev.setGal (d : Dev) (pc : Nat) (g : GalClass) : Dev := { d with gals := d.gals.set pc g GalClass.reset }

/-- headroom(p) of R145 with the values given in place of the configured ones. -/
def headroomOf (w fibreM maxFrame txIpg partRespNs : Nat) : Nat :=
  let t := 10000 * fibreM + 220000 + 1000 * partRespNs + (maxFrame + txIpg + 87) * 40 / w
  ceilDiv (w * 25005 * t) 1000000 + maxFrame + 16

def Dev.headroom (d : Dev) (p : Nat) : Nat :=
  headroomOf ((d.portWidth p).getD 1) (d.get GAL_FC_CFG.FIBRE_M p) (d.get MAC_PORT_CFG.MAX_FRAME p)
    (d.get MAC_PORT_CFG.TX_IPG p) (d.get GAL_FC_CFG.PART_RESP_NS p)

/-- The 16 classes of a port as indices of class blocks. -/
def classesOf (p : Nat) : List Nat := (List.range 16).map (p * 16 + ·)

/-- A port uses the galley (R134). -/
def Dev.usesGalley (d : Dev) (p : Nat) : Bool := (classesOf p).any fun pc => d.fcMode pc == fcGalley

/-- Extents from the read point of a class on that its stored bytes reach into. -/
def Dev.extentsUsed (d : Dev) (pc : Nat) : Nat :=
  let occ := d.get GAL_PC_STATUS.OCCUPANCY pc
  if occ = 0 then 0 else ceilDiv (d.get X.GAL_RD_OFF pc + occ) extBytes

/-- Extents a class has in its ring (R139): its quota in GALLEY mode. -/
def Dev.classRing (d : Dev) (pc : Nat) : Nat := if d.fcMode pc = fcGalley then d.get GAL_PC_CFG.QUOTA_EXT pc else 0

/-- The chain of a class once what a cut of its quota frees is gone (R152): an extent beyond the quota stays while the
read point has not left it. -/
def Dev.chainKept (d : Dev) (pc : Nat) : List (Nat × Nat) :=
  let n := d.classRing pc
  let k := d.extentsUsed pc
  ((d.gal pc).chain.zipIdx.filter fun x => decide (x.1.2 < n) || decide (x.2 < k)).map (·.1)

/-- Extents chained to a class (R146, R152): those of its quota, and those beyond it that the read point has not left. DEDUCED (log 52). -/
def Dev.extentsHeld (d : Dev) (pc : Nat) : Nat :=
  d.classRing pc + ((d.chainKept pc).filter fun x => decide (d.classRing pc ≤ x.2)).length

/-- Extents a class counts for (R146): the larger of quota and extents held. -/
def Dev.extentsFor (d : Dev) (pc : Nat) : Nat := max (d.get GAL_PC_CFG.QUOTA_EXT pc) (d.extentsHeld pc)

/-- The class blocks in GALLEY mode. -/
def Dev.galleyClasses (d : Dev) : List Nat := (d.keys GAL_PC_CFG.FC_MODE).filter fun pc => d.fcMode pc == fcGalley && d.isLanePort (pc / 16)

/-- What a class's quota must hold (R146). -/
def Dev.quotaNeed (d : Dev) (pc : Nat) : Nat := d.headroom (pc / 16) + 1024 * d.get GAL_PC_CFG.XON_GAP_KIB pc

/-- The refusal of one port by admit_galley (R146), Table 52. `long` holds in REACH and CONVERGED. -/
def Dev.admitGalleyPort (d : Dev) (long : Bool) (p : Nat) : Option Adm :=
  let cs := classesOf p
  let core := cs.find? fun pc => d.fcMode pc == fcCore
  let far := decide (2000 < d.get GAL_FC_CFG.FIBRE_M p)
  if far && !long then some ⟨p, 0xFF, 0x0501, d.get GAL_FC_CFG.FIBRE_M p⟩
  else if far && core.isSome then some ⟨p, core.getD 0 % 16, 0x0502, 0⟩
  else if cs.any (fun pc => d.fcMode pc != fcNone) && !d.on MAC_PORT_CFG.PFC_EN p && !d.on MAC_PORT_CFG.PAUSE_EN p then
    some ⟨p, 0xFF, 0x0503, 0⟩
  else match cs.find? (fun pc => d.fcMode pc == fcCore &&
      decide (d.get GAL_PC_CORE.CORE_XOFF_KIB pc ≤ d.get GAL_PC_CORE.CORE_XON_KIB pc)) with
    | some pc => some ⟨p, pc % 16, 0x0504, 1024 * d.get GAL_PC_CORE.CORE_XON_KIB pc⟩
    | none => (cs.find? (fun pc => d.fcMode pc == fcGalley &&
        decide (d.get GAL_PC_CFG.QUOTA_EXT pc * extBytes < d.quotaNeed pc))).map fun pc => ⟨p, pc % 16, 0x0505, d.quotaNeed pc⟩

/-- The rate of galley ports in Gb/s (R146, GAL_STATUS.RATE). -/
def Dev.galleyRate (d : Dev) : Nat :=
  ((d.lanePorts.filter d.usesGalley).map fun p => 200 * (d.portWidth p).getD 0).foldl (· + ·) 0

/-- Extents committed (GAL_EXT.COMMITTED). -/
def Dev.committed (d : Dev) : Nat := (d.galleyClasses.map d.extentsFor).foldl (· + ·) 0

/-- A scheduled class that could be paused (R149). -/
def Dev.schedPaused (d : Dev) (p : Nat) : Option Nat :=
  (bitList (d.schedMask p) 16).find? fun c => d.on MAC_PORT_CFG.PAUSE_EN p ||
    !bitAt (d.get GAL_FC_MAP.RX_IGNORE p) (d.get (GAL_FC_TXMAP.TX_CLASS_PRIO c) p)

/-- admit_galley of R146 over the whole configuration: the first refusal. DEDUCED (log 63). -/
def Dev.admitGalley (d : Dev) (long : Bool) : Option Adm :=
  match d.lanePorts.findSome? (d.admitGalleyPort long) with
  | some r => some r
  | none =>
    if 28000 < d.galleyRate then some ⟨0xFFFF, 0xFF, 0x0506, d.galleyRate⟩
    else if d.get GAL_EXT.USABLE 0 < d.committed then some ⟨0xFFFF, 0xFF, 0x0507, d.committed⟩
    else d.lanePorts.findSome? fun p => (d.schedPaused p).map fun c => ⟨p, c, 0x0508, 0⟩

/-- Ask the MAC for a control frame (R148). -/
def Dev.fcRequest (d : Dev) (p : Nat) : Dev := d.setMac p { d.mac p with fcReq := true }

/-- Priorities of a port that are XOFF (R147). -/
def Dev.prioXoff (d : Dev) (p : Nat) : Nat :=
  (List.range 8).foldl (fun n k =>
    if d.on GAL_PC_STATUS.XOFF (p * 16 + d.get (GAL_FC_MAP.RX_PRIO_CLASS k) p) then setBitAt n k else n) 0

/-- Form the port's states from its classes (R147, R148, R213): priorities and port, counts of rises, the states
reported, and a control frame where one changed. -/
def Dev.fcForm (d : Dev) (p : Nat) : Dev :=
  let old := d.get GAL_FC_STATUS.TX_XOFF p
  let now := d.prioXoff p
  let oldPort := d.on GAL_FC_STATUS.PORT_XOFF p
  let port := d.on MAC_PORT_CFG.PAUSE_EN p && (classesOf p).any fun pc => d.on GAL_PC_STATUS.XOFF pc
  let rep := d.get X.GAL_REP p
  let rep' := if d.ctlCount p ≠ 0 then rep ||| now else now
  let d := (bitList (now &&& (0xFF ^^^ old)) 8).foldl (fun d k => d.inc (GAL_FC_TX_XOFF.COUNT k) p) d
  let d := d.puts p [(GAL_FC_STATUS.TX_XOFF, now), (GAL_FC_STATUS.PORT_XOFF, flag port), (X.GAL_REP, rep')]
  if rep' ≠ rep ∨ port ≠ oldPort then d.fcRequest p else d

/-- The fall of a priority is reported on a scheduled PFC port (R213). -/
def Dev.xoffFall (d : Dev) (p k : Nat) : Dev :=
  let rep := d.get X.GAL_REP p
  if bitAt rep k ∧ !bitAt (d.get GAL_FC_STATUS.TX_XOFF p) k then (d.put X.GAL_REP p (clrBitAt rep k)).fcRequest p else d

/-- A galley channel is marked FAILED (R365, R367). -/
def Dev.galFailed (d : Dev) : Bool := !(d.keys GAL_CH_STATUS.FAILED).isEmpty

/-- The occupancy the hysteresis of a class takes (R147): of the galley, or of the core by its last report. With a channel
FAILED and the galley out of service a GALLEY class counts as standing at XOFF_TH (R367). -/
def Dev.occSeen (d : Dev) (pc : Nat) : Nat :=
  if d.fcMode pc ≠ fcGalley then (d.gal pc).report.getD 0
  else if d.galFailed && !d.on GAL_STATUS.IN_SERVICE 0 then d.get GAL_PC_XOFF.XOFF_TH pc
  else d.get GAL_PC_STATUS.OCCUPANCY pc

/-- The hysteresis of a class (R147, R367). -/
def Dev.hyst (d : Dev) (pc : Nat) : Dev :=
  let p := pc / 16
  let m := d.fcMode pc
  let g := d.gal pc
  let xoff := d.on GAL_PC_STATUS.XOFF pc
  let occ := d.occSeen pc
  let hi := if m = fcGalley then d.get GAL_PC_XOFF.XOFF_TH pc else 1024 * d.get GAL_PC_CORE.CORE_XOFF_KIB pc
  let lo := if m = fcGalley then d.get GAL_PC_XON.XON_TH pc else 1024 * d.get GAL_PC_CORE.CORE_XON_KIB pc
  let stale := m == fcCore && g.stale
  if m = fcNone then (if xoff then (d.put GAL_PC_STATUS.XOFF pc 0).fcForm p else d)
  else if !xoff && (decide (hi ≤ occ) || stale) then
    ((d.puts pc [(GAL_PC_STATUS.XOFF, 1), (GAL_PC_STATUS.XOFF_SEEN, 1)]).fcForm p).fcRequest p
  else if xoff && decide (occ < lo) && !stale then ((d.put GAL_PC_STATUS.XOFF pc 0).fcForm p).fcRequest p
  else d

/-- A frame of the class is being written (R135). -/
def Dev.storing (d : Dev) (pc : Nat) : Bool :=
  match (d.mac (pc / 16)).rx with
  | some r => r.stage == .storing && r.cls == pc % 16
  | none => false

/-- The class's occupancy changes (R139, R147, R152). -/
def Dev.occPut (d : Dev) (pc occ : Nat) : Dev :=
  let d := d.puts pc [(GAL_PC_STATUS.OCCUPANCY, occ), (GAL_PC_PEAK.PEAK, max occ (d.get GAL_PC_PEAK.PEAK pc)),
    (GAL_PC_STATUS.OVER_QUOTA, flag (decide (d.get GAL_PC_CFG.QUOTA_EXT pc * extBytes < occ)))]
  d.hyst pc

def Dev.occAdd (d : Dev) (pc n : Nat) : Dev := d.occPut pc (d.get GAL_PC_STATUS.OCCUPANCY pc + n)
def Dev.occSub (d : Dev) (pc n : Nat) : Dev := d.occPut pc (d.get GAL_PC_STATUS.OCCUPANCY pc - n)

/-- The extents of the galley: cell k of extent e lies in channel (k + e) mod 64; the last 2048 are spares, taken in
rising order (the section on storage before R139). DESIGN CHOICE (log 86). -/
def firstSpare : Nat := 63488
def cellChannel (ext cell : Nat) : Nat := (cell + ext) % 64

/-- Extents in use by any class. -/
def Dev.chained (d : Dev) : List Nat := d.gals.flatMap fun g => g.2.chain.map (·.1)

/-- The first `n` extents of the usable pool from `k` on that are free, with fuel. DESIGN CHOICE (log 86). -/
def Dev.freeExtents (d : Dev) (used : List Nat) : Nat → Nat → Nat → List Nat
  | 0, _, _ => []
  | fuel + 1, n, k =>
    if n = 0 ∨ firstSpare + 2048 - d.get GAL_EXT.SPARE_LEFT 0 ≤ k then []
    else if used.contains k || d.on X.GAL_OUT k then d.freeExtents used fuel n (k + 1)
    else k :: d.freeExtents used fuel (n - 1) (k + 1)

/-- Put the chain of a class at a list, and the read point at an offset in its first extent. -/
def Dev.chainPut (d : Dev) (pc : Nat) (l : List (Nat × Nat)) : Dev :=
  let d := if l.head? = (d.gal pc).chain.head? then d else d.put X.GAL_RD_OFF pc 0
  d.setGal pc { d.gal pc with chain := l }

/-- The ring of a class follows its quota (R139, R152): extents past it that hold nothing are freed, missing ones are
chained from the pool. -/
def Dev.chainSync (d : Dev) (pc : Nat) : Dev :=
  let l := d.chainKept pc
  let lack := (List.range (d.classRing pc)).filter fun i => !(l.any fun x => x.2 == i)
  if l = (d.gal pc).chain ∧ lack = [] then d
  else
    let d := d.chainPut pc l
    let used := d.chained
    let got := d.freeExtents used (lack.length + used.length + (d.keys X.GAL_OUT).length) lack.length 0
    d.setGal pc { d.gal pc with chain := l ++ got.zip lack }

/-- Derived fields of a port's classes (R145, R146, R151) and their rings (R139), then its hysteresis and port states on
the new values. A quota below the headroom, which only a direct write can leave, gives thresholds of 0. DESIGN CHOICE (log 87). -/
def Dev.galleyDerive (d : Dev) (p : Nat) : Dev :=
  let h := d.headroom p
  let d := (classesOf p).foldl (fun d pc =>
    let d := d.chainSync pc
    let m := d.fcMode pc
    let q := d.get GAL_PC_CFG.QUOTA_EXT pc * extBytes
    let x := if m = fcGalley then q - h else 0
    (d.puts pc [(GAL_PC_HEADROOM.HEADROOM, if m = fcNone then 0 else h), (GAL_PC_XOFF.XOFF_TH, x),
      (GAL_PC_XON.XON_TH, if m = fcGalley then x - 1024 * d.get GAL_PC_CFG.XON_GAP_KIB pc else 0),
      (GAL_PC_STATUS.OVER_QUOTA, flag (decide (q < d.get GAL_PC_STATUS.OCCUPANCY pc)))]).hyst pc) d
  d.fcForm p

/-- GAL_STATUS.RATE. -/
def Dev.galleyTotals (d : Dev) : Dev := d.put GAL_STATUS.RATE 0 d.galleyRate

/-- Hold level of R135 to R137: the last fresh report lies below CORE_XOFF_KIB. DEDUCED (log 52). -/
def Dev.coreBelow (d : Dev) (pc : Nat) : Bool :=
  let g := d.gal pc
  match g.report with
  | some r => !g.stale && decide (r < 1024 * d.get GAL_PC_CORE.CORE_XOFF_KIB pc)
  | none => false

/-- A drop of a frame of the class, counted under one port counter and GAL_PC_DROP (R158). -/
def Dev.galDrop (d : Dev) (pc : Nat) (F : Fld) (n : Nat := 1) : Dev :=
  if n = 0 then d
  else ((d.add F (pc / 16) n).add GAL_PC_DROP.COUNT pc n).seen (srcPort (pc / 16) 4) (pc % 16)

/-- Room to start storing a frame (R140). -/
def Dev.galRoom (d : Dev) (pc : Nat) : Bool :=
  decide (d.get GAL_PC_STATUS.OCCUPANCY pc + d.get MAC_PORT_CFG.MAX_FRAME (pc / 16) + 16 ≤
    d.get GAL_PC_CFG.QUOTA_EXT pc * extBytes)

/-- Where a frame of a class goes at its head decision (R135, R140): on to the slice, into the galley, or dropped. -/
inductive GalWay where
  | pass | store | drop
  deriving DecidableEq, Repr

def Dev.galWay (d : Dev) (pc : Nat) : GalWay :=
  if d.fcMode pc ≠ fcGalley ∨ 1024 ≤ pc / 16 then .pass
  else if (d.gal pc).q.isEmpty && !d.storing pc && d.coreBelow pc && d.on GAL_STATUS.IN_SERVICE 0 then .pass
  else if d.on GAL_STATUS.IN_SERVICE 0 && d.galRoom pc then .store
  else .drop

/-- A frame that finds no room (R140, R152). DEDUCED (log 52). -/
def Dev.galNoRoom (d : Dev) (pc : Nat) : Dev :=
  let full := d.on GAL_PC_STATUS.OVER_QUOTA pc
  let d := d.galDrop pc GAL_P_QUOTA_DROP.COUNT
  if full || !d.on GAL_STATUS.IN_SERVICE 0 then d
  else (d.seen srcGalley 3).fault 7 0 sevDegraded (pc / 16 + pc % 16 * 2 ^ 12)

/-- The read point leaves the first extent of a class's chain (R139, R152): it goes to the end of the ring, or back to the
pool where it lies beyond the quota. -/
def chainStep (n : Nat) : List (Nat × Nat) → List (Nat × Nat)
  | [] => []
  | x :: l => if x.2 < n then l ++ [x] else l

/-- The read point of a class moves past stored bytes (R139, R152). -/
def Dev.galAdvance (d : Dev) (pc n : Nat) : Dev :=
  let o := d.get X.GAL_RD_OFF pc + n
  let l := (List.range (o / extBytes)).foldl (fun l _ => chainStep (d.classRing pc) l) (d.gal pc).chain
  let d := ((d.setGal pc { d.gal pc with chain := l }).put X.GAL_RD_OFF pc (o % extBytes)).occSub pc n
  if d.chainKept pc = (d.gal pc).chain then d else d.chainPut pc (d.chainKept pc)

/-- Bytes a stored frame occupies (R139). -/
def Stored.size (s : Stored) : Nat := s.bytes.length + 16

/-- The front frame of a class leaves its queue. -/
def Dev.galPop (d : Dev) (pc : Nat) : Dev :=
  match (d.gal pc).q with
  | [] => d
  | s :: r => (d.setGal pc { d.gal pc with q := r }).galAdvance pc s.size

/-- A front frame is too old (R141). -/
def Dev.tooOld (d : Dev) (s : Stored) : Bool :=
  decide (d.get GAL_CTL.AGE_MAX 0 * 1000 < (d.arrivalUs + 2 ^ 21 - s.arrUs) % 2 ^ 21)

/-- Test the front frame of a class, and each that comes to the front, for age (R141). -/
def Dev.galAge (d : Dev) (pc : Nat) : Nat → Dev
  | 0 => d
  | n + 1 => match (d.gal pc).q with
    | s :: _ => if d.tooOld s then ((d.galDrop pc GAL_P_AGE_DROP.COUNT).galPop pc).galAge pc n else d
    | [] => d

def Dev.galAgeAll (d : Dev) (pc : Nat) : Dev := d.galAge pc (d.gal pc).q.length

/-- A stored frame, complete, joins its queue, and is tested where it comes to the front. -/
def Dev.galPush (d : Dev) (pc : Nat) (s : Stored) : Dev :=
  d.setGal pc { d.gal pc with q := (d.gal pc).q ++ [s] }

/-- Discard every stored frame of a class (R154, R155). -/
def Dev.galFlush (d : Dev) (pc : Nat) : Dev :=
  let q := (d.gal pc).q
  let n := (q.map Stored.size).foldl (· + ·) 0
  ((d.galDrop pc GAL_P_FLUSH_DROP.COUNT q.length).setGal pc { d.gal pc with q := [] }).galAdvance pc n

/-- The extent, cell and channel of a byte of a class's stream, counted from its read point (R139). -/
def Dev.byteAt (d : Dev) (pc o : Nat) : Nat × Nat × Nat :=
  let x := d.get X.GAL_RD_OFF pc + o
  let e := (((d.gal pc).chain[x / extBytes]?).map (·.1)).getD 0
  let c := x % extBytes / 256
  (e, c, cellChannel e c)

/-- An extent is marked for retirement (R144). -/
def Dev.extMark (d : Dev) (e : Nat) : Dev := d.put X.GAL_MARK e 1

/-- A corrected error in a cell (R142, R144): counted in all, for the channel and for the extent. -/
def Dev.galCe (d : Dev) (e cell : Nat) : Dev :=
  let n := min (d.get X.GAL_EXT_CE e + 1) 255
  let d := ((d.inc GAL_CE.COUNT 0).inc GAL_CH_STATUS.CE_COUNT (cellChannel e cell)).put X.GAL_EXT_CE e n
  if d.get GAL_CTL.CE_THRESH 0 ≤ n then d.extMark e else d

/-- An uncorrectable error in a cell (R142, R144). -/
def Dev.galUe (d : Dev) (e : Nat) : Dev := ((d.inc GAL_UE.COUNT 0).seen srcGalley 2).extMark e

/-- The fault of an uncorrectable error in stored bytes of a class (R142). -/
def Dev.galUeFault (d : Dev) (ch pc : Nat) : Dev := d.fault 8 0 sevDegraded (ch % 64 + pc / 16 * 2 ^ 6 + pc % 16 * 2 ^ 17)

/-- The record of the `k`th stored frame of a class is unreadable: it and every stored frame after it is lost (R142). -/
def Dev.galLose (d : Dev) (pc k : Nat) : Dev :=
  let q := (d.gal pc).q
  let n := ((q.drop k).map Stored.size).foldl (· + ·) 0
  let d := (d.galDrop pc GAL_P_UE_DROP.COUNT (q.length - k)).setGal pc { d.gal pc with q := q.take k }
  if k = 0 then d.galAdvance pc n else d.occSub pc n

/-- The stored frame that a byte of the class's stream belongs to, and whether it is of the frame's record. -/
def frameAt : List Stored → Nat → Nat → Option (Nat × Bool)
  | [], _, _ => none
  | s :: l, k, o => if o < s.size then some (k, decide (o < 16)) else frameAt l (k + 1) (o - s.size)

/-- What an uncorrectable error at a byte of a class's stream means for its frames (R142): one whose record it is in is
lost with those after it, another is dropped at its release. -/
def Dev.galHurt (d : Dev) (pc o : Nat) : Dev :=
  match frameAt (d.gal pc).q 0 o with
  | none => d
  | some (k, true) => (d.galUeFault (d.byteAt pc o).2.2 pc).galLose pc k
  | some (k, false) => d.setGal pc { d.gal pc with q := (d.gal pc).q.modify k fun s => { s with hurt := true } }

/-- Where an extent stands in the chains: the class and the place, as far as stored bytes reach. -/
def Dev.extentData (d : Dev) (e : Nat) : Option (Nat × Nat) :=
  d.gals.findSome? fun g => match g.2.chain.findIdx? (·.1 == e) with
    | some j => if j < d.extentsUsed g.1 then some (g.1, j) else none
    | none => none

/-- The class to release from (R136): the next, in descending number after the last, whose front frame may go. -/
def Dev.galNext (d : Dev) (p : Nat) : Option Nat :=
  let last := d.get X.GAL_RR p
  ((List.range 16).map fun i => (last + 15 - i) % 16).find? fun c =>
    !(d.gal (p * 16 + c)).q.isEmpty && d.coreBelow (p * 16 + c) && d.on GAL_STATUS.IN_SERVICE 0

/-- The cell the scrub visits next, extent by extent (R143). DESIGN CHOICE (log 88). -/
def Dev.scrubAt (d : Dev) (ext cell : Nat) : Bool := d.get X.GAL_SCRUB_POS 0 == ext * 8192 + cell

/-- The scrub reads and writes back the cell it is at (R142 to R144); an error it cannot correct is in one of the eight
32-byte words, and hurts what the class stores there. -/
def Dev.scrub (d : Dev) (ext cell : Nat) (corrected : Bool) (bad : Option Nat) : Dev :=
  if d.on GAL_SCRUB.EN 0 && d.on GAL_STATUS.IN_SERVICE 0 && d.scrubAt ext cell then
    let d := d.put X.GAL_SCRUB_POS 0 (ext * 8192 + cell + 1)
    let d := if corrected then d.galCe ext cell else d
    match bad with
    | none => d
    | some word =>
      let d := d.galUe ext
      match d.extentData ext with
      | none => d
      | some (pc, j) =>
        let x := j * extBytes + cell * 256 + word % 8 * 32
        let r := d.get X.GAL_RD_OFF pc
        ((List.range 32).filterMap fun i => if r ≤ x + i then some (x + i - r) else none).foldl (fun d o => d.galHurt pc o) d
  else d

/-- A scrub pass ends with its last cell (R143). -/
def Dev.scrubPass (d : Dev) : Dev :=
  if d.on GAL_SCRUB.EN 0 && d.on GAL_STATUS.IN_SERVICE 0 && d.scrubAt 65536 0 then
    (d.put X.GAL_SCRUB_POS 0 0).inc GAL_SCRUB_PASS.COUNT 0
  else d

/-- Put another extent, or none, in the place of one in a chain; in every chain. -/
def swapIn (e : Nat) (n : Option Nat) (x : Nat × Nat) : Option (Nat × Nat) :=
  if x.1 = e then n.map (·, x.2) else some x
def Dev.chainSwap (d : Dev) (e : Nat) (n : Option Nat) : Dev :=
  (d.gals.map (·.1)).foldl (fun d pc => d.setGal pc { d.gal pc with chain := (d.gal pc).chain.filterMap (swapIn e n) }) d

/-- A marked extent in which no class holds data is swapped for a spare, or leaves the pool (R144). DEDUCED (log 70). -/
def Dev.extentSwap (d : Dev) (ext : Nat) : Dev :=
  if d.on X.GAL_MARK ext && (d.extentData ext).isNone then
    let d := ((d.clrs ext [X.GAL_MARK, X.GAL_EXT_CE]).put X.GAL_OUT ext 1).inc GAL_EXT.RETIRED 0
    let n := d.get GAL_EXT.SPARE_LEFT 0
    if 0 < n then
      let d := (d.chainSwap ext (some (firstSpare + 2048 - n))).put GAL_EXT.SPARE_LEFT 0 (n - 1)
      if n = 1 then (d.seen srcGalley 1).fault 9 0 sevNotice 0 else d
    else
      let used := d.chained
      let free := d.freeExtents used (1 + used.length + (d.keys X.GAL_OUT).length) 1 0
      let d := if used.contains ext then d.chainSwap ext free.head? else d
      let u := d.get GAL_EXT.USABLE 0 - 1
      let d := d.put GAL_EXT.USABLE 0 u
      if u < d.committed then d.fault 10 0 sevSerious u else d
  else d

/-- Channels are marked FAILED (R144). -/
def Dev.channelsFail (d : Dev) (l : List Nat) : Dev :=
  (l.foldl (fun d ch => (d.put GAL_CH_STATUS.FAILED ch 1).seen srcGalley 0) d).faults (l.map fun ch => ⟨faultSrc 11 0, sevSerious, ch, false⟩)
def Dev.channelFail (d : Dev) (ch : Nat) : Dev := d.channelsFail [ch]

/-- An occupancy report of the core (R40, R147), in bytes. -/
def Dev.coreReport (d : Dev) (pc bytes : Nat) : Dev :=
  (d.setGal pc { d.gal pc with report := some bytes, stale := false }).hyst pc

/-- A report has become stale (R40, R137). -/
def Dev.coreStale (d : Dev) (pc : Nat) : Dev :=
  if (d.gal pc).stale then d
  else ((d.setGal pc { d.gal pc with stale := true }).hyst pc).fault 32 (pc / 16 / 64) sevNotice (pc / 16 + pc % 16 * 2 ^ 12)

/-- Clear every receive timer of a port (R150). -/
def Dev.fcTimersClear (d : Dev) (p : Nat) : Dev :=
  let d := (List.range 9).foldl (fun d k => d.put X.FC_TIMER (p * 9 + k) 0) d
  (d.puts p [(GAL_FC_STATUS.RX_PAUSED, 0), (GAL_FC_STATUS.PORT_PAUSED, 0)]).setMac p { d.mac p with pauses := [] }

/-- A change of PFC_EN or PAUSE_EN clears every receive timer of a port (R150). -/
def Dev.pauseModes (d old : Dev) (p : Nat) : Dev :=
  if p < 1024 ∧ (d.get MAC_PORT_CFG.PFC_EN p ≠ old.get MAC_PORT_CFG.PFC_EN p ∨
      d.get MAC_PORT_CFG.PAUSE_EN p ≠ old.get MAC_PORT_CFG.PAUSE_EN p) then d.fcTimersClear p else d

/-- Load or clear one receive timer, the port timer at 8 (R149). -/
def Dev.fcTimer (d : Dev) (p k v : Nat) : Dev :=
  let d := d.put X.FC_TIMER (p * 9 + k) v
  if k = 8 then d.put GAL_FC_STATUS.PORT_PAUSED p (flag (v != 0))
  else d.put GAL_FC_STATUS.RX_PAUSED p (putBitAt (d.get GAL_FC_STATUS.RX_PAUSED p) k (v != 0))

/-- An acted-on control frame takes effect (R149, R150). -/
def Dev.pauseLoad (d : Dev) (p : Nat) : Dev :=
  match (d.mac p).pauses with
  | [] => d
  | f :: r =>
    let d := d.setMac p { d.mac p with pauses := r }
    if f.pfc then
      (bitList (f.enable &&& (0xFF ^^^ d.get GAL_FC_MAP.RX_IGNORE p)) 8).foldl (fun d k =>
        (d.fcTimer p k (f.times[k]?.getD 0)).inc (GAL_FC_RX_PFC.COUNT k) p) d
    else d.fcTimer p 8 (f.times[0]?.getD 0)

/-- A receive timer counts down to 0. -/
def Dev.pauseExpiry (d : Dev) (p k : Nat) : Dev := d.fcTimer p (min k 8) 0

/-- Something of the port is XOFF, as reported (R148). -/
def Dev.anyXoff (d : Dev) (p : Nat) : Bool :=
  if d.on MAC_PORT_CFG.PAUSE_EN p then d.on GAL_FC_STATUS.PORT_XOFF p else d.get X.GAL_REP p != 0

/-- The refresh interval elapses (R148); it is stopped while TX_UP is 0. -/
def Dev.fcRefresh (d : Dev) (p : Nat) : Dev :=
  if d.on X.FC_REFRESH p && d.on MAC_PORT_STATUS.TX_UP p && d.anyXoff p then d.fcRequest p else d

/-- The words of the control frame with the port's latest state (R123, R148): opcode and parameter bytes. -/
def Dev.fcBytes (d : Dev) (p : Nat) : List Nat :=
  let q := d.get GAL_FC_CFG.TX_QUANTA p
  let be (n : Nat) : List Nat := [n / 256 % 256, n % 256]
  if d.on MAC_PORT_CFG.PAUSE_EN p then be 1 ++ be (if d.on GAL_FC_STATUS.PORT_XOFF p then q else 0)
  else be 0x0101 ++ be 0xFF ++ (List.range 8).flatMap fun k => be (if bitAt (d.get X.GAL_REP p) k then q else 0)

/-- The receive priority map changed (R153). -/
def Dev.fcRemap (d : Dev) (p : Nat) : Dev := d.fcForm p

/-- Deal a frame to the next enabled slice after the one last used (R23, R25). -/
def Dev.sliceMask (d : Dev) (p : Nat) : Nat :=
  if p < 1024 then d.get MAC_BANK_DEAL.SLICE_EN (p / 64) else d.get MAC_GLOBAL_DEAL.SLICE_EN 0

def nextSlice (mask last : Nat) : Nat :=
  (((List.range 4).map fun i => (last + 1 + i) % 4).find? (bitAt mask)).getD 0

end Sys2Proof.Machine
end

