-- ==== Sys2Proof/Machine/Proof.lean ====
section
/-!
DEFINITION. The proof units (08_proof_units.md): the software engines and their FIFO, trailers on transmit and receive,
and the judgement of alive counters with copy elimination.
-/
namespace Sys2Proof.Machine
open F

/-- The bytes of a list as numbers. -/
def nats (l : List Byte) : List Nat := l.map (·.toNat)

/-- Numbers as bytes. -/
def byteList (l : List Nat) : List Byte := l.map (BitVec.ofNat 8)

/-- The `n` bytes of a number, most significant first. -/
def beBytes (x n : Nat) : List Nat := (leBytes x n).reverse

/-- The number whose bytes, most significant first, are the list. -/
def ofBeBytes (l : List Nat) : Nat := ofLeBytes l.reverse

/-- Parameters of an engine (R222, R223). -/
def Dev.engParams (d : Dev) (e : Nat) : CrcParams :=
  ⟨d.get PRF_ENG_CFG.WIDTH e, d.get PRF_ENG_POLY.POLY e, d.get PRF_ENG_INIT.INIT e, d.on PRF_ENG_CFG.REFIN e,
    d.on PRF_ENG_CFG.REFOUT e, d.get PRF_ENG_XOROUT.XOROUT e⟩

/-- Feed `n` bytes, low byte first, into an engine's state. -/
def Dev.engFeed (d : Dev) (e n data : Nat) : Dev :=
  d.put PRF_ENG_STATE.STATE e ((leBytes data n).foldl (crcByte (d.engParams e)) (d.get PRF_ENG_STATE.STATE e))

/-- Load a preset (Table 71): the parameters of CRC-32 or CRC-32C. -/
def Dev.engPreset (d : Dev) (e : Nat) (c : CrcParams) : Dev :=
  d.puts e [(PRF_ENG_CFG.WIDTH, c.width), (PRF_ENG_CFG.REFIN, flag c.refin), (PRF_ENG_CFG.REFOUT, flag c.refout),
    (PRF_ENG_POLY.POLY, c.poly), (PRF_ENG_INIT.INIT, c.init), (PRF_ENG_XOROUT.XOROUT, c.xorout)]

/-- What one FIFO entry does (Table 71). -/
def Dev.engDo (d : Dev) (e : Nat) : EngOp → Dev
  | .feed n data => d.engFeed e n data
  | .cfg v =>
    let d := d.puts e [(PRF_ENG_CFG.WIDTH, clampTo (bitsOf v 0 7) 1 64), (PRF_ENG_CFG.REFIN, bitsOf v 8 1),
      (PRF_ENG_CFG.REFOUT, bitsOf v 9 1)]
    match bitsOf v 10 2 with
    | 1 => d.engPreset e crc32
    | 2 => d.engPreset e crc32c
    | _ => d
  | .poly v => d.put PRF_ENG_POLY.POLY e v
  | .init v => d.put PRF_ENG_INIT.INIT e v
  | .xorout v => d.put PRF_ENG_XOROUT.XOROUT e v
  | .start => d.put PRF_ENG_STATE.STATE e (crcStart (d.engParams e))
  | .none => d

def Dev.fifo (d : Dev) (e : Nat) : List EngOp := d.fifos.get e []
def Dev.setFifo (d : Dev) (e : Nat) (l : List EngOp) : Dev := { d with fifos := d.fifos.set e l [] }

/-- The engine carries out its next entry (R223). -/
def Dev.engStep (d : Dev) (e : Nat) : Dev :=
  match d.fifo e with
  | [] => d
  | x :: r => (d.setFifo e r).engDo e x

/-- A write enters the FIFO; one that finds it full is stalled until an entry frees (R223). DEDUCED (log 56). -/
def Dev.engPush (d : Dev) (e : Nat) (x : EngOp) : Dev :=
  let d := if 8 ≤ (d.fifo e).length then d.engStep e else d
  d.setFifo e (d.fifo e ++ [x])

/-- Carry out every entry of a FIFO. -/
def Dev.engDrain (d : Dev) (e : Nat) : Nat → Dev
  | 0 => d
  | n + 1 => (d.engStep e).engDrain e n

/-- A read of state or result waits for the FIFO to empty (R224). -/
def Dev.engSettle (d : Dev) (e : Nat) : Dev := d.engDrain e (d.fifo e).length

/-- State and result as read: bits above W read 0 (R224). -/
def Dev.engState (d : Dev) (e : Nat) : Nat := d.get PRF_ENG_STATE.STATE e % 2 ^ d.get PRF_ENG_CFG.WIDTH e
def Dev.engResult (d : Dev) (e : Nat) : Nat := crcResult (d.engParams e) (d.engState e)

/-- ACW and CW of a code (R226), AB, CB and TL. -/
def acwBits (c : Nat) : Nat := if c = 0 then 4 else if c = 1 then 8 else 16
def cwBits (c : Nat) : Nat := if c = 0 then 8 else if c = 1 then 16 else 32
def abBytes (c : Nat) : Nat := if c = 2 then 2 else 1
def Dev.trailerLen (d : Dev) (k : Nat) : Nat :=
  abBytes (d.get PRF_PROF_CFG.ACW k) + cwBits (d.get PRF_PROF_CFG.CW k) / 8

/-- The check value of R228: identifier, span and counter bytes. -/
def trailerCheck (cb poly init xorout : Nat) (refin refout : Bool) (did span alive : List Nat) : Nat :=
  crcOf ⟨8 * cb, poly, init, refin, refout, xorout⟩ (did ++ span ++ alive)

/-- The identifier bytes of a profile (R228). -/
def Dev.didBytes (d : Dev) (k : Nat) : List Nat := beBytes (d.get PRF_PROF_XOR.DID k) (min (d.get PRF_PROF_CFG.DID_BYTES k) 4)

/-- The trailer of a profile for a frame that starts on port `p` (R229): a GEN counter is taken and advances. -/
def Dev.trailerTake (d : Dev) (p k : Nat) : TxTrailer × Dev :=
  let acw := acwBits (d.get PRF_PROF_CFG.ACW k)
  let data := d.on PRF_PROF_CFG.ALIVE_SRC k
  let i := p * 64 + k
  let v := d.get PRF_TX_ALIVE.ALIVE i % 2 ^ acw
  let t : TxTrailer := ⟨abBytes (d.get PRF_PROF_CFG.ACW k), cwBits (d.get PRF_PROF_CFG.CW k) / 8, acw, d.didBytes k,
    d.get PRF_PROF_SPAN.SPAN_OFF k, d.get PRF_PROF_SPAN.SPAN_LEN k, d.get PRF_PROF_CRC.POLY k, d.get PRF_PROF_CRC.INIT k,
    d.get PRF_PROF_XOR.XOROUT k, d.on PRF_PROF_CFG.REFIN k, d.on PRF_PROF_CFG.REFOUT k, data,
    d.get PRF_PROF_SPAN.ALIVE_OFF k, v⟩
  (t, if data then d else d.put PRF_TX_ALIVE.ALIVE i ((v + 1) % 2 ^ acw))

/-- The frame with its trailer inserted at the end of the span (R227 to R230). -/
def insertTrailer (t : TxTrailer) (body : List Nat) : List Nat :=
  let at_ := min (t.off + t.len) body.length
  let alive := if t.data then ofBeBytes ((List.range t.ab).map fun i => body[t.alOff + i]?.getD 0) % 2 ^ t.acw else t.alive
  let ab := beBytes alive t.ab
  let chk := trailerCheck t.cb t.poly t.init t.xorout t.refin t.refout t.did ((body.take at_).drop t.off) ab
  body.take at_ ++ ab ++ beBytes chk t.cb ++ body.drop at_

/-- The trailer of a received frame of a profile (R232): none where the check fails, else the counter and the check
value. -/
def Dev.trailerRead (d : Dev) (k : Nat) (bytes : List Nat) : Option (Nat × Nat) :=
  let off := d.get PRF_PROF_SPAN.SPAN_OFF k
  let e := off + d.get PRF_PROF_SPAN.SPAN_LEN k
  let ab := abBytes (d.get PRF_PROF_CFG.ACW k)
  let cb := cwBits (d.get PRF_PROF_CFG.CW k) / 8
  if bytes.length < e + ab + cb + 4 then none
  else
    let alive := (bytes.drop e).take ab
    let chk := ofBeBytes ((bytes.drop (e + ab)).take cb)
    let want := trailerCheck cb (d.get PRF_PROF_CRC.POLY k) (d.get PRF_PROF_CRC.INIT k) (d.get PRF_PROF_XOR.XOROUT k)
      (d.on PRF_PROF_CFG.REFIN k) (d.on PRF_PROF_CFG.REFOUT k) (d.didBytes k) ((bytes.take e).drop off) alive
    if chk = want then some (ofBeBytes alive % 2 ^ acwBits (d.get PRF_PROF_CFG.ACW k), chk) else none

/-- Outcomes of a judgement (R234). -/
inductive Judged where
  | pass | duplicate | outOfWindow
  deriving DecidableEq, Repr

/-- zeros(x, lo, hi) of R234. -/
def zerosIn (x lo hi1 : Nat) : Nat := ((List.range hi1).filter fun i => decide (lo ≤ i) && !bitAt x i).length

/-- Put a check value at a place of a record's history. -/
def chkSet (l : List Nat) (j v : Nat) : List Nat := (l ++ List.replicate (33 - l.length) 0).set j v

def Dev.chk (d : Dev) (r : Nat) : List Nat := d.chks.get r []
def Dev.setChk (d : Dev) (r : Nat) (l : List Nat) : Dev := { d with chks := d.chks.set r l [] }

/-- restart of R234. -/
def Dev.recRestart (d : Dev) (r a v hist : Nat) : Dev :=
  (d.puts r [(PRF_REC_STATUS.FRESH, 0), (PRF_REC_STATUS.LAST, a), (PRF_REC_STATUS.MAP, 2 ^ hist - 1),
    (PRF_REC_STATUS.OOW_RUN, 0)]).setChk r (chkSet (d.chk r) 0 v)

/-- A copy disagreement (R236). -/
def Dev.disagree (d : Dev) (r a first second port : Nat) : Dev :=
  let d := d.inc PRF_R_DISAGREE.COUNT r
  if d.on PRF_DIS_INFO.VALID 0 then d.seen srcCopies 1
  else (d.puts 0 [(PRF_DIS_INFO.REC, r), (PRF_DIS_INFO.ALIVE, a), (PRF_DIS_INFO.PORT, port), (PRF_DIS_CHK.FIRST, first),
    (PRF_DIS_CHK.SECOND, second)]).seen srcCopies 0

/-- judge of R234, before its PASS is counted. -/
def Dev.judge1 (d : Dev) (k r a v port : Nat) : Judged × Dev :=
  let acw := acwBits (d.get PRF_PROF_CFG.ACW k)
  let hist := d.get PRF_PROF_SEQ.HIST k
  let map := d.get PRF_REC_STATUS.MAP r
  let x := (a + 2 ^ acw - d.get PRF_REC_STATUS.LAST r % 2 ^ acw) % 2 ^ acw
  let ahead := decide (x < 2 ^ (acw - 1))
  let back := 2 ^ acw - x
  if d.on PRF_REC_STATUS.FRESH r then (.pass, d.recRestart r a v hist)
  else if ahead ∧ 1 ≤ x ∧ x ≤ d.get PRF_PROF_SEQ.WINDOW k then
    let lost := (x - 1 - hist) + zerosIn map (hist - x) hist
    let map' := (map <<< x ||| 2 ^ (x - 1)) % 2 ^ hist
    let d := (d.add PRF_R_LOST.COUNT r lost).puts r [(PRF_REC_STATUS.MAP, map'), (PRF_REC_STATUS.LAST, a), (PRF_REC_STATUS.OOW_RUN, 0)]
    (.pass, d.setChk r ((v :: List.replicate (min (x - 1) 33) 0 ++ d.chk r).take 33))
  else if x = 0 ∨ (!ahead ∧ back ≤ hist ∧ bitAt map (back - 1)) then
    let j := if x = 0 then 0 else back
    let old := (d.chk r)[j]?.getD 0
    let d := d.inc PRF_R_DUP.COUNT r
    (.duplicate, if d.on PRF_PROF_CFG.COMPARE k ∧ v ≠ old then d.disagree r a old v port else d)
  else if !ahead ∧ back ≤ hist then
    (.pass, (d.puts r [(PRF_REC_STATUS.MAP, setBitAt map (back - 1)), (PRF_REC_STATUS.OOW_RUN, 0)]).setChk r
      (chkSet (d.chk r) back v))
  else
    let run := min (d.get PRF_REC_STATUS.OOW_RUN r + 1) 15
    let d := (d.put PRF_REC_STATUS.OOW_RUN r run).inc PRF_R_OOW.COUNT r
    let rs := d.get PRF_PROF_CFG.RESYNC k
    if rs ≠ 0 ∧ rs ≤ run then
      (.pass, ((d.inc PRF_R_RESYNC.COUNT r).event (0x4000 + r) 0).recRestart r a v hist)
    else (.outOfWindow, d)

/-- A judgement (R234, R235): each PASS is counted and makes the record recent. -/
def Dev.judge (d : Dev) (k r a v port : Nat) : Judged × Dev :=
  let (o, d) := d.judge1 k r a v port
  let d := d.put X.PRF_BY r k
  if o = .pass then (o, (d.inc PRF_R_PASS.COUNT r).put X.PRF_AGE r 0) else (o, d)

/-- The trailer outcome of Table 73 for a frame of the given stream and verdict. -/
def Dev.trailerOutcome (d : Dev) (stream : Option (Nat × Nat)) (verdict port : Nat) (bytes : List Nat) : Nat × Dev :=
  match stream with
  | none => (0, d)
  | some (k, r) =>
    if verdict > 1 then (0, d)
    else match d.trailerRead k bytes with
      | none => (if d.on PRF_PROF_CFG.ACT_BAD k then 2 else 3, d.inc PRF_R_BADCHK.COUNT r)
      | some (a, v) =>
        if verdict = 1 then (1, d)
        else match d.judge k r a v port with
          | (.pass, d) => (1, d)
          | (.duplicate, d) => (4, d)
          | (.outOfWindow, d) => (5, d)

/-- One visit of the walker to a record (R235). -/
def Dev.recAge (d : Dev) (r : Nat) : Dev :=
  let ms := d.get PRF_PROF_SEQ.RESET_MS (d.get X.PRF_BY r)
  let age := d.get X.PRF_AGE r
  if ms ≠ 0 ∧ ms ≤ age then d.puts r [(PRF_REC_STATUS.FRESH, 1), (X.PRF_AGE, 0)]
  else d.put X.PRF_AGE r (min (age + 1) 4095)

/-- The 1 ms walk over every record that is not FRESH (R235). -/
def Dev.recWalk (d : Dev) : Dev := d.each (d.keys PRF_REC_STATUS.FRESH) Dev.recAge

/-- PRF_REC_RESET of one record (R235, R239). -/
def Dev.recReset (d : Dev) (r : Nat) : Dev := d.puts r [(PRF_REC_STATUS.FRESH, 1), (X.PRF_AGE, 0)]

/-- The span limits of R226 for a profile as it stands, the alive field of a DATA profile included. -/
def Dev.spanOk (d : Dev) (k : Nat) : Bool :=
  let off := d.get PRF_PROF_SPAN.SPAN_OFF k
  let len := d.get PRF_PROF_SPAN.SPAN_LEN k
  let al := d.get PRF_PROF_SPAN.ALIVE_OFF k
  let ab := abBytes (d.get PRF_PROF_CFG.ACW k)
  let acw := acwBits (d.get PRF_PROF_CFG.ACW k)
  let w := d.get PRF_PROF_SEQ.WINDOW k
  decide (off + len + d.trailerLen k + 4 ≤ 16000) &&
    (!d.on PRF_PROF_CFG.ALIVE_SRC k || (decide (off ≤ al) && decide (al + ab ≤ off + len))) &&
    decide (1 ≤ w ∧ w ≤ 2 ^ (acw - 1) - 1) && decide (d.get PRF_PROF_SEQ.HIST k ≤ min 32 (2 ^ (acw - 1)))

/-- The enabled receive streams. -/
def Dev.streams (d : Dev) : List Nat := (d.keys PRF_RX_STREAM.ENABLE).filter fun q => d.on PRF_RX_STREAM.ENABLE q

/-- HIST of the profile a record's streams name, an enabled one's first; 32 where no stream names the record (R231, R241).
DEDUCED (log 99). -/
def Dev.recHist (d : Dev) (r : Nat) : Nat :=
  let named := (d.streams ++ d.keys PRF_RX_STREAM.REC ++ d.keys PRF_RX_STREAM.PROFILE).filter fun q => d.get PRF_RX_STREAM.REC q == r
  ((named.head?.map fun q => d.get PRF_PROF_SEQ.HIST (d.get PRF_RX_STREAM.PROFILE q))).getD 32

/-- A profile is named by an enabled stream (R238). -/
def Dev.profInUse (d : Dev) (k : Nat) : Bool := d.streams.any fun q => d.get PRF_RX_STREAM.PROFILE q == k

/-- Two enabled streams name one record with different profiles (R231). -/
def Dev.recMixed (d : Dev) : Bool :=
  d.streams.any fun q => d.streams.any fun u =>
    d.get PRF_RX_STREAM.REC q == d.get PRF_RX_STREAM.REC u && d.get PRF_RX_STREAM.PROFILE q != d.get PRF_RX_STREAM.PROFILE u

/-- An enabled stream names a disabled profile (R231). -/
def Dev.streamOff (d : Dev) : Bool := d.streams.any fun q => !d.on PRF_PROF_CFG.ENABLE (d.get PRF_RX_STREAM.PROFILE q)

end Sys2Proof.Machine
end

