-- ==== Sys2Proof/Machine/Cox.lean ====
section
/-!
DEFINITION. The cox (06_egress_scheduling.md): egress queues and notices, virtual time, shapers and policers, decisions,
guarantees, partner contexts and telemetry.
-/
namespace Sys2Proof.Machine
open F

/-- A member's key: its class block, and 0 for the common queue or the partner number plus one (R159). -/
def memKey (pc : Nat) : Option Nat → Nat
  | none => pc * 16385
  | some q => pc * 16385 + q + 1
def memPc (k : Nat) : Nat := k / 16385
def memPtn (k : Nat) : Option Nat := if k % 16385 = 0 then none else some (k % 16385 - 1)

def Dev.member (d : Dev) (k : Nat) : Member := d.members.get k Member.reset
def Dev.setMember (d : Dev) (k : Nat) (m : Member) : Dev := { d with members := d.members.set k m Member.reset }
def Dev.cls (d : Dev) (pc : Nat) : CoxClass := d.classes.get pc CoxClass.reset
def Dev.setCls (d : Dev) (pc : Nat) (c : CoxClass) : Dev := { d with classes := d.classes.set pc c CoxClass.reset }

/-- Bucket numbers: port, class and partner shapers, then the committed and peak buckets of a partner (R171, R177). -/
def bkPort (p : Nat) : Nat := p
def bkClass (pc : Nat) : Nat := 2000 + pc
def bkPtn (q : Nat) : Nat := 20000 + q
def bkTc (q : Nat) : Nat := 40000 + q
def bkTp (q : Nat) : Nat := 60000 + q
def Dev.bucket (d : Dev) (b : Nat) : Bucket := d.buckets.get b Bucket.reset
def Dev.setBucket (d : Dev) (b : Nat) (x : Bucket) : Dev := { d with buckets := d.buckets.set b x Bucket.reset }

/-- A partner's queue is bound to the class (R159, R163). -/
def Dev.boundTo (d : Dev) (q pc : Nat) : Bool :=
  d.on PTN_CFG.ENABLE q && d.get PTN_CFG.PORT q * 16 + d.get PTN_CFG.EG_CLASS q == pc

/-- Charged length (R164). -/
def Dev.wireLen (d : Dev) (x : Desc) : Nat :=
  max (x.len + if x.trailerEn then d.trailerLen x.prof else 0) 60 + if x.fcsKeep then 0 else 4
def Dev.charge (d : Dev) (p : Nat) (x : Desc) : Nat := d.wireLen x + 8 + d.get MAC_PORT_CFG.TX_IPG p
def Dev.maxCl (d : Dev) (p : Nat) : Nat := d.get MAC_PORT_CFG.MAX_FRAME p + 8 + d.get MAC_PORT_CFG.TX_IPG p

/-- Comparisons of tags (R168). -/
def tagBefore (a b : Nat) : Bool := decide (2 ^ 47 ≤ (a + 2 ^ 48 - b % 2 ^ 48) % 2 ^ 48)
def tagLater (a b : Nat) : Nat := if tagBefore a b then b else a
def tagCost (cl w : Nat) : Nat := ceilDiv (cl * 256) (max w 1)
def tagAdd (a b : Nat) : Nat := (a + b) % 2 ^ 48

/-- A shaper allows a start (R171, R172). -/
def Bucket.allows (b : Bucket) : Bool := b.rate == 0 || decide (0 ≤ b.tok)

/-- A charge (R172): an unshaped bucket is charged nothing. -/
def Bucket.charged (b : Bucket) (cl maxcl : Nat) : Bucket :=
  if b.rate = 0 then b else { b with tok := max (b.tok - (cl * 65536 : Nat)) (-(maxcl * 65536 : Nat)) }

/-- INC of R171 for a refill interval in ns. -/
def refillInc (rate t : Nat) : Nat := (rate * t * 65536 * 2 + 8000000) / 16000000

/-- A refill of a shaper (R172, R173). -/
def Bucket.refilled (b : Bucket) (rate burst t maxcl : Nat) : Bucket :=
  let tok := if b.rate = 0 ∧ rate ≠ 0 then ((burst * 65536 : Nat) : Int) else b.tok
  let tok := min (tok + (refillInc rate t : Nat)) ((burst * 65536 : Nat) : Int)
  ⟨max tok (-(maxcl * 65536 : Nat)), rate, false⟩

/-- A refill of a policer bucket (R177, R179). -/
def Bucket.policed (b : Bucket) (rate size : Nat) : Bucket :=
  let tok := if b.fill then ((size * 65536 : Nat) : Int) else b.tok
  ⟨min (tok + (refillInc rate 5120 : Nat)) ((size * 65536 : Nat) : Int), rate, false⟩

/-- A committed size clips the bucket at once (R173, R179). -/
def Dev.bucketClip (d : Dev) (b size : Nat) : Dev :=
  d.setBucket b { d.bucket b with tok := min (d.bucket b).tok ((size * 65536 : Nat) : Int) }

/-- The shaper of a member: a bound partner's (R163). -/
def Dev.memAllows (d : Dev) (k : Nat) : Bool :=
  match memPtn k with
  | some q => !d.boundTo q (memPc k) || (d.bucket (bkPtn q)).allows
  | none => true

/-- The weight of a member (R163, R168). -/
def Dev.memWeight (d : Dev) (k : Nat) : Nat :=
  match memPtn k with
  | some q => if d.boundTo q (memPc k) then d.get PTN_CFG.WEIGHT q else 1
  | none => d.get COX_CLASS_CFG.COMMON_WEIGHT (memPc k)

/-- The charge of a member's head. -/
def Dev.headCl (d : Dev) (k : Nat) : Nat :=
  match (d.member k).front with
  | x :: _ => d.charge (memPc k / 16) x
  | [] => 0

/-- The members of a class that hold anything, partners rising and the common queue last. -/
def Dev.membersOf (d : Dev) (pc : Nat) : List Nat :=
  let l := (d.members.map (·.1)).filter fun k => memPc k == pc
  l.filter (fun k => decide (k % 16385 ≠ 0)) ++ l.filter (fun k => decide (k % 16385 = 0))

/-- The candidate of a class: its eligible member with the earliest F, the first of equals (R166). -/
def Dev.candOf (d : Dev) : List Nat → Option Nat
  | [] => none
  | k :: r =>
    if (d.member k).elig then
      match d.candOf r with
      | none => some k
      | some j => if tagBefore (d.member j).f (d.member k).f then some j else some k
    else d.candOf r

def Dev.candidate (d : Dev) (pc : Nat) : Option Nat := d.candOf (d.membersOf pc)

/-- The egress class is held by a received pause timer (R150). -/
def Dev.clsPaused (d : Dev) (pc : Nat) : Bool :=
  bitAt (d.get GAL_FC_STATUS.RX_PAUSED (pc / 16)) (d.get (GAL_FC_TXMAP.TX_CLASS_PRIO (pc % 16)) (pc / 16))

def Dev.fair (d : Dev) (pc : Nat) : Bool := !d.on COX_CLASS_CFG.KIND pc

/-- A member becomes eligible, or ceases to be (R169). -/
def Dev.memRefresh (d : Dev) (k : Nat) : Dev :=
  let m := d.member k
  let e := !m.front.isEmpty && d.memAllows k
  if e && !m.elig then
    let s := tagLater (d.cls (memPc k)).v m.f
    d.setMember k { m with elig := true, s := s, f := tagAdd s (tagCost (d.headCl k) (d.memWeight k)) }
  else if !e && m.elig then d.setMember k { m with elig := false }
  else d

/-- The head frame of a scheduled class's candidate becomes eligible at the first instant at which its conditions hold
(R215). -/
def Dev.noteHead (d : Dev) (pc : Nat) : Dev :=
  match d.candidate pc with
  | none => d
  | some k =>
    let m := d.member k
    let t := d.nowPs
    if m.since.isNone && (d.bucket (bkClass pc)).allows &&
        d.on MAC_PORT_STATUS.TX_UP (pc / 16) && d.beforeCut (pc / 16) (pc % 16) t then
      d.setMember k { m with since := some t }
    else d

/-- A class becomes eligible among the FAIR classes, ceases to be, or changes its candidate (R169, R170). -/
def Dev.clsRefresh (d : Dev) (pc : Nat) : Dev :=
  let c := d.cls pc
  let cand := d.candidate pc
  let e := d.fair pc && cand.isSome && (d.bucket (bkClass pc)).allows && !d.clsPaused pc &&
    bitAt (d.get GATE_PORT_STATUS.GATES (pc / 16)) (pc % 16)
  let cost := tagCost (d.headCl (cand.getD 0)) (d.get COX_CLASS_CFG.WEIGHT pc)
  let c := if e && !c.elig then
      let s := tagLater (d.get COX_PORT_VTIME.V (pc / 16)) c.f
      { c with elig := true, s := s, f := tagAdd s cost, cand := cand }
    else if !e && c.elig then { c with elig := false, cand := cand }
    else if e && c.cand != cand then { c with f := tagAdd c.s cost, cand := cand }
    else { c with cand := cand }
  d.setCls pc c

/-- Everything about a class that follows from its members, shapers, pause and gate; then the same of every class of a
port. -/
def Dev.classTags (d : Dev) (pc : Nat) : Dev := ((d.membersOf pc).foldl Dev.memRefresh d).clsRefresh pc
def Dev.scheduled (d : Dev) (l : List Nat) : List Nat := l.filter (d.on GATE_CLASS_CFG.SCHED)
def Dev.classRefresh (d : Dev) (pc : Nat) : Dev := (d.scheduled [pc]).foldl Dev.noteHead (d.classTags pc)
def Dev.coxRefresh (d : Dev) (p : Nat) : Dev :=
  (d.scheduled (classesOf p)).foldl Dev.noteHead ((classesOf p).foldl Dev.classTags d)

/-- Frames of a port's scheduled classes that are eligible and not requested lose their eligibility (R210), as they do where
TX_UP falls (R216). DESIGN CHOICE (log 68). -/
def Dev.sinceClear (d : Dev) (p : Nat) : Dev :=
  ((classesOf p).flatMap d.membersOf).foldl (fun d k => d.setMember k { d.member k with since := none }) d

/-- A frame leaves the front of a member (R169): where the member stays eligible its F follows from its new head, and so does
that of its class where it was the class's candidate. -/
def Dev.headChanged (d : Dev) (k : Nat) : Dev :=
  let m := d.member k
  let d := if m.front.isEmpty || !d.memAllows k then d.setMember k { m with elig := false }
    else if m.elig then d.setMember k { m with f := tagAdd m.s (tagCost (d.headCl k) (d.memWeight k)) }
    else d
  let pc := memPc k
  let c := d.cls pc
  match d.candidate pc with
  | some j =>
    if c.elig && c.cand == some k then
      d.setCls pc { c with f := tagAdd c.s (tagCost (d.headCl j) (d.get COX_CLASS_CFG.WEIGHT pc)), cand := some j }
    else d
  | none => d

/-- Count a bad notice (R163). -/
def Dev.badNotice (d : Dev) (p c : Nat) : Dev := (d.inc COX_BAD_NOTICE.COUNT 0).fault 13 0 sevNotice (p + c * 2 ^ 12)

/-- A queue that no binding and no earlier notice named: the ageing walker has kept its F at V (R169). -/
def Dev.memFirst (d : Dev) (k : Nat) : Dev :=
  if d.member k = Member.reset then d.setMember k { Member.reset with f := (d.cls (memPc k)).v } else d

/-- The member a notice names, with its count and fault where the partner is not bound there; none where the port is
outside the layout (R163). -/
def Dev.noticeFor (d : Dev) (p c : Nat) (ptn : Option Nat) : Option (Nat × Dev) :=
  if !d.isPort p then none
  else
    let pc := p * 16 + c
    let bad := match ptn with
      | some q => !d.boundTo q pc
      | none => false
    some (memKey pc ptn,
      if bad then (((d.badNotice p c).inc (COX_C_CNT.COUNT 6) pc).put COX_CLASS_STATUS.BAD_NOTICE_SEEN pc 1).memFirst
        (memKey pc ptn)
      else d)

/-- ARRIVE, FRONT and DROP (R161). -/
def Dev.queueArrive (d : Dev) (p c : Nat) (ptn : Option Nat) (len : Nat) : Dev :=
  match d.noticeFor p c ptn with
  | none => d.badNotice p c
  | some (k, d) =>
    let m := d.member k
    (d.setMember k { m with frames := m.frames + 1, bytes := m.bytes + len }).classRefresh (memPc k)

def Dev.queueFront (d : Dev) (p c : Nat) (ptn : Option Nat) (x : Desc) : Dev :=
  match d.noticeFor p c ptn with
  | none => d.badNotice p c
  | some (k, d) =>
    let m := d.member k
    if m.front.length < 16 then (d.setMember k { m with front := m.front ++ [x] }).classRefresh (memPc k) else d

def Dev.queueDrop (d : Dev) (p c : Nat) (ptn : Option Nat) (len : Nat) : Dev :=
  match d.noticeFor p c ptn with
  | none => d.badNotice p c
  | some (k, d) =>
    let m := d.member k
    d.setMember k { m with frames := m.frames - 1, bytes := m.bytes - len }

/-- A request takes the front's first descriptor, and that frame from the depth (R161), and is counted (Table 62). -/
def Dev.takeHead (d : Dev) (k cl : Nat) : Dev :=
  let m := d.member k
  match m.front with
  | [] => d
  | x :: r =>
    let pc := memPc k
    let d := d.setMember k { m with front := r, frames := m.frames - 1, bytes := m.bytes - x.len, since := none }
    let d := (d.inc (COX_C_CNT.COUNT 0) pc).add (COX_C_CNT.COUNT 1) pc cl
    match memPtn k with
    | none => d.inc (COX_C_CNT.COUNT 2) pc
    | some q => if d.boundTo q pc then (d.inc (COX_P_CNT.COUNT 4) q).add (COX_P_CNT.COUNT 5) q cl else d

/-- Wire bytes of a port's requests that have not begun, of its frames not yet wholly in the transmit FIFO, and of
everything not yet at the pin (R165, R211): of the frame in transmission, what 62.5 × w bytes in each TCLK period since
its start have left. -/
def Dev.reqBytes (d : Dev) (p : Nat) : Nat := ((d.mac p).reqs.map (·.cl)).foldl (· + ·) 0
/-- DEDUCED (log 60). -/
def Dev.aheadBytes (d : Dev) (p : Nat) : Nat := d.reqBytes p + match (d.mac p).tx with
  | some t => t.cl - (d.tim.ticks - t.tick) * 125 * (d.portWidth p).getD 1 / 2
  | none => 0

def Dev.undelivered (d : Dev) (p : Nat) : Nat :=
  d.reqBytes p + match (d.mac p).tx with
    | some t => if t.bytes.length < bitsOf t.md 0 16 then t.cl else 0
    | none => 0

/-- A decision may be made for a port (R128, R165). -/
def Dev.mayDecide (d : Dev) (p : Nat) : Bool :=
  d.isPort p && d.on MAC_PORT_STATUS.TX_UP p && !d.on GAL_FC_STATUS.PORT_PAUSED p && (d.bucket (bkPort p)).allows &&
    !(d.port p).coxHold && decide (d.undelivered p < (d.portWidth p).getD 1 * 2048) &&
    (decide (p < 1024) || decide ((((d.mac p).loop.map (fun x => x.bytes.length)).foldl (· + ·) 0) + 2048 ≤ 32768))

/-- A head frame longer than its class allows, the highest class first (R212). -/
def Dev.overLong (d : Dev) (p : Nat) : Option Nat :=
  if 1024 ≤ p then none
  else ((classesOf p).reverse.flatMap d.membersOf).find? fun k =>
    match (d.member k).front with
    | x :: _ => decide (d.get GATE_CLASS_CFG.MAX_LEN (memPc k) < d.wireLen x)
    | [] => false

/-- The conditions of R166 on a class with a candidate: shaper, pause and start test. -/
def Dev.clsTests (d : Dev) (pc k : Nat) : Bool × Bool × Bool :=
  ((d.bucket (bkClass pc)).allows, !d.clsPaused pc,
    decide (1024 ≤ pc / 16) || d.startTest (pc / 16) (pc % 16) (d.aheadBytes (pc / 16)) (d.headCl k))

/-- may_choose of R166, counting what passed the class over (Table 62). -/
def Dev.mayChoose (d : Dev) (pc : Nat) : Bool × Dev :=
  let d := (d.membersOf pc).foldl (fun d k => match memPtn k with
    | some q => if !(d.member k).front.isEmpty && !d.memAllows k then d.inc (COX_P_CNT.COUNT 6) q else d
    | none => d) d
  match d.candidate pc with
  | none => (false, d)
  | some k =>
    let (sh, pa, st) := d.clsTests pc k
    let d := if sh then d else d.inc (COX_C_CNT.COUNT 5) pc
    let d := if pa then d else d.inc (COX_C_CNT.COUNT 4) pc
    let d := if st then d else d.inc (COX_C_CNT.COUNT 3) pc
    (sh && pa && st, d)

/-- The first STRICT class, from 15 down, that may be chosen. -/
def Dev.pickStrict (d : Dev) : List Nat → Option Nat × Dev
  | [] => (none, d)
  | pc :: r =>
    if d.fair pc then d.pickStrict r
    else match d.mayChoose pc with
      | (true, d) => (some pc, d)
      | (false, d) => d.pickStrict r

/-- The FAIR class with the earliest F, the higher of equals; the list runs from class 15 down. -/
def Dev.pickFair (d : Dev) (best : Option Nat) : List Nat → Option Nat × Dev
  | [] => (best, d)
  | pc :: r =>
    if !d.fair pc then d.pickFair best r
    else match d.mayChoose pc with
      | (true, d) => match best with
        | none => d.pickFair (some pc) r
        | some b => d.pickFair (some (if tagBefore (d.cls pc).f (d.cls b).f then pc else b)) r
      | (false, d) => d.pickFair best r

/-- serve of R166: charges, tags (R169) and the request. -/
def Dev.serve (d : Dev) (p pc k : Nat) : Dev :=
  let cl := d.headCl k
  let mx := d.maxCl p
  let since := if d.on GATE_CLASS_CFG.SCHED pc then (d.member k).since else none
  let d := (d.setBucket (bkPort p) ((d.bucket (bkPort p)).charged cl mx)).setBucket (bkClass pc)
    ((d.bucket (bkClass pc)).charged cl mx)
  let d := match memPtn k with
    | some q => if d.boundTo q pc then d.setBucket (bkPtn q) ((d.bucket (bkPtn q)).charged cl mx) else d
    | none => d
  let d := d.takeHead k cl
  let m := d.member k
  let c := d.cls pc
  let d := d.setCls pc { c with v := tagLater c.v m.s }
  let d := if !m.front.isEmpty && d.memAllows k then
      d.setMember k { m with s := m.f, f := tagAdd m.f (tagCost (d.headCl k) (d.memWeight k)) }
    else d.setMember k { m with elig := false }
  let d := if d.fair pc then
      let c := d.cls pc
      let cand := d.candidate pc
      let d := d.put COX_PORT_VTIME.V p (tagLater (d.get COX_PORT_VTIME.V p) c.s)
      if cand.isSome && (d.bucket (bkClass pc)).allows then
        let f := tagAdd c.f (tagCost (d.headCl (cand.getD 0)) (d.get COX_CLASS_CFG.WEIGHT pc))
        d.setCls pc { c with s := c.f, cand := cand, f := f }
      else d.setCls pc { c with elig := false }
    else d
  let d := d.setMac p { d.mac p with reqs := (d.mac p).reqs ++ [⟨pc % 16, cl, since, false⟩] }
  (d.emit (.request p (pc % 16) (memPtn k) false)).coxRefresh p

/-- A due decision for a port (R165 to R167, R212). -/
def Dev.decide1 (d : Dev) (p : Nat) : Dev :=
  if d.mayDecide p then
    let d := d.coxRefresh p
    match d.overLong p with
    | some k =>
      let d := ((d.takeHead k (d.headCl k)).headChanged k).inc GATE_P_OVERLEN.COUNT p
      (d.emit (.request p (memPc k % 16) (memPtn k) true)).coxRefresh p
    | none =>
      let order := (classesOf p).reverse
      match d.pickStrict order with
      | (some pc, d) => d.serve p pc ((d.candidate pc).getD 0)
      | (none, d) => match d.pickFair none order with
        | (some pc, d) => d.serve p pc ((d.candidate pc).getD 0)
        | (none, d) => d
  else d

/-- The refill of every port and class shaper (Table 59). -/
def Dev.refillPort (d : Dev) (p : Nat) : Dev :=
  let mx := d.maxCl p
  let d := d.setBucket (bkPort p)
    ((d.bucket (bkPort p)).refilled (d.get COX_PORT_SHAPER.RATE_KBPS p) (d.get COX_PORT_SHAPER.BURST p) 160 mx)
  ((classesOf p).foldl (fun d pc => d.setBucket (bkClass pc)
    ((d.bucket (bkClass pc)).refilled (d.get COX_CLASS_SHAPER.RATE_KBPS pc) (d.get COX_CLASS_SHAPER.BURST pc) 160 mx)) d).coxRefresh p

def Dev.refillAll (d : Dev) : Dev := d.each d.allPorts Dev.refillPort

/-- The refill of a partner's shaper in its slot. -/
def Dev.refillPtn (d : Dev) (q : Nat) : Dev :=
  (d.setBucket (bkPtn q) ((d.bucket (bkPtn q)).refilled (d.get PTN_SHAPER.RATE_KBPS q) (d.get PTN_SHAPER.BURST q) 5120
    (d.maxCl (d.get PTN_CFG.PORT q)))).coxRefresh (d.get PTN_CFG.PORT q)

/-- The refill of a partner's policer in its slot (R177). -/
def Dev.refillPolicer (d : Dev) (q : Nat) : Dev :=
  (d.setBucket (bkTc q) ((d.bucket (bkTc q)).policed (d.get PTN_POL_RATE.CIR_KBPS q) (d.get PTN_POL_BURST.CBS q))).setBucket
    (bkTp q) ((d.bucket (bkTp q)).policed (d.get PTN_POL_RATE.PIR_KBPS q) (d.get PTN_POL_BURST.PBS q))

/-- The colour of a frame at its head decision (R177, R178): 0 green, 1 yellow, 2 red, 3 not policed. -/
def Dev.colourOf (d : Dev) (q : Nat) (dei : Bool) : Nat :=
  if d.on PTN_CFG.POLICE_EN q then
    let b : Int := ((d.get PTN_GUAR.TEST_B q * 65536 : Nat) : Int)
    if (d.bucket (bkTp q)).tok < b then 2
    else if (d.on PTN_CFG.COLOUR_AWARE q && dei) || decide ((d.bucket (bkTc q)).tok < b) then 1 else 0
  else 3

/-- A debit, never below TEST_B − 16,000 bytes (R177). -/
def Dev.debit (d : Dev) (q b len : Nat) : Dev :=
  let lo : Int := ((d.get PTN_GUAR.TEST_B q : Int) - 16000) * 65536
  d.setBucket b { d.bucket b with tok := max ((d.bucket b).tok - (len * 65536 : Nat)) lo }

/-- A metered frame ends (R177). DEDUCED (log 58). -/
def Dev.policerEnd (d : Dev) (h : Head) (len : Nat) : Dev :=
  match h.partner with
  | none => d
  | some q =>
    if 3 ≤ h.colour then d
    else
      let d := d.add (COX_P_CNT.COUNT 3) q len
      let d := if h.colour = 0 then d.debit q (bkTc q) len else d
      if h.colour ≤ 1 then d.debit q (bkTp q) len else d

/-- A frame is metered at its head decision. -/
def Dev.policerHead (d : Dev) (h : Head) : Dev :=
  match h.partner with
  | none => d
  | some q => if 3 ≤ h.colour then d else d.inc (COX_P_CNT.COUNT h.colour) q

/-- The enabled partners of a port, rising. -/
def Dev.partnersOf (d : Dev) (p : Nat) : List Nat :=
  (d.keys PTN_CFG.ENABLE).filter fun q => d.on PTN_CFG.ENABLE q && d.get PTN_CFG.PORT q == p

/-- The receive match of R175 on the VLAN identifiers of up to two tags. -/
def Dev.matchPartner (d : Dev) (p : Nat) (outer inner : Option Nat) : Option Nat :=
  match outer with
  | none => none
  | some a =>
    let l := (d.partnersOf p).filter fun q => d.get PTN_CFG.VID_OUT q == a
    let exact := match inner with
      | some b => l.find? fun q => !d.on PTN_CFG.INNER_ANY q && d.get PTN_CFG.VID_IN q == b
      | none => none
    match exact with
    | some q => some q
    | none => l.find? fun q => d.on PTN_CFG.INNER_ANY q

/-- The key of the member a context's queue is (R159). -/
def Dev.ptnKey (d : Dev) (q : Nat) : Nat := memKey (d.get PTN_CFG.PORT q * 16 + d.get PTN_CFG.EG_CLASS q) (some q)

/-- The ageing walker on one member and on one class (R169). -/
def Dev.ageMember (d : Dev) (k : Nat) : Dev :=
  let m := d.member k
  let v := (d.cls (memPc k)).v
  if !m.elig && tagBefore m.f v then d.setMember k { m with f := v } else d
def Dev.ageClass (d : Dev) (pc : Nat) : Dev :=
  let c := d.cls pc
  let v := d.get COX_PORT_VTIME.V (pc / 16)
  if !c.elig && tagBefore c.f v then d.setCls pc { c with f := v } else d

/-- The classes of every port, and the queues that belong to them: every common queue, every enabled context's, and every
other that has been used. -/
def Dev.allClasses (d : Dev) : List Nat := d.allPorts.flatMap classesOf
def Dev.allMembers (d : Dev) : List Nat :=
  d.allClasses.map (memKey · none) ++ ((d.keys PTN_CFG.ENABLE).filter (d.on PTN_CFG.ENABLE)).map d.ptnKey ++ d.members.map (·.1)

/-- The ageing walker (R169). -/
def Dev.ageWalk (d : Dev) : Dev := d.allClasses.foldl Dev.ageClass (d.allMembers.foldl Dev.ageMember d)

/-- The cox state a port reset clears (R184): what is eligible stays so, with tags 0. -/
def Dev.coxReset (d : Dev) (p : Nat) : Dev :=
  let d := d.put COX_PORT_VTIME.V p 0
  let d := (d.members.map (·.1)).foldl (fun d k =>
    if memPc k / 16 = p then d.setMember k { d.member k with s := 0, f := 0 } else d) d
  let d := (classesOf p).foldl (fun d pc =>
    (d.setCls pc { d.cls pc with v := 0, s := 0, f := 0 }).setBucket (bkClass pc)
      { d.bucket (bkClass pc) with tok := ((d.get COX_CLASS_SHAPER.BURST pc * 65536 : Nat) : Int) }) d
  let d := d.setBucket (bkPort p) { d.bucket (bkPort p) with tok := ((d.get COX_PORT_SHAPER.BURST p * 65536 : Nat) : Int) }
  d.coxRefresh p

/-- A queue's telemetry record (Table 61). -/
def Dev.sample (d : Dev) (k walk : Nat) : Nat :=
  let pc := memPc k
  let m := d.member k
  let delay := match m.front with
    | x :: _ => (d.nowNs + 2 ^ 32 - x.enqNs % 2 ^ 32) % 2 ^ 32
    | [] => 0
  let shaped := !d.memAllows k || !(d.bucket (bkClass pc)).allows || !(d.bucket (bkPort (pc / 16))).allows
  let t := if d.tsValid then d.now else Stamp.zero
  0x21 + flag (memPtn k).isSome * 2 ^ 8 + flag (bitAt (d.get GATE_PORT_STATUS.GATES (pc / 16)) (pc % 16)) * 2 ^ 9 +
    flag (d.clsPaused pc || d.on GAL_FC_STATUS.PORT_PAUSED (pc / 16)) * 2 ^ 10 + flag shaped * 2 ^ 11 +
    flag d.tsValid * 2 ^ 12 + pc / 16 * 2 ^ 16 + pc % 16 * 2 ^ 28 + (memPtn k).getD 0 * 2 ^ 32 + walk % 2 ^ 16 * 2 ^ 48 +
    t.bits * 2 ^ 64 + delay * 2 ^ 160 + m.bytes % 2 ^ 38 * 2 ^ 192 + min m.frames (2 ^ 26 - 1) * 2 ^ 230

/-- The queues a walk visits, in its order (R182). -/
def Dev.walkList (d : Dev) : List Nat :=
  d.allPorts.flatMap fun p => (classesOf p).reverse.flatMap fun pc =>
    (if d.on COX_CLASS_CFG.TELEM pc then [memKey pc none] else []) ++
    ((d.partnersOf p).filter fun q => d.get PTN_CFG.EG_CLASS q == pc % 16 && d.on PTN_CFG.TELEM q).map fun q => memKey pc (some q)

/-- One sample goes to the telemetry ring, counted (R183). -/
def Dev.sampleTo (d : Dev) (walk : Nat) (k : Nat) : Dev :=
  let d := (d.toRing (ringTelem (d.get X.TELEM_FUNC 0)) (d.sample k walk)).inc COX_TELEM_RECORDS.COUNT 0
  match memPtn k with
  | none => d.inc (COX_C_CNT.COUNT 7) (memPc k)
  | some q => d.inc (COX_P_CNT.COUNT 7) q

/-- A telemetry interval begins (R182): a walk, or a skip while the last walk's records are not all taken.
DEDUCED (log 57). DESIGN CHOICE (log 96). -/
def Dev.telemWalk (d : Dev) : Dev :=
  if !d.on COX_TELEM_CFG.EN 0 then d
  else if d.on COX_TELEM_STATUS.WALKING 0 then (d.inc COX_TELEM_LATE.COUNT 0).seen srcTelem 0
  else
    let w := (d.get COX_TELEM_STATUS.WALK 0 + 1) % 2 ^ 16
    let l := d.walkList
    l.foldl (fun d k => d.sampleTo w k) (d.puts 0 [(COX_TELEM_STATUS.WALK, w), (COX_TELEM_STATUS.WALKING, flag (!l.isEmpty)),
      (X.TELEM_FUNC, d.get COX_TELEM_CFG.FUNC 0)])

/-- The weight share and rate of one class under R180, as fractions. -/
structure Share where
  num : Nat
  den : Nat
  deriving DecidableEq, Repr

/-- rate[c] of R180 for the STRICT classes, from class 15 down, with the rate they use. -/
def Dev.strictRates (d : Dev) (cap : Nat) : List Nat → Nat → List (Nat × Share) × Nat
  | [], used => ([], used)
  | pc :: r, used =>
    let rate := d.get COX_CLASS_SHAPER.RATE_KBPS pc
    let x := if rate = 0 then cap - used else min (cap - used) rate
    let o := d.openFrac (pc / 16) (pc % 16)
    let (l, u) := d.strictRates cap r (used + if rate = 0 then cap else rate)
    ((pc, ⟨x * o.1, o.2⟩) :: l, u)

/-- Rates of a port under R180: what STRICT classes leave, the sum of FAIR guarantees and of FAIR weights. -/
def Dev.portCap (d : Dev) (p : Nat) : Nat := (d.portWidth p).getD 1 * 198000000
def Dev.strictOf (d : Dev) (p : Nat) : List Nat := (classesOf p).reverse.filter fun pc => !d.fair pc
def Dev.fairOf (d : Dev) (p : Nat) : List Nat := (classesOf p).filter d.fair
def Dev.avail (d : Dev) (p : Nat) : Nat := d.portCap p - (d.strictRates (d.portCap p) (d.strictOf p) 0).2
def Dev.fairGuar (d : Dev) (p : Nat) : Nat := ((d.fairOf p).map (d.get COX_CLASS_GUAR.GUAR_KBPS)).foldl (· + ·) 0
def Dev.fairWeight (d : Dev) (p : Nat) : Nat := ((d.fairOf p).map (d.get COX_CLASS_CFG.WEIGHT)).foldl (· + ·) 0

/-- The weight share of a FAIR class (R180). -/
def Dev.fairShare (d : Dev) (pc : Nat) : Share :=
  let o := d.openFrac (pc / 16) (pc % 16)
  ⟨d.avail (pc / 16) * d.get COX_CLASS_CFG.WEIGHT pc * o.1, d.fairWeight (pc / 16) * o.2⟩

/-- rate[c] of R180. -/
def Dev.classRate (d : Dev) (pc : Nat) : Share :=
  if d.fair pc then ⟨d.get COX_CLASS_GUAR.GUAR_KBPS pc, 1⟩
  else (((d.strictRates (d.portCap (pc / 16)) (d.strictOf (pc / 16)) 0).1.find? (fun x => x.1 == pc)).map (·.2)).getD ⟨0, 1⟩

/-- The partner checks of R180 in one class. -/
def Dev.admitPartners (d : Dev) (pc : Nat) : Option Adm :=
  let m := (d.partnersOf (pc / 16)).filter fun q => d.get PTN_CFG.EG_CLASS q == pc % 16
  if m.isEmpty then none
  else
    let r := d.classRate pc
    let msum := d.get COX_CLASS_CFG.COMMON_WEIGHT pc + (m.map (d.get PTN_CFG.WEIGHT)).foldl (· + ·) 0
    let gsum := (m.map (d.get PTN_GUAR.GUAR_KBPS)).foldl (· + ·) 0
    if r.num < gsum * r.den then some ⟨pc / 16, pc % 16, 0x0603, gsum⟩
    else m.findSome? fun q =>
      let g := d.get PTN_GUAR.GUAR_KBPS q
      if r.num * d.get PTN_CFG.WEIGHT q < g * msum * r.den then some ⟨q, pc % 16, 0x0604, g⟩
      else if d.get PTN_SHAPER.RATE_KBPS q ≠ 0 ∧ d.get PTN_SHAPER.RATE_KBPS q < g then some ⟨q, pc % 16, 0x0605, g⟩ else none

/-- A shaper bucket smaller than its increment (R173). DEDUCED (log 64). -/
def burstShort (rate burst t : Nat) : Bool := decide (burst < ceilDiv (refillInc rate t) 65536)

/-- A policer bucket smaller than TEST_B or its increment (R179). -/
def Dev.polShort (d : Dev) (q burst rate : Nat) : Bool :=
  d.on PTN_CFG.ENABLE q && d.on PTN_CFG.POLICE_EN q &&
    (decide (burst < d.get PTN_GUAR.TEST_B q) || decide (burst * 65536 < refillInc rate 5120))

/-- A partner's bucket that is too small (R173, R179). -/
def Dev.ptnShort (d : Dev) (q : Nat) : Option Adm :=
  let no := fun b => some (⟨q, d.get PTN_CFG.EG_CLASS q, 0x0606, b⟩ : Adm)
  if burstShort (d.get PTN_SHAPER.RATE_KBPS q) (d.get PTN_SHAPER.BURST q) 5120 then no (d.get PTN_SHAPER.BURST q)
  else if d.polShort q (d.get PTN_POL_BURST.CBS q) (d.get PTN_POL_RATE.CIR_KBPS q) then no (d.get PTN_POL_BURST.CBS q)
  else if d.polShort q (d.get PTN_POL_BURST.PBS q) (d.get PTN_POL_RATE.PIR_KBPS q) then no (d.get PTN_POL_BURST.PBS q)
  else none

/-- A port or class shaper bucket that is too small (R173). -/
def Dev.shaperShort (d : Dev) (p : Nat) : Option Adm :=
  if burstShort (d.get COX_PORT_SHAPER.RATE_KBPS p) (d.get COX_PORT_SHAPER.BURST p) 160 then
    some ⟨p, 0xFF, 0x0606, d.get COX_PORT_SHAPER.BURST p⟩
  else ((classesOf p).find? fun pc => burstShort (d.get COX_CLASS_SHAPER.RATE_KBPS pc) (d.get COX_CLASS_SHAPER.BURST pc) 160).map
    fun pc => ⟨p, pc % 16, 0x0606, d.get COX_CLASS_SHAPER.BURST pc⟩

/-- The guarantee checks of one FAIR class (R180). -/
def Dev.admitFair (d : Dev) (pc : Nat) : Option Adm :=
  let g := d.get COX_CLASS_GUAR.GUAR_KBPS pc
  let s := d.fairShare pc
  if s.num < g * s.den then some ⟨pc / 16, pc % 16, 0x0602, g⟩
  else if d.get COX_CLASS_SHAPER.RATE_KBPS pc ≠ 0 ∧ d.get COX_CLASS_SHAPER.RATE_KBPS pc < g then some ⟨pc / 16, pc % 16, 0x0605, g⟩
  else none

/-- The guarantee checks of admit_cox for one port (R180). -/
def Dev.admitCoxPort (d : Dev) (p : Nat) : Option Adm :=
  if d.avail p < d.fairGuar p then some ⟨p, 0xFF, 0x0601, d.fairGuar p⟩
  else match (d.fairOf p).findSome? d.admitFair with
    | some e => some e
    | none => (classesOf p).findSome? d.admitPartners

/-- A scheduled class of a port that is FAIR (R167). -/
def Dev.schedFair (d : Dev) (p : Nat) : Option Adm :=
  ((bitList (d.schedMask p) 16).find? fun c => d.fair (p * 16 + c)).map fun c => ⟨p, c, 0x0607, 0⟩

/-- The contexts that may have a bucket that is too small: enabled, or with a shaper value written. -/
def Dev.ptnBuckets (d : Dev) : List Nat :=
  d.keys PTN_CFG.ENABLE ++ d.keys PTN_SHAPER.RATE_KBPS ++ d.keys PTN_SHAPER.BURST

/-- admit_cox of R180: the guarantees of every port, then every bucket, then the scheduled classes (R167). DEDUCED (log 63). -/
def Dev.admitCox (d : Dev) : Option Adm :=
  match d.allPorts.findSome? d.admitCoxPort with
  | some r => some r
  | none => match d.allPorts.findSome? d.shaperShort with
    | some r => some r
    | none => match d.ptnBuckets.findSome? d.ptnShort with
      | some r => some r
      | none => d.lanePorts.findSome? d.schedFair

/-- COX_PORT_GUAR (R180). -/
def Dev.coxDerive (d : Dev) (p : Nat) : Dev :=
  d.puts p [(COX_PORT_GUAR.AVAIL_KBPS, d.avail p), (COX_PORT_GUAR.FREE_KBPS, d.avail p - d.fairGuar p)]

/-- More than 1024 enabled contexts on a port (R174). -/
def Dev.ptnFull (d : Dev) (p : Nat) : Bool := decide (1024 < (d.partnersOf p).length)

/-- Two enabled contexts of one port have equal keys (R174). -/
def Dev.sameKey (d : Dev) (q u : Nat) : Bool :=
  d.get PTN_CFG.VID_OUT q == d.get PTN_CFG.VID_OUT u && d.get PTN_CFG.INNER_ANY q == d.get PTN_CFG.INNER_ANY u &&
    (d.on PTN_CFG.INNER_ANY q || d.get PTN_CFG.VID_IN q == d.get PTN_CFG.VID_IN u)
def Dev.ptnDup (d : Dev) (p : Nat) : Bool :=
  (d.partnersOf p).any fun q => (d.partnersOf p).any fun u => decide (q < u) && d.sameKey q u

/-- The depth in frames of a context's queue (R176). -/
def Dev.ptnDepth (d : Dev) (q : Nat) : Nat :=
  (d.member (memKey (d.get PTN_CFG.PORT q * 16 + d.get PTN_CFG.EG_CLASS q) (some q))).frames

/-- Present a partner's binding to the core (R160). -/
def Dev.presentPtn (d : Dev) (q : Nat) : Dev :=
  d.emit (.binding q (if d.on PTN_CFG.ENABLE q then some (d.get PTN_CFG.PORT q, d.get PTN_CFG.EG_CLASS q) else none))

/-- A context whose port is removed (R176). -/
def Dev.ptnDisable (d : Dev) (q : Nat) : Dev := (d.put PTN_CFG.ENABLE q 0).presentPtn q

/-- A class is scheduled outside TIMED and CONVERGED (R214). -/
def Dev.schedAny (d : Dev) : Option Nat := d.lanePorts.find? fun p => d.schedMask p != 0

end Sys2Proof.Machine
end

