-- ==== Sys2Proof/Machine/Host.lean ====
section
/-!
DEFINITION. The host packet engine (09_host_packet_engine.md): rings and their index lines, doorbells, descriptors and
their ownership marks, transmit and receive service, publication, record rings, ring faults and function resets.
-/
namespace Sys2Proof.Machine
open F

/-- Ring kinds, coded as doorbell KIND (Table 80). -/
def ringKind (r : Nat) : Nat := if r < 4096 then 0 else if r < 8192 then 1 else 2 + (r - 8192) % 4

/-- The queue number of a transmit or receive queue, 0 for a ring of a function. -/
def ringQueue (r : Nat) : Nat := if r < 8192 then r % 4096 else 0

/-- The ring a KIND names, with a queue number or a function. -/
def ringOf (kind queue fn : Nat) : Nat :=
  match kind with
  | 0 => ringTx queue
  | 1 => ringRx queue
  | k => 8192 + 4 * fn + (k - 2)

/-- The function that owns a ring (R243, R244). -/
def Dev.ringOwner (d : Dev) (r : Nat) : Option Nat :=
  if r < 8192 then (if d.on RING_CFG.ASSIGNED r then some (d.get RING_CFG.FUNC r) else none)
  else if r < 8448 then some ((r - 8192) / 4) else none

/-- Work queues; the reply, stamp and telemetry rings are record rings. -/
def workRing (r : Nat) : Bool := decide (ringKind r ≤ 2)

def Dev.ringState (d : Dev) (r : Nat) : Nat := d.get RING_STATE.STATE r
def Dev.ringRuns (d : Dev) (r : Nat) : Bool := d.ringState r == 1

/-- A reset of the ring's function is in progress (R275). -/
def Dev.ringResets (d : Dev) (r : Nat) : Bool := ((d.ringOwner r).map (d.on HPE_FN_STATUS.RESET_BUSY)).getD false

/-- The engine serves the ring: RUNNING, and no reset of its function has stopped its service (Table 89 step 1). -/
def Dev.ringServes (d : Dev) (r : Nat) : Bool := d.ringRuns r && !d.ringResets r
def Dev.ringSize (d : Dev) (r : Nat) : Nat := 2 ^ d.get RING_CFG.LOG2_SIZE r

/-- A difference of indices (R248). -/
def idxSub (a b : Nat) : Nat := (a + 2 ^ 32 - b % 2 ^ 32) % 2 ^ 32

/-- The host address of the slot of an index (R246, R248). -/
def Dev.slotAddr (d : Dev) (r i : Nat) : Nat := d.get RING_BASE.ADDR r * 64 + i % d.ringSize r * 32

/-- The bridge tag of a ring's owner (R243). -/
def Dev.ringBridge (d : Dev) (r : Nat) : Nat := d.get HPE_FN_CFG.BRIDGE_ID ((d.ringOwner r).getD 0)

/-- A read request to host memory for a ring. -/
def Dev.hostAsk (d : Dev) (r addr n : Nat) : Dev := d.emit (.hostRead (d.ringBridge r) (addr % 2 ^ 64) n)

/-- The read of a ring's SW_INDEX, bytes 0 to 3 of its index line (Table 79), and of the descriptor at an index (R252). -/
def Dev.askLine (d : Dev) (r : Nat) : Dev := d.hostAsk r (d.get RING_LINE.ADDR r * 64) 4
def Dev.askSlot (d : Dev) (r i : Nat) : Dev := d.hostAsk r (d.slotAddr r i) 32

/-- A write of `n` bytes of a number to host memory for a ring. -/
def Dev.hostPut (d : Dev) (r addr x n : Nat) (ordered : Bool := false) : Dev :=
  d.emit (.hostWrite (d.ringBridge r) (addr % 2 ^ 64) (byteList (leBytes x n)) ordered)

/-- The 8-byte write of the index line (R247): the last published HW_INDEX with state and fault. DEDUCED (log 59). -/
def Dev.lineWrite (d : Dev) (r : Nat) : Dev :=
  d.hostPut r (d.get RING_LINE.ADDR r * 64 + 8)
    (d.get RING_STATE.HW_INDEX r + (d.ringState r + d.get RING_STATE.FAULT r * 4) * 2 ^ 32) 8 true

/-- The completion event's source (Table 93). -/
def ringSource (r : Nat) : Nat :=
  if r < 4096 then 0x8000 + r else if r < 8192 then 0x9000 + (r - 4096)
  else srcFn ((r - 8192) / 4) ((r - 8192) % 4)

/-- A publication of the index line as it stands (R265): counted, and an event where EVT_EN is 1. -/
def Dev.announce (d : Dev) (r : Nat) : Dev :=
  let d := (d.lineWrite r).inc (RING_CNT.COUNT 7) r
  if d.on RING_CFG.EVT_EN r then d.event (ringSource r) 0 else d

/-- Publish the completions accumulated (R265). -/
def Dev.publish (d : Dev) (r : Nat) : Dev :=
  let x := d.ring r
  ((d.wrap RING_STATE.HW_INDEX r x.unpub).setRing r { x with unpub := 0 }).announce r

/-- PUB_BATCH, whose 0 means 256. -/
def Dev.pubBatch (d : Dev) (r : Nat) : Nat := if d.get RING_CFG.PUB_BATCH r = 0 then 256 else d.get RING_CFG.PUB_BATCH r

/-- One completion (R265). -/
def Dev.completeOne (d : Dev) (r : Nat) : Dev :=
  let d := if workRing r then d.inc (RING_CNT.COUNT 5) r else d
  let d := d.setRing r { d.ring r with unpub := (d.ring r).unpub + 1 }
  if d.pubBatch r ≤ (d.ring r).unpub && !d.ringResets r then d.publish r else d

def Dev.completeN (d : Dev) (r : Nat) : Nat → Dev
  | 0 => d
  | n + 1 => (d.completeOne r).completeN r n

/-- The next index moves on. -/
def Dev.nextUp (d : Dev) (r n : Nat) : Dev := d.wrap RING_PROGRESS.NEXT r n

/-- Ring faults of Table 85. -/
def rfOverrun : Nat := 1
def rfGen : Nat := 2
def rfType : Nat := 3
def rfAddr : Nat := 4

/-- An open transmit frame is given up: its visit ends and it counts in counter 4. -/
def Dev.openDrop (d : Dev) (r : Nat) : Dev :=
  let x := d.ring r
  let d := if x.openD.isEmpty then d else d.inc (RING_CNT.COUNT 4) r
  let d := if d.get X.HPE_CUR 0 = r + 1 then d.put X.HPE_CUR 0 0 else d
  d.setRing r { x with openD := [], openB := [], skip := false }

/-- The data of the reads in flight will not be used. -/
def RingSt.drop (x : RingSt) : RingSt := { x with reads := x.reads.map fun y => { y with live := false } }

/-- A running ring halts (R274). -/
def Dev.ringHalt (d : Dev) (r code : Nat) : Dev :=
  if d.ringRuns r then
    let f := (d.ringOwner r).getD 0
    let d := d.openDrop r
    let d := d.puts r [(RING_STATE.STATE, 2), (RING_STATE.FAULT, code), (RING_STATE.HALT_SEEN, 1)]
    let d := d.setRing r { (d.ring r).drop with ready := [], retries := none, stopped := false, again := false, unpub := 0 }
    let d := (d.announce r).event (srcFn f 4) (ringKind r + ringQueue r * 8)
    d.fault 15 0 (if code = rfAddr then sevDegraded else sevNotice)
      (code + ringKind r * 2 ^ 3 + ringQueue r * 2 ^ 6 + f * 2 ^ 18)
  else d

/-- Start a read of a ring's index line; one more follows a read already outstanding (R250). -/
def Dev.lineAsk (d : Dev) (r : Nat) : Dev :=
  let x := d.ring r
  if x.reading then d.setRing r { x with again := true }
  else (d.setRing r { x with reading := true }).askLine r

/-- A bad doorbell (R251). -/
def Dev.badDoorbell (d : Dev) (f : Nat) : Dev := (d.inc HPE_F_BAD_DOORBELL.COUNT f).seen (srcFn f 6) 0

/-- The ring a doorbell word names for a function, where the doorbell is honoured (R251). -/
def Dev.doorbellRing (d : Dev) (f w : Nat) : Option Nat :=
  let kind := bitsOf w 12 3
  let r := ringOf kind (bitsOf w 0 12) f
  if kind < 6 ∧ d.ringOwner r = some f ∧ d.ringRuns r ∧ !d.on HPE_FN_STATUS.RESET_BUSY f then some r else none

/-- A doorbell write (R250, R251, R269). -/
def Dev.doorbell (d : Dev) (f w : Nat) : Dev :=
  if !d.pdOn 33 then d
  else match d.doorbellRing f w with
    | none => d.badDoorbell f
    | some r =>
      let d := (d.setRing r { d.ring r with stopped := false }).lineAsk r
      if bitAt w 15 then d.emit (.fence f) else d

/-- Free slots of a record ring (R270). -/
def Dev.ringFree (d : Dev) (r : Nat) : Nat :=
  if d.ringServes r then
    d.ringSize r - idxSub (d.get RING_PROGRESS.NEXT r) (d.get RING_PROGRESS.SW_SEEN r) - (d.ring r).reserved
  else 0

/-- Write one record at the next index (R265, R271). -/
def Dev.recWrite (d : Dev) (r rec : Nat) : Dev :=
  let i := d.get RING_PROGRESS.NEXT r
  (((d.hostPut r (d.slotAddr r i) rec 32).nextUp r 1).inc (RING_CNT.COUNT 0) r).completeOne r

/-- The loss record of a run (R271; Table 64, R183). -/
def lossRecord (r first count : Nat) : Nat :=
  if ringKind r = 5 then 0x2F + bitsOf first 48 16 * 2 ^ 48 + min count (2 ^ 32 - 1) * 2 ^ 64
  else stampLoss true (bitsOf first 16 11) (bitsOf first 32 16) (bitsOf first 48 16) count

/-- Drain the spill, oldest first, then the loss record, while slots are free (R271). -/
def Dev.drain (d : Dev) (r : Nat) : Nat → Dev
  | 0 => d
  | n + 1 =>
    if d.ringFree r = 0 then d
    else
      let x := d.ring r
      match x.spill, x.run with
      | s :: rest, _ => ((d.setRing r { x with spill := rest }).recWrite r s).drain r n
      | [], some (first, count) =>
        ((d.setRing r { x with run := none }).recWrite r (lossRecord r first count)).inc (RING_CNT.COUNT 3) r
      | [], none => d
def Dev.drainAll (d : Dev) (r : Nat) : Dev := d.drain r 66

/-- R271: a record arrives at its ring. -/
def Dev.post (d : Dev) (r rec : Nat) : Dev :=
  let d := d.drainAll r
  let x := d.ring r
  if 0 < d.ringFree r ∧ x.spill = [] ∧ x.run = none then d.recWrite r rec
  else if x.spill.length < 64 ∧ x.run = none then
    (d.setRing r { x with spill := x.spill ++ [rec] }).inc (RING_CNT.COUNT 1) r
  else
    let run := match x.run with
      | none => (rec, 1)
      | some (first, count) => (first, count + 1)
    (d.setRing r { x with run := some run }).inc (RING_CNT.COUNT 2) r

/-- RECORD_POST: the next record on its way to a stamp or telemetry ring; the last of a telemetry walk ends it. DEDUCED (log 57). -/
def Dev.recordPost (d : Dev) (r : Nat) : Dev :=
  if ringKind r ≠ 4 ∧ ringKind r ≠ 5 then d
  else match (d.ring r).arrive with
    | [] => d
    | rec :: rest =>
      let d := (d.setRing r { d.ring r with arrive := rest }).post r rec
      if ringKind r = 5 ∧ rest.isEmpty ∧ r = ringTelem (d.get X.TELEM_FUNC 0) then d.put COX_TELEM_STATUS.WALKING 0 0 else d

/-- RECORD_RING_POLL (R270). -/
def Dev.ringPoll (d : Dev) (r : Nat) : Dev :=
  if !workRing r && d.ringServes r && d.ringFree r == 0 && !(d.ring r).reading then d.lineAsk r else d

/-- A completion for a ring that a reset holds or has left STOPPED: its read was abandoned (Table 89). -/
def Dev.lateRead (d : Dev) (r : Nat) : Bool := d.ringState r == 0 || d.ringResets r

/-- A completion of an abandoned read is discarded and counted (Table 89 step 3). -/
def Dev.lateDone (d : Dev) : Dev := d.inc HPE_LATE_COMPLETION.COUNT 0

/-- Fields of a descriptor (Tables 81, 82, 88). -/
def dGen (w : Nat) : Nat := bitsOf w 255 1
def dType (w : Nat) : Nat := bitsOf w 80 3
def dLen (w : Nat) : Nat := bitsOf w 64 16
def dAddr (w : Nat) : Nat := bitsOf w 0 64
def dSof (w : Nat) : Bool := bitAt w 83
def dEof (w : Nat) : Bool := bitAt w 84
def dWb (w : Nat) : Bool := bitAt w 85

/-- The ownership mark of an index (R253). -/
def Dev.wantGen (d : Dev) (r i : Nat) : Nat := i % 2 ^ 32 / d.ringSize r % 2

/-- The index is below the last tail read (R254). -/
def Dev.belowTail (d : Dev) (r i : Nat) : Bool :=
  let k := idxSub (d.get RING_PROGRESS.SW_SEEN r) i
  decide (1 ≤ k ∧ k ≤ d.ringSize r)

/-- The engine fetches an index: below the tail, or up to 16 beyond it while the look-ahead runs (R254). -/
def Dev.fetches (d : Dev) (r i : Nat) : Bool :=
  d.belowTail r i || (!(d.ring r).stopped && decide (idxSub i (d.get RING_PROGRESS.SW_SEEN r) < 16))

/-- The index of the next descriptor to validate. -/
def Dev.fetchIndex (d : Dev) (r : Nat) : Nat := (d.get RING_PROGRESS.NEXT r + (d.ring r).ready.length) % 2 ^ 32

/-- The index after those the reads in flight will bring. -/
def Dev.fetchEnd (d : Dev) (r : Nat) : Nat :=
  (d.fetchIndex r + (((d.ring r).reads.filter (·.live)).map (·.count)).foldl (· + ·) 0) % 2 ^ 32

/-- Start the reads of every descriptor that is to be fetched and is not yet on its way, up to 16 in each (R252, R254). -/
def Dev.fetchMore (d : Dev) (r : Nat) : Nat → Dev
  | 0 => d
  | fuel + 1 =>
    let i := d.fetchEnd r
    let n := ((List.range 16).takeWhile fun k => d.fetches r ((i + k) % 2 ^ 32)).length
    if n = 0 then d
    else ((d.setRing r { d.ring r with reads := (d.ring r).reads ++ [⟨i, n, true⟩] }).each (List.range n)
      fun d k => d.askSlot r ((i + k) % 2 ^ 32)).fetchMore r fuel

/-- The reads a served work queue is due; its size and the look-ahead bound their number. -/
def Dev.fetchAll (d : Dev) (r : Nat) : Dev :=
  if workRing r && d.ringServes r && (d.ring r).retries.isNone then d.fetchMore r (d.ringSize r / 16 + 2) else d

/-- Validate the descriptors of one read in index order (R254). What a stale mark below the tail, or one beyond it, stops is
discarded with every read in flight; beyond the tail each discarded descriptor is counted. -/
def Dev.validate (d : Dev) (r : Nat) : List Nat → Dev
  | [] => d
  | w :: rest =>
    let i := d.fetchIndex r
    let x := d.ring r
    if dGen w = d.wantGen r i then (d.setRing r { x with ready := x.ready ++ [w % 2 ^ 256] }).validate r rest
    else if d.belowTail r i then (d.setRing r { x.drop with retries := some 0 }).askSlot r i
    else
      let n := rest.length + 1 + ((x.reads.filter (·.live)).map (·.count)).foldl (· + ·) 0
      (d.setRing r { x.drop with stopped := true }).add (RING_CNT.COUNT 6) r n

/-- DESCRIPTOR_FETCH_DONE: the oldest read in flight completes, or its first descriptors do. DEDUCED (log 98). -/
def Dev.fetchDone (d : Dev) (r : Nat) (words : List Nat) : Dev :=
  let x := d.ring r
  if 0 < x.lateFetch then (d.setRing r { x with lateFetch := x.lateFetch - 1 }).lateDone
  else if d.lateRead r then d.lateDone
  else match x.reads with
    | [] => d
    | y :: rest =>
      let ws := words.take y.count
      let left := y.count - ws.length
      let reads := if left = 0 then rest else ⟨(y.first + ws.length) % 2 ^ 32, left, y.live⟩ :: rest
      let d := d.setRing r { x with reads := reads }
      if y.live then d.validate r ws else d

/-- DESCRIPTOR_RETRY (R255): the stale descriptor below the tail is re-read; once it is good, what follows it is read again.
DEDUCED (log 98). -/
def Dev.fetchRetry (d : Dev) (r w : Nat) : Dev :=
  let x := d.ring r
  if 0 < x.lateRetry then (d.setRing r { x with lateRetry := x.lateRetry - 1 }).lateDone
  else if d.lateRead r then d.lateDone
  else match x.retries with
    | none => d
    | some k =>
      if dGen w = d.wantGen r (d.fetchIndex r) then
        (d.setRing r { x with retries := none, ready := x.ready ++ [w % 2 ^ 256] }).fetchAll r
      else if k + 1 < 4 then (d.setRing r { x with retries := some (k + 1) }).askSlot r (d.fetchIndex r)
      else d.ringHalt r rfGen

/-- INDEX_LINE_READ_DONE (R249, R250, R270): a work queue's descriptors are then fetched. -/
def Dev.lineDone (d : Dev) (r v : Nat) : Dev :=
  let x := d.ring r
  if 0 < x.lateLine then (d.setRing r { x with lateLine := x.lateLine - 1 }).lateDone
  else if d.lateRead r then d.lateDone
  else if !x.reading then d
  else
    let d := if x.again then (d.setRing r { x with again := false }).askLine r
      else d.setRing r { x with reading := false }
    if !d.ringRuns r then d
    else if workRing r then
      let dd := idxSub v (d.get RING_STATE.HW_INDEX r)
      if dd ≤ d.ringSize r then (d.put RING_PROGRESS.SW_SEEN r v).fetchAll r
      else if 2 ^ 32 - dd ≤ 16 then d.fetchAll r
      else d.ringHalt r rfOverrun
    else if d.ringSize r < idxSub (d.get RING_PROGRESS.NEXT r) v then d.ringHalt r rfOverrun
    else (d.put RING_PROGRESS.SW_SEEN r v).drainAll r

/-- Transmit statuses (Table 81). -/
def txTooLong : Nat := 1
def txTooShort : Nat := 2
def txChain : Nat := 3

/-- The write-back of a transmit descriptor at an index (Table 81). -/
def Dev.txWriteBack (d : Dev) (r i w status : Nat) : Dev :=
  if dWb w then d.hostPut r (d.slotAddr r i) (bitsOf w 0 224 + status * 2 ^ 224 + dGen w * 2 ^ 255) 32 else d

/-- Take the descriptor at the next index. -/
def Dev.txTake (d : Dev) (r : Nat) : Dev :=
  (d.setRing r { d.ring r with ready := (d.ring r).ready.drop 1 }).nextUp r 1

/-- Bytes in the transmit store, the frame being assembled included; it holds 4 MiB. -/
def Dev.txStoreBytes (d : Dev) : Nat :=
  (d.txStore.map (·.bytes.length)).foldl (· + ·) 0 + (d.rings.map (·.2.openB.length)).foldl (· + ·) 0

/-- Bytes in the receive store, which holds 8 MiB. -/
def rxHeld (x : RingSt) : Nat := (x.rx.map (·.bytes.length)).foldl (· + ·) 0
def Dev.rxStoreBytes (d : Dev) : Nat := (d.rings.map (fun p => rxHeld p.2)).foldl (· + ·) 0

/-- Bytes of the buffers of a list of descriptors. -/
def lenSum (l : List Nat) : Nat := (l.map dLen).foldl (· + ·) 0

/-- The descriptors of an open frame that have completed: those before the first that asks for a write-back, whose
status only the frame's end gives (R258, R260, R267). -/
def doneOf (l : List Nat) : Nat := (l.takeWhile (fun w => !dWb w)).length

/-- The open frame ends with a status: write-backs, completions, its place in the store or its drop counter (R258,
R259). -/
def Dev.txFrameEnd (d : Dev) (r status : Nat) : Dev :=
  let x := d.ring r
  let first := idxSub (d.get RING_PROGRESS.NEXT r) x.openD.length
  let d := x.openD.zipIdx.foldl (fun d p => d.txWriteBack r (first + p.2) p.1 status) d
  let d := match status, x.openD with
    | 0, sof :: _ =>
      let t : HostTx := ⟨r, (d.ringOwner r).getD 0, bitAt sof 86, bitsOf sof 88 16, bitsOf sof 128 64, x.openB⟩
      { d with txStore := d.txStore ++ [t] }
    | 1, _ => d.inc (RING_CNT.COUNT 2) r
    | 2, _ => d.inc (RING_CNT.COUNT 3) r
    | _, _ => d.inc (RING_CNT.COUNT 4) r
  (d.setRing r { d.ring r with openD := [], openB := [], skip := false }).completeN r (x.openD.length - doneOf x.openD)

/-- An open frame is broken by what follows it (Table 83). -/
def Dev.txBreak (d : Dev) (r : Nat) : Dev :=
  if (d.ring r).openD.isEmpty then d
  else d.txFrameEnd r (if 15996 < lenSum (d.ring r).openD then txTooLong else txChain)

/-- A DATA descriptor joins the frame it opens or continues: the engine's state after it, with the buffers of the visit
left over, or none where its data or its room in the store is still awaited (R257, R258, R260). -/
def Dev.txData (d : Dev) (r w : Nat) (bufs : List (List Byte)) : Option (Dev × List (List Byte)) :=
  let x := d.ring r
  let l := x.openD ++ [w]
  let skip := x.skip || decide (15996 < lenSum l) || (decide (64 ≤ l.length) && !dEof w)
  let close := fun (d : Dev) =>
    let d := if doneOf l = l.length then d.completeOne r else d
    if dEof w then
      d.txFrameEnd r (if 15996 < lenSum l then txTooLong else if skip then txChain else if lenSum l < 14 then txTooShort else 0)
    else d
  if skip then
    let d := d.txTake r
    some (close (d.setRing r { d.ring r with openD := l, openB := [], skip := true }), bufs)
  else match bufs with
    | [] => none
    | b :: rest =>
      if b.length = dLen w ∧ d.txStoreBytes + b.length ≤ 4194304 then
        let d := (d.hostAsk r (dAddr w) (dLen w)).txTake r
        some (close (d.setRing r { d.ring r with openD := l, openB := x.openB ++ b }), rest)
      else none

/-- One descriptor of a visit: the engine after it and whether the visit goes on (R256 to R258, R268). -/
def Dev.txOne (d : Dev) (r w : Nat) (bufs : List (List Byte)) : Dev × List (List Byte) × Bool :=
  if 3 ≤ dType w then (d.ringHalt r rfType, bufs, false)
  else
    let d := if dType w ≠ 0 ∨ dSof w then d.txBreak r else d
    if dType w = 1 ∧ (d.ring r).unpub ≠ 0 then (d, bufs, false)
    else if dType w ≠ 0 ∨ (!dSof w ∧ (d.ring r).openD.isEmpty) then
      let i := d.get RING_PROGRESS.NEXT r
      let d := if dType w = 1 then d.emit (.fence ((d.ringOwner r).getD 0)) else d
      let d := if dType w = 0 then d.inc (RING_CNT.COUNT 4) r else d
      (((d.txTake r).txWriteBack r i w (if dType w = 0 then txChain else 0)).completeOne r, bufs, true)
    else match d.txData r w bufs with
      | some (d, rest) => (d, rest, true)
      | none => (d, bufs, false)

/-- A visit takes descriptors while its budget lasts, and on to the end of an open frame (R257). -/
def Dev.txVisit (d : Dev) (r budget : Nat) (bufs : List (List Byte)) : Nat → Dev
  | 0 => d
  | fuel + 1 =>
    let x := d.ring r
    let inside := !x.openD.isEmpty
    let pause := fun (d : Dev) => d.put X.HPE_CUR 0 (if (d.ring r).openD.isEmpty then 0 else r + 1)
    match x.ready with
    | [] => pause d
    | w :: _ =>
      if budget = 0 ∧ !inside then pause d
      else match d.txOne r w bufs with
        | (d, bufs, true) => d.txVisit r (budget - 1) bufs fuel
        | (d, _, false) => pause d

/-- A transmit queue with a usable descriptor; a FENCE waits until what precedes it is published (R257, R268). -/
def Dev.txReady (d : Dev) (r : Nat) : Bool :=
  d.ringServes r && match (d.ring r).ready with
    | [] => false
    | w :: _ => !(dType w == 1 && (d.ring r).unpub != 0)

/-- The next queue of the weighted round robin and its pass (R257). -/
def Dev.txPick (d : Dev) : Option (Nat × Nat) :=
  let c := (d.rings.map (·.1)).filter fun r => decide (r < 4096) && d.txReady r
  let j := d.get X.HPE_PASS 0
  let wt := d.get RING_CFG.WEIGHT
  match c.find? (fun r => decide (d.get X.HPE_LAST 0 ≤ r ∧ j ≤ wt r)) with
  | some r => some (r, j)
  | none => match c.find? (fun r => decide (j + 1 ≤ wt r)) with
    | some r => some (r, j + 1)
    | none => c.head?.map fun r => (r, 1)

/-- TX_QUEUE_SERVICE: one visit, or the rest of one that waits inside a frame, with the data read for it in order. -/
def Dev.txService (d : Dev) (bufs : List (List Byte)) : Dev :=
  match d.get X.HPE_CUR 0 with
  | q + 1 => d.txVisit q 0 bufs ((d.ring q).ready.length + 1)
  | 0 => match d.txPick with
    | none => d
    | some (r, j) =>
      (d.puts 0 [(X.HPE_PASS, j), (X.HPE_LAST, r + 1)]).txVisit r (d.get RING_CFG.BURST r) bufs ((d.ring r).ready.length + 1)

/-- HOST_TX_HANDOFF (R259, Table 84). -/
def Dev.txHandoff (d : Dev) : Dev :=
  match d.txStore with
  | [] => d
  | x :: rest =>
    let w := x.func + x.ring * 2 ^ 6 + x.bytes.length * 2 ^ 18 + flag x.stampReq * 2 ^ 32 + x.stampId * 2 ^ 48 + x.directive * 2 ^ 64
    (({ d with txStore := rest }.inc (RING_CNT.COUNT 0) x.ring).add (RING_CNT.COUNT 1) x.ring x.bytes.length).emit (.hostFrame w x.bytes)

/-- HOST_RX_FRAME (R261, R262): while ready is withdrawn no frame arrives. -/
def Dev.rxFrame (d : Dev) (q : Nat) (x : HostRx) : Dev :=
  let r := ringRx (q % 4096)
  if 8388608 < d.rxStoreBytes + 16004 then d
  else match d.ringOwner r with
    | none => d.inc HPE_RX_NOQ_DROP.COUNT 0
    | some f =>
      if d.ringState r = 0 then d.inc HPE_RX_NOQ_DROP.COUNT 0
      else if d.ringState r = 2 ∨ d.on HPE_FN_STATUS.RESET_BUSY f then d.inc (RING_CNT.COUNT 4) r
      else if d.get RING_RX_HOLD.HOLD_KIB r * 1024 < rxHeld (d.ring r) + x.bytes.length then d.inc (RING_CNT.COUNT 3) r
      else d.setRing r { d.ring r with rx := (d.ring r).rx ++ [x] }

/-- The descriptors a frame reserves: enough of the usable ones, none where they do not suffice, or the fault of one
that may not be used (R263). -/
inductive Reserve where
  | enough (l : List Nat)
  | short
  | bad
  deriving DecidableEq, Repr

def reserve (need : Nat) : List Nat → List Nat → Reserve
  | [], _ => .short
  | w :: rest, acc =>
    if dType w ≠ 0 ∨ dLen w < 256 then .bad
    else if need ≤ dLen w then .enough (acc ++ [w])
    else reserve (need - dLen w) rest (acc ++ [w])

/-- Bytes of a frame that are written to host memory (R263). -/
def Dev.rxNeed (d : Dev) (r : Nat) (x : HostRx) : Nat := x.bytes.length - (if d.on RING_CFG.KEEP_FCS r then 0 else 4)

/-- Write one reserved buffer and its write-back (Table 86): what remains of the bytes follows in the next. -/
def Dev.rxWrite (d : Dev) (r total : Nat) (x : HostRx) : List Nat → Nat → List Byte → Dev
  | [], _, _ => d
  | w :: rest, i, bytes =>
    let part := bytes.take (dLen w)
    let left := bytes.drop (dLen w)
    let wb := part.length + flag (bytes.length == total) * 2 ^ 16 + flag rest.isEmpty * 2 ^ 17 + flag x.tsValid * 2 ^ 18 +
      flag x.keep * 2 ^ 19 + x.verdict % 8 * 2 ^ 20 + flag x.lenMis * 2 ^ 23 + x.trailer % 8 * 2 ^ 24 + total * 2 ^ 32 +
      x.port % 2 ^ 11 * 2 ^ 48 + x.ts.bits * 2 ^ 64 + x.tag % 2 ^ 32 * 2 ^ 160 + bitsOf w 192 32 * 2 ^ 192 + dGen w * 2 ^ 255
    let d := d.emit (.hostWrite (d.ringBridge r) (dAddr w) part false)
    (d.hostPut r (d.slotAddr r i) wb 32).rxWrite r total x rest (i + 1) left

/-- HOST_RX_DELIVER (R263). -/
def Dev.rxDeliver (d : Dev) (r : Nat) : Dev :=
  if !d.ringServes r ∨ ringKind r ≠ 1 then d
  else match (d.ring r).rx with
    | [] => d
    | x :: rest =>
      let need := d.rxNeed r x
      match reserve need (d.ring r).ready [] with
      | .short => d
      | .bad => d.ringHalt r rfType
      | .enough l =>
        let i := d.get RING_PROGRESS.NEXT r
        let d := d.rxWrite r need x l i (x.bytes.take need)
        let d := (d.setRing r { d.ring r with rx := rest, ready := (d.ring r).ready.drop l.length }).nextUp r l.length
        (((d.inc (RING_CNT.COUNT 0) r).add (RING_CNT.COUNT 1) r need)).completeN r l.length

/-- STARVE_TIMEOUT (R264): the front frame is still not fully reserved. -/
def Dev.starve (d : Dev) (r : Nat) : Dev :=
  if !d.ringServes r ∨ ringKind r ≠ 1 then d
  else match (d.ring r).rx with
    | [] => d
    | x :: rest =>
      if reserve (d.rxNeed r x) (d.ring r).ready [] = .short then
        (d.setRing r { d.ring r with rx := rest }).inc (RING_CNT.COUNT 2) r
      else d

/-- PUBLISH_TIMER (R265). -/
def Dev.pubTimer (d : Dev) (r : Nat) : Dev := if d.ringServes r && (d.ring r).unpub != 0 then d.publish r else d

/-- HOST_READ_FAULT (R274): the error completion of an abandoned read is only a late completion. -/
def Dev.readFault (d : Dev) (r : Nat) : Dev :=
  let x := d.ring r
  if 0 < x.lateLine then (d.setRing r { x with lateLine := x.lateLine - 1 }).lateDone
  else if 0 < x.lateFetch then (d.setRing r { x with lateFetch := x.lateFetch - 1 }).lateDone
  else if 0 < x.lateRetry then (d.setRing r { x with lateRetry := x.lateRetry - 1 }).lateDone
  else if d.lateRead r then d.lateDone
  else (d.setRing r { x with reading := false, again := false }).ringHalt r rfAddr

/-- HPE_QUEUE_START accepted (Table 78). DEDUCED (log 59). -/
def Dev.ringStart (d : Dev) (r start : Nat) : Dev :=
  let d := d.puts r [(RING_STATE.STATE, 1), (RING_STATE.FAULT, 0), (RING_STATE.HW_INDEX, start), (RING_PROGRESS.NEXT, start),
    (RING_PROGRESS.SW_SEEN, start)]
  (d.announce r).lineAsk r

/-- The rings of a function that are not at rest. -/
def Dev.fnRings (d : Dev) (f : Nat) : List Nat :=
  (List.range 4).map (8192 + 4 * f + ·) ++ (d.keys RING_CFG.ASSIGNED).filter fun r => decide (r < 8192) && d.ringOwner r == some f

/-- The reads a ring has outstanding are abandoned (Table 89 step 3). -/
def RingSt.abandon (x : RingSt) : RingSt :=
  { x with
    reading := false
    again := false
    reads := []
    retries := none
    lateLine := x.lateLine + flag x.reading
    lateFetch := x.lateFetch + x.reads.length
    lateRetry := x.lateRetry + flag x.retries.isSome }

/-- Steps 1 and 2 of Table 89 on one ring: fetching stops; frames and spills are dropped and counted. -/
def Dev.ringEmpty (d : Dev) (r : Nat) : Dev :=
  let d := (d.setRing r (d.ring r).abandon).openDrop r
  let x := d.ring r
  let d := d.add (RING_CNT.COUNT 4) r ((d.txStore.filter fun t => t.ring == r).length + x.rx.length)
  let d := { d with txStore := d.txStore.filter fun t => t.ring != r }
  let run := match x.run, x.spill with
    | some (first, n), l => some (l.head?.getD first, n + l.length)
    | none, [] => none
    | none, first :: l => some (first, l.length + 1)
  let d := if x.spill.isEmpty then d else d.add (RING_CNT.COUNT 2) r x.spill.length
  d.setRing r { x with rx := [], spill := [], run := run }

/-- Commands taken from a function whose replies will be discarded (R276). -/
def Ticket.mark (t : Ticket) (f : Nat) : Ticket := if t.issuer = f then { t with lost := true } else t

def Cmp.markLost (c : Cmp) (f : Nat) : Cmp :=
  { c with waits := c.waits.map fun w => { w with t := w.t.mark f }, barrier := c.barrier.map (·.mark f) }

/-- A function reset starts (Table 89 steps 1 and 2); a request during one is absorbed (R38, R275). DEDUCED (log 59). -/
def Dev.fnReset (d : Dev) (f : Nat) : Dev :=
  if d.on HPE_FN_STATUS.RESET_BUSY f then d
  else
    let d := d.put HPE_FN_STATUS.RESET_BUSY f 1
    let d := (d.fnRings f).foldl Dev.ringEmpty d
    { d with cmp := d.cmp.markLost f }

/-- Step 4 of Table 89 on one ring. -/
def Dev.ringStop (d : Dev) (r : Nat) : Dev :=
  let x := d.ring r
  let d := d.puts r [(RING_STATE.STATE, 0), (RING_STATE.FAULT, 0), (RING_PROGRESS.NEXT, d.get RING_STATE.HW_INDEX r)]
  (d.setRing r { RingSt.reset with
    lateLine := x.lateLine, lateFetch := x.lateFetch, lateRetry := x.lateRetry, spill := x.spill, run := x.run
    arrive := x.arrive }).announce r

/-- FUNCTION_RESET_DONE (Table 89 step 4). -/
def Dev.fnResetDone (d : Dev) (f : Nat) : Dev :=
  if d.on HPE_FN_STATUS.RESET_BUSY f then
    let d := (d.fnRings f).foldl Dev.ringStop d
    ((d.put HPE_FN_STATUS.RESET_BUSY f 0).seen (srcFn f 5) 0).inc HPE_F_RESETS.COUNT f
  else d

end Sys2Proof.Machine
end

