-- ==== Sys2Proof/Machine/Coding.lean ====
section
/-!
DEFINITION. The line coding (02_lane_array.md, R61 to R64, R75; 03_launch_sequence.md, R85 to R96) as functions of data:
64b/66b and 256b/257b coding, the scrambler, RS(544,514), Gray mapping, precoding, commas, training frames, attention
slots and test patterns, and the body segments of R20 to R22. What R61 leaves to IEEE 802.3 is log entry 80.
-/
namespace Sys2Proof.Machine

/-- The bits of a number, bit 0 first, and the number of a list of bits. -/
def toBits (n : Nat) : Nat → List Bool
  | 0 => []
  | w + 1 => (n % 2 == 1) :: toBits (n / 2) w
def ofBits : List Bool → Nat
  | [] => 0
  | b :: l => flag b + 2 * ofBits l

/-- A list cut into pieces of `n`, at most `fuel` of them. -/
def chunks {α : Type} (n : Nat) : Nat → List α → List (List α)
  | 0, _ => []
  | _ + 1, [] => []
  | k + 1, l => l.take n :: chunks n k (l.drop n)

/-- The byte of a data character, the 7-bit code of a control character. PRESUMED (log 80). -/
def octByte : Oct → Nat
  | .data b => b.toNat
  | _ => 0
def octIsData : Oct → Bool
  | .data _ => true
  | _ => false
def octCode : Oct → Nat
  | .idle => 0
  | _ => 0x1E

/-- Control codes from the character at position `i` on, 7 bits each, the last ending at bit 63. -/
def ctrlCodes (l : List Oct) (i : Nat) : Nat :=
  ((l.drop i).zipIdx.foldl (fun n c => n + octCode c.1 * 2 ^ (7 * c.2)) 0) * 2 ^ (64 - 7 * (8 - i))

/-- The block type of a terminate in position `k` (IEEE 802.3). PRESUMED (log 80). -/
def termType (k : Nat) : Nat := ([0x87, 0x99, 0xAA, 0xB4, 0xCC, 0xD2, 0xE1, 0xFF][k]?).getD 0x87

/-- 64b/66b coding of eight characters: whether it is a control block, and its 64 bits (R105). PRESUMED (log 80). -/
def enc66 (g : List Oct) : Bool × Nat :=
  let k := (g.takeWhile octIsData).length
  match g[k]? with
  | none => (false, ofLeBytes (g.map octByte))
  | some .start => (true, 0x78 + 2 ^ 8 * ofLeBytes ((g.drop 1).map octByte))
  | some .remote => (true, 0x4B + 2 * 2 ^ 24)
  | some .term => (true, termType k + 2 ^ 8 * ofLeBytes ((g.take k).map octByte) + ctrlCodes g (k + 1))
  | some _ => (true, 0x1E + ctrlCodes g 0)

/-- 256b/257b transcoding of four blocks: a header bit of 1 before four data blocks; else a 0, the data marks of the four,
and their bits without the second half of the first control block's type. PRESUMED (log 80). -/
def transcode (l : List (Bool × Nat)) : Nat :=
  let pay := l.zipIdx.foldl (fun n b => n + b.1.2 * 2 ^ (64 * b.2)) 0
  match l.findIdx? (·.1) with
  | none => 1 + 2 * pay
  | some c =>
    let marks := l.zipIdx.foldl (fun n b => n + flag (!b.1.1) * 2 ^ (b.2 + 1)) 0
    let cut := 64 * c + 4
    marks + 2 ^ 5 * (pay % 2 ^ cut + pay / 2 ^ (cut + 4) * 2 ^ cut)

/-- The self-synchronous scrambler 1 + x^39 + x^58 over the low `k` bits of a block, bit 0 first, from its last 58 bits
sent; the block scrambled and the bits that follow. PRESUMED (log 80). -/
def scramble (x : Nat) : Nat → Nat → Nat × Nat
  | 0, st => (0, st)
  | k + 1, st =>
    let b := (bitAt x 0 != bitAt st 38) != bitAt st 57
    let (y, st) := scramble (x / 2) k ((st * 2 + flag b) % 2 ^ 58)
    (flag b + 2 * y, st)

/-- Multiplication in GF(2^10) by the low `k` bits of `b`, with x^10 + x^3 + 1. PRESUMED (log 80). -/
def gfMul (a b : Nat) : Nat → Nat
  | 0 => 0
  | k + 1 =>
    let d := a * 2
    (if bitAt b 0 then a else 0) ^^^ gfMul (if bitAt d 10 then (d ^^^ 0x409) % 2 ^ 10 else d) (b / 2) k

/-- The generator polynomial of 30 roots α^0 to α^29, highest power first without its leading 1. PRESUMED (log 80). -/
def rsGen : Nat → List Nat
  | 0 => []
  | k + 1 =>
    let root := (List.range k).foldl (fun x _ => gfMul x 2 10) 1
    let g := 1 :: rsGen k
    (List.range (k + 1)).map fun i => (g[i + 1]?).getD 0 ^^^ gfMul ((g[i]?).getD 0) root 10

/-- The 30 parity symbols of RS(544,514) for message symbols in sending order. PRESUMED (log 80). -/
def rsParity (gen msg : List Nat) : List Nat :=
  msg.foldl (fun r m =>
    let fb := m ^^^ r.headD 0
    gen.zipIdx.map fun g => (r[g.2 + 1]?).getD 0 ^^^ gfMul g.1 fb 10) (List.replicate 30 0)

/-- A codeword of 544 symbols from its 20 blocks of 257 bits (R63). -/
def codewordOf (blocks : List Nat) : List Nat :=
  let msg := (chunks 10 514 (blocks.flatMap fun b => toBits b 257)).map ofBits
  msg ++ rsParity (rsGen 30) msg

/-- The PAM4 level of two bits in Gray code, the more significant first (R61, R75). -/
def gray : Bool → Bool → Nat
  | false, false => 0
  | false, true => 1
  | true, true => 2
  | true, false => 3

/-- The levels of bits sent in order two to a symbol: of a codeword the first sent is the more significant, as IEEE 802.3
maps them; of a test pattern it is the less significant (R75). PRESUMED (log 80). -/
def levels (firstHigh : Bool) : List Bool → List Nat
  | a :: b :: l => (if firstHigh then gray a b else gray b a) :: levels firstHigh l
  | _ => []

/-- 1/(1+D) mod 4 precoding from the level last sent (R45), and inverted polarity (R45). -/
def precode : Nat → List Nat → List Nat
  | _, [] => []
  | prev, g :: l => let x := (g + 4 - prev % 4) % 4; x :: precode x l
def invertLevels (on : Bool) (l : List Nat) : List Nat := if on then l.map (3 - ·) else l

/-- What a receiver makes of levels: the precoding undone from the level before, and the two bits of each (R45, R75). -/
def unprecode : Nat → List Nat → List Nat
  | _, [] => []
  | prev, x :: l => (x + prev) % 4 :: unprecode x l
def unlevels (l : List Nat) : List Bool := l.flatMap fun g => [decide (g = 1 ∨ g = 2), decide (g = 2 ∨ g = 3)]

/-- BIP8 of a list of blocks (R64). -/
def bipBlock (b : Nat) : Nat :=
  (List.range 33).foldl (fun n k => n ^^^ b / 2 ^ (8 * k) % 2 ^ 8) 0
def bip8 (l : List Nat) : Nat := l.foldl (fun n b => n ^^^ bipBlock b) 0

/-- The comma words of Table 26 and the comma block (R64). -/
def commaW0 (idx width seq : Nat) : Nat :=
  seq % 256 * 2 ^ 24 + 0x3B96 * 2 ^ 8 + (7 - idx % 8) * 2 ^ 32 + width % 4 * 2 ^ 35 + idx % 8 * 2 ^ 37 + 0xA74CE1 * 2 ^ 40
def commaW2 (aligned easyNext : Bool) : Nat := flag aligned + 2 * flag easyNext
def commaOf (w0 w2 bip : Nat) : Nat := 2 * (w0 + (2 ^ 64 - 1 - w0) * 2 ^ 64 + w2 * 2 ^ 128 + bip % 256 * 2 ^ 192)

/-- The characters of a frame on the line: start, preamble and delimiter, its bytes, terminate, and the rest of the gap
(R105, R111). -/
def preamble : List Oct := .start :: List.replicate 6 (.data 0x55) ++ [.data 0xD5]
def frameOcts (bytes : List Byte) (gap : Nat) : List Oct :=
  preamble ++ bytes.map .data ++ .term :: List.replicate (gap - 1) .idle

/-- A frame ended with an error block, and idle to the end of that block (R73, R127). -/
def errorOcts (bytes : List Byte) : List Oct :=
  preamble ++ bytes.map .data ++ List.replicate (8 - bytes.length % 8 + 8) .error

/-- Filler deleted from a gap that stands at the front, from its terminate on: whole blocks of eight while more than eight
are left of the gap and filler is owed (R70). -/
def gapLen (l : List Oct) : Nat := (l.drop 1 |>.takeWhile (· == .idle)).length + 1
/-- DEDUCED (log 81). -/
def deleteGap (l : List Oct) (owed : Nat) : List Oct × Nat :=
  let n := min (owed / 8) ((gapLen l - 8) / 8) * 8
  (l.take 1 ++ l.drop (1 + n), owed - n)

/-- The next eight characters: those waiting, with filler deleted from a gap that begins among them, or filler; filler
sent repays what is owed (R70). -/
def nextOcts (fill : Oct) (l : List Oct) (owed : Nat) : List Oct × List Oct × Nat :=
  match l with
  | [] => (fill :: List.replicate 7 .idle, [], owed - 8)
  | _ =>
    let k := (l.take 8).findIdx (· == .term)
    let (l, owed) := if k < 8 then
        let (r, o) := deleteGap (l.drop k) owed
        (l.take k ++ r, o)
      else (l, owed)
    let g := l.take 8
    (g ++ List.replicate (8 - g.length) .idle, l.drop 8, owed)

/-- One block of 257 bits from the characters waiting (R61, R70). -/
def nextBlock (fill : Oct) : Nat → List Oct → Nat → List (Bool × Nat) × List Oct × Nat
  | 0, l, owed => ([], l, owed)
  | n + 1, l, owed =>
    let (g, l, owed) := nextOcts fill l owed
    let (r, l, owed) := nextBlock fill n l owed
    (enc66 g :: r, l, owed)

/-- `n` scrambled blocks of a block stream: the blocks, then the characters left, filler owed and scrambler bits. -/
def nextBlocks (fill : Oct) : Nat → List Oct → Nat → Nat → List Nat × List Oct × Nat × Nat
  | 0, l, owed, scr => ([], l, owed, scr)
  | n + 1, l, owed, scr =>
    let (b, l, owed) := nextBlock fill 4 l owed
    let (x, scr) := scramble (transcode b) 257 scr
    let (r, l, owed, scr) := nextBlocks fill n l owed scr
    (x :: r, l, owed, scr)

/-- Block k of a stream goes to lane k mod w (R63): the blocks of lane `i`. -/
def dealt (w i : Nat) (blocks : List Nat) : List Nat := (blocks.zipIdx.filter fun b => b.2 % w == i).map (·.1)

/-- What the receiver writes into its FIFO of a block: frame bytes with their start and end marks (R69). -/
def rxOcts (l : List RxBlk) : List Oct :=
  (l.flatMap fun b => match b with
    | .comma => []
    | .octs o => o).filter fun o => o != .idle && o != .remote

/-- Frame bytes among characters, which are what the receive FIFO's size counts. -/
def octBytes (l : List Oct) : Nat := (l.filter octIsData).length

/-- Received characters on their way out again (R76): each end of a frame with filler to a gap of 8 to 15 bytes, so that
the next starts on a boundary; `k` counts the bytes since a boundary. -/
def relay : Nat → List Oct → List Oct
  | _, [] => []
  | k, .term :: l => .term :: List.replicate (7 + (8 - k % 8) % 8) .idle ++ relay 0 l
  | k, o :: l => o :: relay (k + 1) l

/-- Taps of the pattern codes of Table 29: bit i is the exclusive or of the bits that many places before it. -/
def patTaps (code : Nat) : List Nat :=
  match code with
  | 1 => [7, 6] | 2 => [9, 5] | 3 => [13, 12, 2, 1] | 4 => [15, 14] | 5 => [23, 18] | 6 => [31, 28]
  | 7 => [13, 12, 2, 1] | 8 => [31, 28] | 9 => [32] | 10 => [64] | _ => []

/-- The bits of a pattern that repeats (Table 29): SQUARE8, eight symbols of level 3 and eight of 0; USER. -/
def square8 : List Bool := (List.replicate 8 [false, true]).flatten ++ List.replicate 16 false
def patFixed (code user : Nat) : Option (List Bool) :=
  match code with
  | 9 => some square8
  | 10 => some (toBits user 64)
  | _ => none

/-- The length of a pattern's memory. -/
def patSpan (code : Nat) : Nat := (patTaps code).foldl max 0

/-- The next bit of a pattern whose last bits are `h`, oldest first, and the bits from there on. -/
def patNext (code : Nat) (h : List Bool) : Bool :=
  (patTaps code).foldl (fun b t => b != (h[h.length - t]?).getD false) false
def patBits (code : Nat) : Nat → List Bool → List Bool
  | 0, _ => []
  | n + 1, h => let b := patNext code h; b :: patBits code n (h.drop 1 ++ [b])

/-- `n` bits of PRBS13 after the 13 bits of a generator, and the generator then (Table 32). -/
def prbs13 (n g : Nat) : List Bool × Nat :=
  let l := patBits 7 n (toBits g 13)
  (l, ofBits ((toBits g 13 ++ l).drop n))

/-- The checker locks (R75): it seeds itself from the first bits and 1024 follow with no error; a pattern that repeats
must be the one configured. -/
def patLocks (code user : Nat) (bits : List Bool) : Bool :=
  let n := patSpan code
  let seed := bits.take n
  decide (bits.length = n + 1024) && bits.drop n == patBits code 1024 seed &&
    match patFixed code user with
    | none => true
    | some f => (List.range n).any fun k => f.drop k ++ f.take k == seed

/-- A pattern checker over one stretch of bits (R75): locked or not, the bits it compares with, which of the last 1024 were
in error, and what it counted on the way. -/
structure Chk where
  locked : Bool
  ref : List Bool
  hits : List Bool
  bits : Nat
  errs : Nat
  lost : Bool

/-- The last `n` of a list. -/
def lastN {α : Type} (n : Nat) (l : List α) : List α := l.drop (l.length - n)

/-- The checker takes one bit (R75). -/
def chkStep (code user : Nat) (c : Chk) (b : Bool) : Chk :=
  if c.locked then
    let x := patNext code c.ref
    let hits := lastN 1024 (c.hits ++ [b != x])
    let n : Chk := { c with
      ref := c.ref.drop 1 ++ [x]
      hits := hits
      bits := c.bits + 1
      errs := c.errs + flag (b != x) }
    if 256 ≤ (hits.filter id).length then { n with
      locked := false
      ref := []
      hits := []
      lost := true } else n
  else
    let l := lastN (patSpan code + 1024) (c.ref ++ [b])
    if patLocks code user l then { c with
      locked := true
      ref := lastN (patSpan code) l
      hits := [] } else { c with ref := l }

/-- Two symbols for each bit of a field: 1 is level 3 then 0, 0 is level 0 then 3 (R88). -/
def fieldSyms (bits : List Bool) : List Nat := bits.flatMap fun b => if b then [3, 0] else [0, 3]

/-- The 4096 symbols of a Celori training frame (Table 32). -/
def frameSyms (word : Nat) (tail : List Bool) : List Nat :=
  List.replicate 24 3 ++ List.replicate 24 0 ++ fieldSyms (toBits word 128) ++ levels false tail

/-- The frame word of Table 33 with its CHECK. -/
def frameWord (ftype fseq preSts postSts : Nat) (ready done : Bool) (sel eye ridx rword : Nat) : Nat :=
  let w := ftype % 256 + fseq % 256 * 2 ^ 8 + preSts % 4 * 2 ^ 32 + postSts % 4 * 2 ^ 34 + flag ready * 2 ^ 36 +
    flag done * 2 ^ 37 + sel % 4 * 2 ^ 38 + eye % 256 * 2 ^ 40 + ridx % 256 * 2 ^ 48 + rword % 2 ^ 32 * 2 ^ 56
  w + crcOf crc32c (leBytes w 12) * 2 ^ 96

/-- The marker next page of Table 31 of a P9; toggle and acknowledge are Clause 73's. -/
def markerPage (recognised : Bool) : Nat :=
  0x5C3 + flag recognised * 2 ^ 12 + 2 ^ 13 + 9 * 2 ^ 24 + 2 ^ 32 + 0xCE * 2 ^ 40

/-- The slots of an attention word, 0xF344, most significant first (Table 24), and those of `n` words (R58). -/
def attnWord : List Bool := (List.range 16).map fun i => bitAt 0xF344 (15 - i)
def attnSlots (n : Nat) : List Bool := (List.replicate n attnWord).flatten

/-- The segments of a frame of a port of `w` positions from `base`, whose first takes position `start` (R20, R21). -/
def segments (base w start slice : Nat) (bytes : List Byte) : List Segment :=
  let n := (bytes.length + 15) / 16
  (chunks 16 n bytes).zipIdx.map fun c =>
    { cycle := (start + c.2) / w, position := base + (start + c.2) % w, slice := slice, sof := c.2 == 0
      eof := c.2 + 1 == n, bytes := if c.2 + 1 = n then bytes.length % 16 else 0, data := c.1 }

end Sys2Proof.Machine
end

