-- ==== Sys2Proof/Machine/Mac.lean ====
section
/-!
DEFINITION. The frame path through the MAC (04_frame_path.md): head decision and handoff, the outcomes of Table 42,
control frames, transmission, the inter-frame gap, recirculation, and the release of stored frames.
-/
namespace Sys2Proof.Machine
open F

/-- Bits of source port × 8 + 3, in the order of MAC_PORT_STATUS bits [7:2]. -/
def macFcs : Nat := 0
def macOversize : Nat := 1
def macLen : Nat := 2
def macFc : Nat := 3
def macLate : Nat := 4
def macAbort : Nat := 5
def Dev.macSeen (d : Dev) (p b : Nat) : Dev := d.seen (srcPort p 3) b

/-- Every lane of the port is ACTIVE, or EASY in one direction (R80). -/
def Dev.portActive (d : Dev) (p : Nat) : Bool := d.get LN_LAUNCH_STATUS.STATE p == 5 || d.get LN_LAUNCH_STATUS.STATE p == 7

/-- The receive coding layer of a lane port delivers to its MAC: it runs (R109), and no far-end loopback takes its blocks
(R76). DESIGN CHOICE (log 79). -/
def Dev.rxFed (d : Dev) (p : Nat) : Bool := (d.port p).codingRx && !d.on PCS_CTL.FAR_LOOP p

/-- RX_UP (R109). -/
def Dev.rxUp (d : Dev) (p : Nat) : Bool :=
  if p < 1024 then d.on MAC_PORT_CFG.RX_EN p && d.portActive p && !d.on LN_EASY.RX_EASY p && d.on PCS_STATUS.ALIGNED p
  else d.on MAC_PORT_CFG.RX_EN p

/-- TX_UP (R110): WAKE_WAIT stands in for REMOTE_RX_OK where it has elapsed (R101). -/
def Dev.txUp (d : Dev) (p : Nat) : Bool :=
  if p < 1024 then
    d.on MAC_PORT_CFG.TX_EN p && d.portActive p && !d.on LN_EASY.TX_EASY p && !(d.port p).txWake &&
      (d.on PCS_STATUS.REMOTE_RX_OK p || (d.port p).wakeWait)
  else d.on MAC_PORT_CFG.TX_EN p

/-- TX_UP falls (R110): every frame delivered or requested and not begun will be discarded; bounds lapse (R216). -/
def Dev.txDown (d : Dev) (p : Nat) : Dev :=
  let d := (d.put MAC_PORT_STATUS.TX_UP p 0).sinceClear p
  d.setMac p { d.mac p with reqs := (d.mac p).reqs.map fun r => { r with doomed := true } }

/-- TX_UP follows its conditions; on a rise flow control asks for a control frame (R148). -/
def Dev.macSync (d : Dev) (p : Nat) : Dev :=
  let up := d.txUp p
  if up = d.on MAC_PORT_STATUS.TX_UP p then d
  else if up then
    let d := d.put MAC_PORT_STATUS.TX_UP p 1
    (if p < 1024 then d.fcRequest p else d).coxRefresh p
  else d.txDown p

/-- TX_LIMIT (R126). -/
def Dev.txLimit (d : Dev) (p : Nat) : Nat :=
  let m := d.get MAC_PORT_CFG.MAX_FRAME p
  if d.on MAC_PARTNER.VALID p then min m (max (d.get MAC_PARTNER.MAX_FRAME p) 1518) else m
def Dev.limitSet (d : Dev) (p : Nat) : Dev := d.put MAC_PORT_STATUS.TX_LIMIT p (d.txLimit p)

/-- Entry to ACTIVE with a partner's roster words W1 and W2, or none for an IEEE partner (R124, R126). -/
def Dev.macPartner (d : Dev) (p : Nat) (w : Option (Nat × Nat)) : Dev :=
  match w with
  | none => (d.clrs p [MAC_PARTNER.MAX_FRAME, MAC_PARTNER.PFC, MAC_PARTNER.PAUSE, MAC_PARTNER.VALID]).limitSet p
  | some (w1, w2) =>
    let d := (d.puts p [(MAC_PARTNER.MAX_FRAME, bitsOf w2 0 16), (MAC_PARTNER.PFC, bitsOf w1 6 1),
      (MAC_PARTNER.PAUSE, bitsOf w1 7 1), (MAC_PARTNER.VALID, 1)]).limitSet p
    if bitsOf w1 6 1 ≠ d.get MAC_PORT_CFG.PFC_EN p ∨ bitsOf w1 7 1 ≠ d.get MAC_PORT_CFG.PAUSE_EN p then
      (d.macSeen p macFc).fault 55 p sevNotice 0
    else d

/-- The 16 bits at an offset of a frame, most significant byte first. -/
def be16 (l : List Nat) (o : Nat) : Nat := l[o]?.getD 0 * 256 + l[o + 1]?.getD 0

def isTpid (v : Nat) : Bool := v == 0x8100 || v == 0x88A8 || v == 0x9100

/-- Tags of a frame (R121): TAGS, LT_FIELD, and the tag control words of the outer and inner tag. -/
structure TagsRead where
  tags : Nat
  lt : Nat
  outer : Option Nat
  inner : Option Nat
  deriving DecidableEq, Repr

def readTags (l : List Nat) : TagsRead :=
  if !isTpid (be16 l 12) then ⟨0, be16 l 12, none, none⟩
  else if !isTpid (be16 l 16) then ⟨1, be16 l 16, some (be16 l 14), none⟩
  else if !isTpid (be16 l 20) then ⟨2, be16 l 20, some (be16 l 14), some (be16 l 18)⟩
  else ⟨3, 0, some (be16 l 14), some (be16 l 18)⟩

/-- The frame check sequence of a frame is right (R108). PRESUMED (log 55). -/
def fcsOk (l : List Nat) : Bool := decide (4 ≤ l.length) && leBytes (crcOf crc32 (l.take (l.length - 4))) 4 == l.drop (l.length - 4)

/-- LEN_MISMATCH of R121. -/
def lenMismatch (check : Bool) (tags lt len : Nat) : Bool :=
  let dat : Int := (len : Int) - (14 + 4 * tags : Nat) - 4
  check && tags != 3 && decide (lt ≤ 0x05DC) &&
    (decide (dat < lt) || (decide ((lt : Int) < dat) && decide ((46 - 4 * tags : Nat) < dat)))

/-- The histogram bin of a length (R133). -/
def histBin (n : Nat) : Nat :=
  if n ≤ 64 then 0 else if n ≤ 127 then 1 else if n ≤ 255 then 2 else if n ≤ 511 then 3 else if n ≤ 1023 then 4
  else if n ≤ 1518 then 5 else if n ≤ 4095 then 6 else 7

/-- The head metadata word of Table 39. -/
def headWord (p seq : Nat) (h : Head) : Nat :=
  p + flag (decide (1024 ≤ p)) * 2 ^ 11 + seq * 2 ^ 16 + (if h.tsValid then h.ts.bits else 0) * 2 ^ 32 +
    flag h.tsValid * 2 ^ 128 + flag h.epoch.isSome * 2 ^ 129 + h.tags * 2 ^ 130 + flag h.partner.isSome * 2 ^ 132 +
    h.colour * 2 ^ 133 + flag h.stream.isSome * 2 ^ 135 + (h.stream.map (·.1)).getD 0 * 2 ^ 136 +
    h.partner.getD 0 * 2 ^ 144 + h.epoch.getD 0 * 2 ^ 160 + h.lt * 2 ^ 176

/-- The tail metadata word of Table 40. -/
def tailWord (p seq len verdict : Nat) (lenMis : Bool) (trailer : Nat) (keep : Bool) : Nat :=
  p + flag (decide (1024 ≤ p)) * 2 ^ 11 + seq * 2 ^ 16 + len * 2 ^ 32 + verdict * 2 ^ 48 + flag lenMis * 2 ^ 51 +
    trailer * 2 ^ 52 + flag keep * 2 ^ 55

/-- Count a frame in the row of its verdict (Tables 41, 42, 47). -/
def Dev.countVerdict (d : Dev) (p verdict len : Nat) : Dev :=
  match verdict with
  | 0 => ((d.inc MAC_RX_OK.COUNT p).add MAC_RX_OK_BYTES.COUNT p len).inc (MAC_RX_HIST.COUNT (histBin len)) p
  | 1 => (d.inc MAC_RX_FCS_ERR.COUNT p).macSeen p macFcs
  | 2 => d.inc MAC_RX_ERR_BLOCK.COUNT p
  | 3 => (d.inc MAC_RX_OVERSIZE.COUNT p).macSeen p macOversize
  | 4 => d.inc MAC_RX_TRUNC.COUNT p
  | _ => d.inc MAC_RX_ABORT.COUNT p

/-- Hand a head to the next slice, consuming a sequence number (R23, R24). -/
def Dev.handHead (d : Dev) (p : Nat) (h : Head) (first : List Byte) : Nat × Nat × Dev :=
  let m := d.mac p
  let s := nextSlice (d.sliceMask p) m.lastSlice
  (s, m.seq, (d.setMac p { m with seq := (m.seq + 1) % 2 ^ 16, lastSlice := s }).emit (.head s (headWord p m.seq h) first))

/-- The MAC forgets its frame in reception, or keeps only that the remainder of it is dropped. -/
def Dev.rxClear (d : Dev) (p : Nat) : Dev := d.setMac p { d.mac p with rx := none }
def Dev.rxStage (d : Dev) (p : Nat) (f : RxFrame) : Dev := d.setMac p { d.mac p with rx := some f }

/-- The end of a stored frame (R140): it is completed, or its bytes are reclaimed. Bytes that arrived while it was stored
are in the occupancy already (R139). -/
def Dev.storeEnd (d : Dev) (p : Nat) (f : RxFrame) (bytes : List Byte) (verdict trailer : Nat) (lenMis keep : Bool) : Dev :=
  let pc := p * 16 + f.cls
  let d := d.rxClear p
  let d := if f.got.length ≤ bytes.length - 64 then d.occAdd pc (bytes.length - 64 - f.got.length)
    else d.occSub pc (f.got.length - (bytes.length - 64))
  if verdict ≠ 0 ∧ !keep then (d.inc GAL_P_BAD_DISCARD.COUNT p).occSub pc (max bytes.length 64 + 16)
  else (d.galPush pc ⟨f.head, bytes, verdict, lenMis, keep, trailer, f.stepTag, f.arrUs, false⟩).galAgeAll pc

/-- The body of a frame on its bank path, or on a recirculation port's own positions (R20 to R22): it starts in any of
the port's positions, which one nothing fixes. DESIGN CHOICE (log 84). -/
def Dev.emitBody (d : Dev) (p slice : Nat) (bytes : List Byte) : Dev :=
  let w := (d.portWidth p).getD 1
  let (k, d) := d.fresh 3
  d.emit (.body (if p < 1024 then some (p / 64) else none) (segments (if p < 1024 then p % 64 else 0) w (k % w) slice bytes))

/-- A frame past its head decision ends with a verdict (R117, R119): its tail, or its place in the galley. One the galley
had no room for is counted in its row as any other (R119, R140). -/
def Dev.rxFinish (d : Dev) (proof : Bool) (p : Nat) (f : RxFrame) (bytes : List Byte) (verdict : Nat) : Dev :=
  match f.stage with
  | .gone => d.rxClear p
  | .control => (d.rxClear p).countVerdict p verdict bytes.length
  | .dropped =>
    let d := (d.rxClear p).countVerdict p verdict bytes.length
    if verdict ≤ 1 ∧ lenMismatch f.lenCheck f.head.tags f.head.lt bytes.length = true then
      (d.inc MAC_RX_LEN_MISMATCH.COUNT p).macSeen p macLen
    else d
  | .waiting => ((d.rxClear p).policerEnd f.head bytes.length).countVerdict p verdict bytes.length
  | .body | .storing =>
    let d := d.policerEnd f.head bytes.length
    let (tr, d) := d.trailerOutcome f.head.stream verdict p (nats bytes)
    let lm := decide (verdict ≤ 1) && lenMismatch f.lenCheck f.head.tags f.head.lt bytes.length
    let keep := proof && verdict == 1
    let d := d.countVerdict p verdict bytes.length
    let d := if lm then (d.inc MAC_RX_LEN_MISMATCH.COUNT p).macSeen p macLen else d
    if f.stage = .storing then d.storeEnd p f bytes verdict tr lm keep
    else ((d.rxClear p).emitBody p f.slice bytes).emit (.tail f.slice (tailWord p f.seq bytes.length verdict lm tr keep))

/-- The bytes of a frame in reception that have arrived, held to its MAX_FRAME, and the verdict of one ended now (R115,
R117). -/
def RxFrame.cut (f : RxFrame) (verdict : Nat) : List Byte × Nat :=
  let b := f.first ++ f.got
  if f.maxFrame < b.length then (b.take f.maxFrame, 3) else (b, verdict)

/-- What ends a frame in reception from outside: truncation (R67), a reset, stop or overflow (R37, R72), an error mark.
A frame whose head waits is discarded whole. -/
def Dev.rxCut (d : Dev) (p verdict : Nat) : Dev :=
  match (d.mac p).rx with
  | none => d
  | some f => d.rxFinish false p f (f.cut verdict).1 (f.cut verdict).2

/-- The coding layer lost alignment. -/
def Dev.rxTruncate (d : Dev) (p : Nat) : Dev := d.rxCut p 4

/-- A reset, LANE_STOP or RX_EN = 0 reached the port. -/
def Dev.rxAbort (d : Dev) (p : Nat) : Dev := d.rxCut p 5

/-- An error block falls within the frame in reception (R62, R68, R112): the frame ends and its remainder is dropped. One
whose decided head still waits for its slice ends when that head is handed off (R114, Table 42). -/
def Dev.rxErrorMark (d : Dev) (p : Nat) : Dev :=
  match (d.mac p).rx with
  | none => d
  | some f =>
    if f.stage = .gone then d
    else if f.stage = .waiting then d.rxStage p { f with fate := some 2 }
    else (d.rxFinish false p f (f.cut 2).1 (f.cut 2).2).rxStage p { f with stage := .gone }

/-- RX_EN = 0 reaches a port whose frames go on arriving (R132): the frame in reception ends ABORTED and its remainder is
dropped. -/
def Dev.rxStop (d : Dev) (p : Nat) : Dev :=
  match (d.mac p).rx with
  | none => d
  | some f => if f.stage = .gone then d else (d.rxAbort p).rxStage p { f with stage := .gone }

/-- Take the front frame out of the loop FIFO of a recirculation port. -/
def Dev.loopPop (d : Dev) (p : Nat) : Dev := d.setMac p { d.mac p with loop := (d.mac p).loop.drop 1 }

/-- A frame is dropped before head handoff; unless it ends here, its remainder is dropped with it. -/
def Dev.rxGone (d : Dev) (p : Nat) (whole : Bool) : Dev :=
  if whole then (if p < 1024 then d.rxClear p else (d.rxClear p).loopPop p)
  else d.rxStage p ⟨.gone, ⟨Stamp.zero, false, none, 0, 0, none, 3, none⟩, [], 0, 0, 0, 0, false, 0, 0,
    false, false, [], none⟩

/-- The frame at the front of the loop FIFO takes the place of the bytes given on a recirculation port; one aborted on its
transmit side does not end with its bytes (R128). DEDUCED (log 61). -/
def Dev.loopHead (d : Dev) (h : HeadRx) : HeadRx :=
  if h.port < 1024 then h
  else match (d.mac h.port).loop with
    | [] => h
    | x :: _ => { h with preOk := true, sfdOk := true, bytes := x.bytes.take 64, whole := decide (x.bytes.length ≤ 64) && !x.aborted, error := false }

/-- The head the MAC forms at its decision (Table 39). -/
def Dev.formHead (d : Dev) (h : HeadRx) : Head :=
  let p := h.port
  let t := readTags (nats h.bytes)
  let vid := fun (x : Nat) => x % 4096
  let ptn := if p < 1024 then d.matchPartner p (t.outer.map vid) (t.inner.map vid) else none
  let colour := match ptn with
    | some q => d.colourOf q (bitAt (t.outer.getD 0) 12)
    | none => 3
  let stream := match ptn with
    | some q => if d.on PRF_RX_STREAM.ENABLE q then some (d.get PRF_RX_STREAM.PROFILE q, d.get PRF_RX_STREAM.REC q) else none
    | none => none
  let epoch := if p < 1024 then none else ((d.mac p).loop[0]?.map (·.epoch)).getD none
  ⟨d.arrival p h.lane h.periods, d.tsValid, epoch, t.tags, t.lt, ptn, colour, stream⟩

/-- The receive class of a frame (R134). -/
def Dev.rxClass (d : Dev) (p : Nat) (bytes : List Nat) : Nat :=
  match (readTags bytes).outer with
  | some t => d.get (GAL_FC_MAP.RX_PRIO_CLASS (t / 2 ^ 13 % 8)) p
  | none => d.get GAL_FC_MAP.DEFAULT_CLASS p

/-- The head decision of a frame with nothing against it (R114, R135, R140). -/
def Dev.headPass (d : Dev) (h : HeadRx) : Dev :=
  let p := h.port
  let hd := d.formHead h
  let c := if p < 1024 then d.rxClass p (nats h.bytes) else 0
  let pc := p * 16 + c
  let f : RxFrame := ⟨.waiting, hd, h.bytes, c, d.stepTag, d.arrivalUs, d.get MAC_PORT_CFG.MAX_FRAME p,
    d.on MAC_PORT_CFG.LEN_CHECK p, 0, 0, false, false, [], none⟩
  match d.galWay pc with
  | .pass =>
    let d := if p < 1024 ∧ d.fcMode pc = fcGalley then d.inc GAL_P_BYPASS.COUNT p else d
    (d.policerHead hd).rxStage p f
  | .store => (((d.policerHead hd).inc GAL_P_STORED.COUNT p).rxStage p { f with stage := .storing }).occAdd pc 80
  | .drop => (d.galNoRoom pc).rxStage p { f with stage := .dropped }

/-- The coding layer marks what the lane port receives as error blocks: an uncorrectable codeword among those being read
(R62), or HI_SER (R68). -/
def Dev.rxMarked (d : Dev) (p : Nat) : Bool :=
  decide (p < 1024) && (decide (0 < (d.port p).badLeft) || d.on PCS_STATUS.HI_SER p)

/-- The head decision of a frame that reaches the MAC (Table 42, in row order). DESIGN CHOICE (log 95). -/
def Dev.headChecks (d : Dev) (proof : Bool) (h : HeadRx) : Dev :=
  let p := h.port
  let l := nats h.bytes
  let recirc := decide (1024 ≤ p)
  let t := readTags l
  if !recirc && (!h.sfdOk || (d.on MAC_PORT_CFG.PRE_CHECK p && !h.preOk)) then (d.inc MAC_RX_PREAMBLE_ERR.COUNT p).rxGone p h.whole
  else if !d.rxUp p then
    (d.inc (if recirc then MAC_RX_ABORT.COUNT else MAC_RX_DOWN_DISCARD.COUNT) p).rxGone p h.whole
  else if h.error || d.rxMarked p then (d.inc MAC_RX_ERR_BLOCK.COUNT p).rxGone p h.whole
  else if !recirc && t.tags == 0 && t.lt == 0x8808 then
    d.rxStage p ⟨.control, ⟨Stamp.zero, false, none, 0, 0x8808, none, 3, none⟩, h.bytes, 0, 0, 0,
      d.get MAC_PORT_CFG.MAX_FRAME p, false, 0, 0, d.on MAC_PORT_CFG.PAUSE_EN p, d.on MAC_PORT_CFG.PFC_EN p, [], none⟩
  else if h.whole && !proof && !fcsOk l then ((d.inc MAC_RX_FCS_ERR.COUNT p).macSeen p macFcs).rxGone p true
  else d.headPass h

/-- The receive FIFO after an overflow (R72): frames that start are dropped whole until it has drained. -/
def Dev.rmDropped (d : Dev) (p : Nat) : Dev := (d.inc PCS_RX_RM_DROP.COUNT p).seen (srcPort p 7) 0

/-- A frame that starts is dropped: after an overflow, while the receive FIFO holds w × 1 KiB or more (R72). -/
def Dev.rmRefuses (d : Dev) (p : Nat) : Bool :=
  (d.port p).rmDrop && decide ((d.portWidth p).getD 1 * 1024 ≤ octBytes (d.port p).rmFifo)
def Dev.rmResume (d : Dev) (p : Nat) : Dev :=
  if (d.port p).rmDrop then d.setPort p { d.port p with rmDrop := false } else d

/-- The MAC reads the start of a frame out of the receive FIFO, with its preamble and first 64 bytes; the rest of a frame
with its end. -/
def fifoHead (l : List Oct) : List Oct := (l.dropWhile (· != .start)).drop 72
def fifoEnd (l : List Oct) : List Oct := (l.dropWhile octIsData).drop 1
def Dev.rmRead (d : Dev) (p : Nat) (g : List Oct → List Oct) : Dev :=
  if (d.port p).rmFifo.isEmpty then d else d.setPort p { d.port p with rmFifo := g (d.port p).rmFifo }

/-- Bytes of the frame in reception flow out of the receive FIFO unless its head waits for a slice (R69); a stored frame's
go to the galley (R139). DEDUCED (log 51). -/
def Dev.rmFlow (d : Dev) (p : Nat) : Dev :=
  match (d.mac p).rx with
  | none => d
  | some f =>
    let l := (d.port p).rmFifo.takeWhile octIsData
    if f.stage = .waiting ∨ l.isEmpty = true then d
    else
      let d := d.setPort p { d.port p with rmFifo := (d.port p).rmFifo.drop l.length }
      if f.stage = .gone then d
      else
        let d := d.rxStage p { f with got := f.got ++ l.filterMap fun o => match o with
          | .data b => some b
          | _ => none }
        if f.stage = .storing then d.occAdd (p * 16 + f.cls) l.length else d

/-- RX_HEAD_DECISION (R112, R114): a start inside a frame ends that frame with an error block; nothing is decided while
a head still waits, nor on a port in reset or whose coding layer delivers nothing, nor on a recirculation port that has a
frame in reception or none in its loop FIFO. -/
def Dev.headDecision (d : Dev) (proof : Bool) (h : HeadRx) : Dev :=
  let p := h.port
  let h := d.loopHead h
  let waits := match (d.mac p).rx with
    | some f => f.stage == .waiting
    | none => false
  if !d.isPort p ∨ h.bytes.length ≠ 64 ∨ waits = true ∨ d.portResetting p = true then d
  else if p < 1024 ∧ !d.rxFed p then d
  else if 1024 ≤ p ∧ ((d.mac p).loop.isEmpty ∨ (d.mac p).rx.isSome) then d
  else
    let d := match (d.mac p).rx with
      | some f => d.rxFinish proof p f (f.cut 2).1 (f.cut 2).2
      | none => d
    let drops := d.rmRefuses p
    let d := d.rmRead p fifoHead
    if drops then (d.rmDropped p).rxGone p h.whole else ((d.rmResume p).headChecks proof h).rmFlow p

/-- The slice a port's next frame goes to is ready, of the ready levels given (R23, R39). -/
def Dev.sliceReady (d : Dev) (p ready : Nat) : Bool := bitAt ready (nextSlice (d.sliceMask p) (d.mac p).lastSlice)

/-- The ready levels of the slices are sampled (R25, R39). DEDUCED (log 73). -/
def Dev.readySample (d : Dev) (p ready : Nat) : Dev :=
  if p < 1024 then d.put MAC_BANK_DEAL.SLICE_READY (p / 64) ready else d.put MAC_GLOBAL_DEAL.SLICE_READY 0 ready

/-- A port has waited 64 DCLK cycles for its slice (R25). -/
def Dev.sliceWait (d : Dev) (p : Nat) : Dev :=
  d.seen (if p < 1024 then srcBank (p / 64) else srcRecircWait) (nextSlice (d.sliceMask p) (d.mac p).lastSlice)

/-- HEAD_HANDOFF (R23, R39, R114): the slices' ready levels; a port that has waited 64 DCLK cycles shows it. DEDUCED (log 73). -/
def Dev.headHandoff (d : Dev) (p ready : Nat) (waited : Bool) : Dev :=
  if !d.isPort p || d.portResetting p then d
  else
    let d := d.readySample p ready
    match (d.mac p).rx with
    | none => d
    | some f =>
      if f.stage ≠ .waiting then d
      else if d.sliceReady p ready then
        let (s, q, d) := d.handHead p f.head f.first
        let f := { f with stage := .body, slice := s, seq := q }
        match f.fate with
        | none => (d.rxStage p f).rmFlow p
        | some v => ((d.rxFinish false p f f.first v).rxStage p { f with stage := .gone }).rmFlow p
      else if waited then d.sliceWait p
      else d

/-- The MAC acts on a control frame (R122): pause or PFC with its switch on when the frame started (R132), to the group
address or its own. -/
def Dev.ctrlActs (d : Dev) (p : Nat) (f : RxFrame) (l : List Nat) : Option PauseRx :=
  let da := ofBeBytes (l.take 6)
  if l.length ≠ 64 ∨ (da ≠ 0x0180C2000001 ∧ da ≠ d.get MAC_PORT_SA.SA p) then none
  else if be16 l 14 = 1 ∧ f.pauseEn then some ⟨false, 0, [be16 l 16]⟩
  else if be16 l 14 = 0x0101 ∧ f.pfcEn then
    some ⟨true, be16 l 16 % 256, (List.range 8).map fun k => be16 l (18 + 2 * k)⟩
  else none

/-- The end of a control frame (R122). -/
def Dev.ctrlEnd (d : Dev) (p : Nat) (f : RxFrame) (bytes : List Byte) (verdict : Nat) : Dev :=
  if verdict ≠ 0 then (d.rxClear p).countVerdict p verdict bytes.length
  else match d.ctrlActs p f (nats bytes) with
    | some x =>
      let d := (d.rxClear p).inc MAC_RX_CTRL.COUNT p
      d.setMac p { d.mac p with pauses := (d.mac p).pauses ++ [x] }
    | none => (d.rxClear p).inc MAC_RX_CTRL_DISCARD.COUNT p

/-- The end of a frame shorter than 64 bytes (Table 42). DESIGN CHOICE (log 95). -/
def Dev.shortEnd (d : Dev) (e : EndRx) : Dev :=
  let p := e.port
  let recirc := decide (1024 ≤ p)
  if d.rmRefuses p then d.rmDropped p
  else
  let d := d.rmResume p
  if !recirc && (!e.sfdOk || (d.on MAC_PORT_CFG.PRE_CHECK p && !e.preOk)) then d.inc MAC_RX_PREAMBLE_ERR.COUNT p
  else if !d.rxUp p then d.inc (if recirc then MAC_RX_ABORT.COUNT else MAC_RX_DOWN_DISCARD.COUNT) p
  else if !(e.error || d.rxMarked p) && fcsOk (nats e.bytes) then d.inc MAC_RX_RUNT.COUNT p
  else d.inc MAC_RX_FRAGMENT.COUNT p

/-- The verdict of a frame that ends (R117, R119), and the bytes handed on. -/
def verdictOf (maxFrame : Nat) (aborted error : Bool) (bytes : List Byte) : Nat × List Byte :=
  if maxFrame < bytes.length then (3, bytes.take maxFrame)
  else if aborted then (5, bytes) else if error then (2, bytes)
  else if fcsOk (nats bytes) then (0, bytes) else (1, bytes)

/-- RX_FRAME_END (R117 to R122): on a recirculation port the loop FIFO gives the bytes, and a frame aborted on its
transmit side ends ABORTED (R128). A frame whose head still waits cannot end. DEDUCED (log 51). -/
def Dev.frameEnd (d : Dev) (proof : Bool) (e : EndRx) : Dev :=
  let p := e.port
  let x := if p < 1024 then none else (d.mac p).loop[0]?
  match (d.mac p).rx with
  | none =>
    if !d.isPort p ∨ d.portResetting p = true then d
    else if p < 1024 then
      (if d.rxFed p = true ∧ e.bytes.length < 64 then (d.shortEnd e).rmRead p fun l => fifoEnd ((l.dropWhile (· != .start)).drop 8) else d)
    else match x with
      | some y => if y.bytes.length < 64 then (d.loopPop p).shortEnd { e with bytes := y.bytes, error := y.aborted } else d
      | none => d
  | some f =>
    let rest := match x with
      | some y => y.bytes.drop 64
      | none => e.bytes
    let d := if x.isSome ∧ f.stage ≠ .waiting then d.loopPop p else d
    let (v, b) := verdictOf f.maxFrame ((x.map (·.aborted)).getD false) ((e.error && x.isNone) || d.rxMarked p) (f.first ++ rest)
    let d := if f.stage = .waiting then d else d.rmRead p fifoEnd
    match f.stage with
    | .waiting => d
    | .gone => d.rxClear p
    | .control => d.ctrlEnd p f b v
    | _ => d.rxFinish proof p f b v

/-- RX_RM_OVERFLOW (R72): `same` where the frame without room is the one in the MAC. -/
def Dev.rmOverflow (d : Dev) (p : Nat) (same : Bool) : Dev :=
  if p < 1024 ∧ d.isPort p ∧ (d.port p).codingRx then
    let d := match (d.mac p).rx with
      | some f => if !same then d else if f.stage = RxStage.waiting then d.rxGone p false
        else if f.stage = RxStage.gone then d else (d.rxCut p 5).rxStage p { f with stage := .gone }
      | none => d
    (d.rmDropped p).setPort p { (d.rmDropped p).port p with rmDrop := true }
  else d

/-- RECIRC_LATE_DISCARD (R129): the front frame of the loop FIFO has waited past its limit with its head not handed off. -/
def Dev.recircLate (d : Dev) (p : Nat) : Dev :=
  let held := match (d.mac p).rx with
    | some f => f.stage == .waiting
    | none => true
  if 1024 ≤ p ∧ p < 1032 ∧ held = true ∧ !(d.mac p).loop.isEmpty then
    ((((d.rxClear p).loopPop p).inc MAC_RX_RECIRC_LATE.COUNT p).macSeen p macLate).fault 12 0 sevNotice p
  else d

/-- The gap after a frame and the deficit it leaves (R111): `len` the frame's bytes, `ctrl` for a control frame. -/
def gapAfter (txIpg deficit len : Nat) (ctrl : Bool) : Nat × Nat :=
  let a := (8 - (len % 8 + txIpg) % 8) % 8
  if a = 0 then (txIpg, deficit)
  else if 8 - a ≤ 3 - deficit ∧ !ctrl then (txIpg - (8 - a), deficit + (8 - a))
  else (txIpg + a, deficit - a)

/-- Characters go to the transmit coding layer of a port (R70, R105). -/
def Dev.octsOut (d : Dev) (p : Nat) (l : List Oct) : Dev := d.setPort p { d.port p with octs := (d.port p).octs ++ l }

/-- A frame leaves on the wire with the gap after it: its characters go to the coding layer after start, preamble and
delimiter. -/
def Dev.wireOut (d : Dev) (p : Nat) (bytes : List Nat) (ctrl : Bool) : Dev :=
  let (g, df) := gapAfter (d.get MAC_PORT_CFG.TX_IPG p) (d.mac p).deficit bytes.length ctrl
  let l := byteList bytes
  ((d.setMac p { d.mac p with deficit := df }).octsOut p (frameOcts l g)).emit (.frame p l g)

/-- Bytes with zero padding to a length, and with their FCS. -/
def padTo (n : Nat) (l : List Nat) : List Nat := l ++ List.replicate (n - l.length) 0
def withFcs (l : List Nat) : List Nat := l ++ leBytes (crcOf crc32 l) 4

/-- CONTROL_FRAME_SEND (R123, R148): at a frame boundary, the latest state; in far-end loopback nothing (R76). -/
def Dev.ctrlSend (d : Dev) (p : Nat) : Dev :=
  let m := d.mac p
  let on := d.on MAC_PORT_CFG.PFC_EN p || d.on MAC_PORT_CFG.PAUSE_EN p
  if p < 1024 ∧ d.on MAC_PORT_STATUS.TX_UP p ∧ m.fcReq ∧ m.tx.isNone ∧ !d.on PCS_CTL.FAR_LOOP p then
    let d := d.setMac p { m with fcReq := false }
    if on then
      let body := beBytes 0x0180C2000001 6 ++ beBytes (d.get MAC_PORT_SA.SA p) 6 ++ [0x88, 0x08] ++ d.fcBytes p
      ((d.inc MAC_TX_CTRL.COUNT p).wireOut p (withFcs (padTo 60 body)) true).put X.FC_REFRESH p (flag (d.anyXoff p))
    else d
  else d

/-- Fields of the transmit metadata (Table 43). -/
def mdLen (w : Nat) : Nat := bitsOf w 0 16
def mdKeep (w : Nat) : Bool := bitAt w 16
def mdStamp (w : Nat) : Bool := bitAt w 17
def mdTrailer (w : Nat) : Bool := bitAt w 18
def mdProf (w : Nat) : Nat := bitsOf w 19 6
def mdId (w : Nat) : Nat := bitsOf w 32 16

/-- A frame discarded unsent makes its stamp record (R199). -/
def Dev.unsent (d : Dev) (p w : Nat) : Dev :=
  if mdStamp w then d.stamp p (mdId w) stUnsent d.stepTag Stamp.zero false else d

/-- The residence of a scheduled frame that departs now (R216), in nanoseconds rounded up. DEDUCED (log 54). -/
def Dev.residence (d : Dev) (p : Nat) (r : Req) : Dev :=
  match r.since with
  | none => d
  | some t =>
    let pc := p * 16 + r.cls
    let n := ceilDiv (d.nowPs - t) 1000
    let d := d.put GATE_C_MAXRES.MAXRES_NS pc (max (d.get GATE_C_MAXRES.MAXRES_NS pc) (min n 65535))
    if d.get GATE_CLASS_BOUND.BOUND_NS pc < n then
      ((d.inc GATE_P_LATE.COUNT p).seen (srcPort p 6) 2).fault 56 p sevDegraded (r.cls + min n 65535 * 2 ^ 16)
    else d

/-- A delivered frame starts on the wire (R73, R125, R229). -/
def Dev.txBegin (d : Dev) (x : StartTx) (r : Req) : Dev :=
  let p := x.port
  let w := x.md
  let tl := if mdTrailer w then d.trailerLen (mdProf w) else 0
  let wire := max (mdLen w + tl) 60 + if mdKeep w then 0 else 4
  if d.get MAC_PORT_STATUS.TX_LIMIT p < wire then
    ((d.inc MAC_TX_OVERSIZE.COUNT p).macSeen p macOversize).unsent p w
  else if mdKeep w ∧ mdLen w < 64 then (d.inc MAC_TX_RUNT.COUNT p).unsent p w
  else
    let (t, d) := if mdTrailer w then
        let (t, d) := d.trailerTake p (mdProf w)
        (some t, d)
      else (none, d)
    let d := d.residence p r
    d.setMac p { d.mac p with tx := some ⟨w, x.bytes, t, d.departure p x.lane x.periods, d.tsValid, d.stepTag, r.cl, d.tim.ticks⟩ }

/-- TX_FRAME_START: frames come in request order (R162), after a control frame that is asked for (R123); one requested
before TX_UP fell is discarded (R110). The start waits for the transmit FIFO threshold (R73). A lane port in far-end
loopback sends nothing (R76). -/
def Dev.frameStart (d : Dev) (x : StartTx) : Dev :=
  let p := x.port
  let d := d.ctrlSend p
  let m := d.mac p
  match m.tx, m.reqs with
  | none, r :: rest =>
    if r.doomed then ((d.setMac p { m with reqs := rest }).inc MAC_TX_ABORT.COUNT p).unsent p x.md
    else if p < 1024 ∧ d.on PCS_CTL.FAR_LOOP p = true then d
    else if x.bytes.length < min (mdLen x.md) ((d.portWidth p).getD 1 * 256) then d
    else (d.setMac p { m with reqs := rest }).txBegin x r
  | _, _ => d

/-- A trailer is inserted (R229, R230): counted, and as a short span where LEN ends before it. -/
def Dev.trailerCount (d : Dev) (t : TxFrame) : Dev :=
  match t.trailer with
  | none => d
  | some tr =>
    let d := d.inc PRF_TX_TRAILERS.COUNT 0
    if mdLen t.md < tr.off + tr.len then d.inc PRF_TX_SHORT_SPAN.COUNT 0 else d

/-- The span of the trailer of a frame has ended within the bytes sent, so the trailer is in (R229). -/
def TxFrame.trailerIn (t : TxFrame) (bytes : List Byte) : Bool :=
  (t.trailer.map fun tr => decide (tr.off + tr.len ≤ bytes.length)).getD false

/-- The frame in transmission is ended by an error block: its stamp record, and its way round the loop, with the trailer
if it was inserted by then (R73, R127, R128, R229). No gap follows it, and the deficit stays. DESIGN CHOICE (log 85). -/
def Dev.txError (d : Dev) (p : Nat) (t : TxFrame) (bytes : List Byte) : Dev :=
  let d := d.setMac p { d.mac p with tx := none }
  let tr := t.trailerIn bytes
  let d := if tr then d.trailerCount t else d
  let bytes := if tr then (match t.trailer with
    | some x => byteList (insertTrailer x (nats bytes))
    | none => bytes) else bytes
  let d := if p < 1024 then (d.octsOut p (errorOcts bytes)).emit (.errorBlock p)
    else d.setMac p { d.mac p with loop := (d.mac p).loop ++ [⟨bytes, if bitAt t.md 25 then some (bitsOf t.md 48 16) else none, true⟩] }
  if mdStamp t.md then d.stamp p (mdId t.md) stAborted t.stepTag t.ts t.tsValid else d

/-- The bytes of a whole frame on the wire (R125 steps 4 to 6). -/
def wireBytes (t : TxFrame) (body : List Nat) : List Nat :=
  let b := match t.trailer with
    | some tr => insertTrailer tr body
    | none => body
  let b := padTo 60 b
  if mdKeep t.md then b else withFcs b

/-- The unpadded length of a frame with its trailer. -/
def innerLen (t : TxFrame) (body : List Nat) : Nat :=
  body.length + ((t.trailer.map (fun tr => tr.ab + tr.cb)).getD 0)

/-- A transmitted frame is whole (R125, R133). -/
def Dev.txWhole (d : Dev) (p : Nat) (t : TxFrame) (body : List Nat) : Dev :=
  let out := wireBytes t body
  let d := (d.setMac p { d.mac p with tx := none }).trailerCount t
  let d := if innerLen t body < 60 then d.inc MAC_TX_PADDED.COUNT p else d
  let d := ((d.inc MAC_TX_OK.COUNT p).add MAC_TX_OK_BYTES.COUNT p out.length).inc (MAC_TX_HIST.COUNT (histBin out.length)) p
  let d := if p < 1024 then d.wireOut p out false
    else d.setMac p { d.mac p with loop := (d.mac p).loop ++
      [⟨byteList out, if bitAt t.md 25 then some (bitsOf t.md 48 16) else none, false⟩] }
  if mdStamp t.md then d.stamp p (mdId t.md) stSent t.stepTag t.ts t.tsValid else d

/-- TX_FRAME_END: the bytes delivered after the start, and the transmit tail's ABORT (R127). DEDUCED (log 58). -/
def Dev.frameDone (d : Dev) (p : Nat) (rest : List Byte) (abort : Bool) : Dev :=
  match (d.mac p).tx with
  | none => d
  | some t =>
    let body := t.bytes ++ rest
    if abort ∨ body.length ≠ mdLen t.md then
      ((d.inc MAC_TX_ABORT.COUNT p).macSeen p macAbort).txError p t body
    else d.txWhole p t (nats body)

/-- TX_UNDERRUN (R73). -/
def Dev.underrun (d : Dev) (p : Nat) : Dev :=
  match (d.mac p).tx with
  | none => d
  | some t =>
    if p < 1024 then ((d.inc PCS_TX_UNDERRUN_CNT.COUNT p).seen (srcPort p 7) 1).txError p t t.bytes else d

/-- The transmit coding layer stops, or a reset reaches the port (R37, R110). -/
def Dev.txCut (d : Dev) (p : Nat) : Dev :=
  let d := match (d.mac p).tx with
    | some t => (d.inc MAC_TX_ABORT.COUNT p).txError p t t.bytes
    | none => d
  d.txDown p

/-- The head metadata of a released frame (R141). -/
def Dev.releaseHead (d : Dev) (s : Stored) : Head :=
  let now := d.now
  let sec := if s.head.ts.ns ≤ now.ns then now.sec else (now.sec + 2 ^ 48 - 1) % 2 ^ 48
  { s.head with
    ts := { s.head.ts with sec := sec }
    tsValid := s.head.tsValid && s.stepTag == d.stepTag
    lt := (readTags (nats s.bytes)).lt }

/-- The galley reads a stored frame with its record and finds errors at bytes of it (R142): each is counted where it lies.
The channel of the first that cannot be corrected is answered, and whether one is in the record. -/
def Dev.galRead (d : Dev) (pc : Nat) (errs : List (Nat × Bool)) : Option Nat × Bool × Dev :=
  let bad := errs.filter (·.2)
  let d' := errs.foldl (fun x e =>
    let at_ := d.byteAt pc e.1
    if e.2 then x.galUe at_.1 else x.galCe at_.1 at_.2.1) d
  (bad.head?.map fun e => (d.byteAt pc e.1).2.2, bad.any fun e => decide (e.1 < 16), d')

/-- A frame past its head decision stands before the slices: frames reach them in order (R136). -/
def Dev.dealBusy (d : Dev) (p : Nat) : Bool :=
  match (d.mac p).rx with
  | some f => f.stage == .body || f.stage == .waiting
  | none => false

/-- A released frame goes to its slice: head, body and tail together (R136, R141). -/
def Dev.galHand (d : Dev) (p c : Nat) (s : Stored) : Dev :=
  let h := d.releaseHead s
  let (sl, q, d) := d.handHead p h (s.bytes.take 64)
  let d := (d.emitBody p sl s.bytes).emit (.tail sl (tailWord p q s.bytes.length s.verdict s.lenMis s.trailer s.keep))
  ((d.inc GAL_P_RELEASED.COUNT p).add GAL_P_STORED_BYTES.COUNT p s.size).put X.GAL_RR p c

/-- GALLEY_RELEASE (R136, R141, R142): the errors the galley reads in the front frame with its record, by byte, each
correctable or not; the slices' ready levels, and whether the port has waited for them. -/
def Dev.galRelease (d : Dev) (p : Nat) (errs : List (Nat × Bool)) (ready : Nat) (waited : Bool) : Dev :=
  match d.galNext p with
  | none => d
  | some c =>
    let pc := p * 16 + c
    if d.dealBusy p then d
    else
      let d := (d.readySample p ready).galAgeAll pc
      match (d.gal pc).q with
      | [] => d
      | s :: _ =>
        if !d.sliceReady p ready then (if waited then d.sliceWait p else d)
        else
          let (ue, rec, d) := d.galRead pc errs
          if rec then (d.galUeFault (ue.getD 0) pc).galLose pc 0
          else if ue.isSome || s.hurt then
            (((d.galUeFault (ue.getD 0) pc).galDrop pc GAL_P_UE_DROP.COUNT).galPop pc).galAgeAll pc
          else ((d.galHand p c s).galPop pc).galAgeAll pc

/-- The MAC and galley state a port reset clears (R24, R37, R111, R150, R154). -/
def Dev.macReset (d : Dev) (p : Nat) : Dev :=
  let st := match (d.mac p).rx with
    | some f => if f.stage = .storing then some (p * 16 + f.cls) else none
    | none => none
  let d := (d.rxAbort p).txCut p
  let m := d.mac p
  let d := d.setMac p { m with seq := 0, lastSlice := 3, deficit := 0, loop := [], fcReq := false }
  let d := if p < 1024 then
      ((classesOf p).foldl Dev.galFlush (d.fcTimersClear p)).put X.GAL_RR p 0
    else d
  match st with
  | some pc => d.hyst pc
  | none => d

end Sys2Proof.Machine
end

