-- ==== Sys2Proof/Machine/Launch.lean ====
section
/-!
DEFINITION. The lane array and the launch sequence (02_lane_array.md, 03_launch_sequence.md): the launch state machine
of Table 30 with its failures, interruptions and wakes, training frames and coefficient requests, the PEAK search, the
comma-lock machine, alignment, the HI_SER window and EASY.
-/
namespace Sys2Proof.Machine
open F

/-- Launch states, as LN_LAUNCH_STATUS.STATE codes them. -/
def stOff : Nat := 0
def stDetect : Nat := 1
def stTrain : Nat := 2
def stLock : Nat := 3
def stRoster : Nat := 4
def stActive : Nat := 5
def stStalled : Nat := 6
def stEasy : Nat := 7

def Dev.laneState (d : Dev) (n : Nat) : Nat := d.get LN_LAUNCH_STATUS.STATE n

/-- TRAIN, LOCK, ROSTER, ACTIVE and EASY are past DETECT (R79). -/
def pastDetect (st : Nat) : Bool := st == 2 || st == 3 || st == 4 || st == 5 || st == 7

/-- Write a field of every lane of a port. -/
def Dev.portPut (d : Dev) (p : Nat) (F : Fld) (v : Nat) : Dev := d.each (d.portLanes p) fun d n => d.put F n v

/-- Every lane of a port is OFF. -/
def Dev.portOff (d : Dev) (p : Nat) : Bool := (d.portLanes p).all fun n => d.laneState n == stOff

/-- A lane's receive direction is awake (R80). -/
def Dev.rxAwake (d : Dev) (n : Nat) : Bool := !d.on LN_EASY.RX_EASY n

/-- ALIGNED falls (R67): flag, count, and the frame in reception ends as truncated. -/
def Dev.dropAlign (d : Dev) (p : Nat) : Dev :=
  if d.on PCS_STATUS.ALIGNED p then
    let d := (d.put PCS_STATUS.ALIGNED p 0).each (List.range 8) fun d i => d.put (PCS_SKEW.SKEW i) p 0xFF
    ((d.seen (srcPort p 1) 0).inc PCS_ALIGN_LOSS.COUNT p).rxTruncate p
  else d

/-- A lane leaves comma lock for NO_SIGNAL (Table 27). -/
def Dev.commaStop (d : Dev) (n : Nat) : Dev :=
  let d := d.puts n [(LN_STATUS.COMMA_STATE, 0), (LN_STATUS.COMMA_LOCK, 0)]
  d.setLane n { d.lane n with comma := none, misses := 0, easySeen := 0 }

/-- The port's receive coding layer stops (R67, R68): alignment, comma lock, the HI_SER window and the partner's level
go. -/
def Dev.stopRx (d : Dev) (p : Nat) : Dev :=
  let d := (d.dropAlign p).each (d.portLanes p) Dev.commaStop
  let d := d.puts p [(PCS_STATUS.HI_SER, 0), (PCS_STATUS.REMOTE_RX_OK, 0)]
  d.setPort p { d.port p with
    codingRx := false, hiCw := 0, hiErr := 0, easyArmed := false, rmDrop := false, rmFifo := [], badLeft := 0 }

/-- What the transmit directions of a port drive from now on. -/
def Dev.driveLanes (d : Dev) (p : Nat) (x : LaneDrive) : Dev :=
  (d.setPort p { d.port p with drive := x }).emit (.lanes p x)

/-- Every transmit direction of the port drives electrical idle; frames in transmission end (R37, R110). -/
def Dev.txIdle (d : Dev) (p : Nat) : Dev :=
  let d := d.txCut p
  (d.setPort p { d.port p with codingTx := false, octs := [], owed := 0 }).driveLanes p .idle

/-- The transmit coding layer starts (R96, R101): the first codeword carries commas or markers; the scrambler's bits and
the first COMMA_SEQ are free. DESIGN CHOICE (log 82). -/
def Dev.txStart (d : Dev) (p : Nat) : Dev :=
  let (scr, d) := d.fresh 58
  let (seq, d) := d.fresh 8
  (d.setPort p { d.port p with
    codingTx := true, acc := 0, cw := 0, commaSeq := seq, scr := scr, octs := [], owed := 0 }).driveLanes p .coding

/-- The Clause 73 pages of a port (R85): its own marker page acknowledges the partner's once it is recognised. -/
def Dev.detectPages (d : Dev) (p : Nat) (recognised : Bool) : LaneDrive :=
  .pages (d.get (LN_EIGHT_PORTMAP.WIDTH (p % 8)) (p / 8)) true (d.on MAC_PORT_CFG.PAUSE_EN p) true (markerPage recognised)

/-- What DETECT sends (R85, R87): Clause 73 pages, or Celori training frames where NEG is DIRECT. -/
def Dev.detectDrive (d : Dev) (p : Nat) : LaneDrive :=
  if d.on LN_LAUNCH_CTL.NEG p then .training false else d.detectPages p false

/-- The transmit filter in use on a lane: the identity, or C_PRE and C_POST given (R52, R53). DEDUCED (log 50). -/
def Dev.setFir (d : Dev) (n pre post : Nat) : Dev :=
  d.puts n [(LN_EQ_LIVE.C_PRE, pre), (LN_EQ_LIVE.C_POST, post), (LN_EQ_LIVE.C_MAIN, 64 - pre - post)]

/-- Forget the partner and the progress of an attempt. DESIGN CHOICE (log 93). -/
def Dev.forget (d : Dev) (p : Nat) : Dev :=
  let d := (d.portPut p LN_LAUNCH_STATUS.PARTNER 0).portPut p LN_LAUNCH_STATUS.PARTNER_W1 0
  let d := d.put PCS_STATUS.PROFILE_LIVE p 0
  let d := d.each (d.portLanes p) fun d n =>
    (d.setLane n { LaneSt.reset with trained := (d.lane n).trained }).setFir n 0 0
  d.setPort p { PortSt.reset with mismatched := (d.port p).mismatched, skewed := (d.port p).skewed }

/-- Directions that were EASY launch afresh: neither sleeps, no detector is armed. -/
def Dev.easyEnd (d : Dev) (p : Nat) : Dev :=
  ((d.portPut p LN_EASY.TX_EASY 0).portPut p LN_EASY.RX_EASY 0).portPut p LN_EASY.ATTN_ARMED 0

/-- The lanes of a port are in no launch past OFF: what leaving for OFF, DETECT or STALLED stops. -/
def Dev.quit (d : Dev) (p : Nat) : Dev :=
  (((((d.stopRx p).txIdle p).forget p).easyEnd p).fcTimersClear p).portPut p LN_ATTN.BUSY 0

/-- The port goes to OFF (Table 30): idle, LOS reads 1 (receive directions OFF). DESIGN CHOICE (log 90). -/
def Dev.toOff (d : Dev) (p : Nat) : Dev :=
  let d := ((d.quit p).portPut p LN_LAUNCH_STATUS.STATE stOff).portPut p LN_LAUNCH_STATUS.QUIET 0
  let d := (d.portPut p LN_LAUNCH_STATUS.PRS_ABSENT 0).portPut p LN_STATUS.LOS 1
  ((d.portPut p LN_STATUS.CDR_LOCK 0).portPut p LN_STATUS.RX_PPM 0).portPut p LN_EQ_LIVE.EYE 0

/-- The port goes to DETECT through a quiet period (R81), or waits there for its transmit PLL to relock (R49). -/
def Dev.toDetect (d : Dev) (p : Nat) (pllWait : Bool := false) : Dev :=
  let d := ((d.quit p).portPut p LN_LAUNCH_STATUS.STATE stDetect).portPut p LN_LAUNCH_STATUS.QUIET (flag !pllWait)
  let d := d.portPut p LN_LAUNCH_STATUS.PRS_ABSENT (flag !d.modPrs (p / 8))
  d.setPort p { d.port p with pllWait := pllWait }

/-- An interruption: counted in INTR, then DETECT (Table 30). -/
def Dev.interrupt (d : Dev) (p : Nat) (pllWait : Bool := false) : Dev :=
  (d.inc LN_LAUNCH_COUNT.INTR p).toDetect p pllWait

/-- A failure (R83). -/
def Dev.failure (d : Dev) (p cause : Nat) : Dev :=
  let fails := min (d.get LN_LAUNCH_STATUS.FAILS p + 1) 255
  let d := ((d.portPut p LN_LAUNCH_STATUS.FAILS fails).portPut p LN_LAUNCH_STATUS.LAST_FAIL cause).inc LN_LAUNCH_COUNT.FAIL p
  if d.get LN_LAUNCH_CTL.LAUNCH_RETRY p ≤ fails then
    let d := ((d.quit p).portPut p LN_LAUNCH_STATUS.STATE stStalled).portPut p LN_LAUNCH_STATUS.QUIET 0
    let d := ((d.portPut p LN_LAUNCH_STATUS.PRS_ABSENT 0).inc LN_LAUNCH_COUNT.STALL p).seen (srcEight (p / 8) (p % 8)) 0
    d.portPut p LN_LAUNCH_STATUS.STALL_SEEN 1
  else d.toDetect p

/-- A port that is OFF and enabled leaves OFF when nothing holds it: the complex is up, neither R32 nor a reset
holds it, and both its domains are ON; otherwise the domains are requested and the launch waits (R369). -/
def Dev.tryLaunch (d : Dev) (p : Nat) : Dev :=
  if d.isLanePort p && d.portOff p && d.on LN_LAUNCH_CTL.ENABLE p && d.on X.CMP_READY 0 && !d.on X.REF_HOLD (p / 8) &&
      !d.portResetting p then
    if d.pdOn (txDomain p) && d.pdOn (rxDomain p) then d.toDetect p
    else ((d.setPort p { d.port p with launchWait := true }).powerUp (rxDomain p)).powerUp (txDomain p)
  else d

/-- The transmit PLL of an eight is to run: its domain is ON and a direction that is not EASY belongs to an enabled
port (R48). -/
def Dev.pllWanted (d : Dev) (e : Nat) : Bool :=
  d.pdOn (txDomain (e * 8)) && (d.eightPorts e).any fun p =>
    d.on LN_LAUNCH_CTL.ENABLE p && !(d.on LN_EASY.TX_EASY p && !(d.port p).txWake)

/-- A PLL that is no longer wanted is stopped; it has not lost lock (R48, R49, R55). -/
def Dev.pllCheck (d : Dev) (e : Nat) : Dev := if d.pllWanted e then d else d.put LN_EIGHT_STATUS.TX_PLL_LOCK e 0

/-- An entry to ACTIVE is shown on every lane, and the MAC takes the partner's settings (R104, R124, R126). -/
def Dev.activeEntry (d : Dev) (p : Nat) : Dev :=
  let d := ((d.portPut p LN_LAUNCH_STATUS.STATE stActive).seen (srcPort p 0) 0).portPut p LN_LAUNCH_STATUS.ACTIVE_SEEN 1
  let w := fun i => (((d.port p).words[i]?).join).getD 0
  d.macPartner p (if d.get LN_LAUNCH_STATUS.PARTNER p = 1 then none else some (w 1, w 2))

/-- Both directions EASY make the state EASY, which leaves ACTIVE and so clears the receive timers (R150); one makes it
ACTIVE (R80). -/
def Dev.easyState (d : Dev) (p : Nat) : Dev :=
  let both := d.on LN_EASY.TX_EASY p && d.on LN_EASY.RX_EASY p
  let st := d.laneState p
  if st == stActive && both then (d.portPut p LN_LAUNCH_STATUS.STATE stEasy).fcTimersClear p
  else if st == stEasy && !both then d.activeEntry p else d

/-- Start sending the attention words of a wake once the domain is ON and the PLL is locked (R101). -/
def Dev.attnStart (d : Dev) (p : Nat) : Dev :=
  if (d.port p).txWake && d.pdOn (txDomain p) && d.on LN_EIGHT_STATUS.TX_PLL_LOCK (p / 8) && !d.on LN_ATTN.BUSY p then
    (d.portPut p LN_ATTN.BUSY 1).driveLanes p (.attention (attnSlots (d.get LN_ATTN.WORDS p)))
  else d

/-- A transmit wake starts (R101, R102): domain and PLL, then attention; with the local receive awake the wake timer
runs until REMOTE_RX_OK. -/
def Dev.wakeTx (d : Dev) (p : Nat) : Dev :=
  let r := d.port p
  let d := d.setPort p { r with txWake := true, wakeWait := false, wakeT := r.wakeT || d.rxAwake p }
  let d := if d.pdOn (txDomain p) then d else d.powerUp (txDomain p)
  d.attnStart p

/-- The whole receive direction of the port wakes with its stored filter (R102). -/
def Dev.wakeRx (d : Dev) (p : Nat) : Dev :=
  let d := (d.portPut p LN_EASY.RX_EASY 0).portPut p LN_EASY.ATTN_ARMED 0
  (d.setPort p { d.port p with rxWake := true, rxWakePend := false, codingRx := true }).easyState p

/-- The transmit wake is over: the cox resumes (R101 step 5). -/
def Dev.wakeDone (d : Dev) (p : Nat) : Dev :=
  let r := d.port p
  (d.setPort p { r with txWake := false, coxHold := false, wakeT := r.rxWake }).macSync p

/-- Entry to ACTIVE from ROSTER (Table 30, R96). -/
def Dev.toActive (d : Dev) (p : Nat) : Dev :=
  let d := (d.portPut p LN_LAUNCH_STATUS.FAILS 0).inc LN_LAUNCH_COUNT.UP p
  ((d.setPort p { d.port p with rosterT := false }).activeEntry p).macSync p

/-- ROSTER is left for ACTIVE when ALIGNED and REMOTE_RX_OK are both 1 (Table 30). -/
def Dev.activeCheck (d : Dev) (p : Nat) : Dev :=
  if d.laneState p == stRoster && d.on PCS_STATUS.ALIGNED p && d.on PCS_STATUS.REMOTE_RX_OK p then d.toActive p else d

/-- The local profile setting allows NATIVE, IEEE (R61, Table 34). -/
def Dev.allowsNative (d : Dev) (p : Nat) : Bool := d.get PCS_CTL.PROFILE p != 1
def Dev.allowsIeee (d : Dev) (p : Nat) : Bool := d.get PCS_CTL.PROFILE p != 2

/-- The local roster words of a port (Table 34). -/
def Dev.localWords (d : Dev) (p : Nat) : List Nat := [
  0xCE10 + 2 ^ 16 + 9 * 2 ^ 24,
  flag (d.allowsNative p) + flag (d.allowsIeee p) * 2 + 4 + 8 + d.get (LN_EIGHT_PORTMAP.WIDTH (p % 8)) (p / 8) * 16 +
    d.get MAC_PORT_CFG.PFC_EN p * 64 + d.get MAC_PORT_CFG.PAUSE_EN p * 128,
  d.get MAC_PORT_CFG.MAX_FRAME p, d.get GAL_FC_CFG.FIBRE_M p, 0, Config.serial % 2 ^ 32, Config.serial / 2 ^ 32 % 2 ^ 32, p % 256]

/-- The profile both ends compute (R95): 1 IEEE, 2 NATIVE, 3 mismatch. -/
def resolveProfile (sameWidth ln li pn pi : Bool) : Nat :=
  if !sameWidth then 3 else if ln && pn then 2 else if li && pi then 1 else 3

/-- A profile or width mismatch: a failure with a NOTICE fault carrying the partner's W1 (R95). -/
def Dev.rosterMismatch (d : Dev) (p : Nat) : Dev :=
  (d.fault 54 p sevNotice (d.get LN_LAUNCH_STATUS.PARTNER_W1 p)).failure p 3

/-- The receive coding layer starts its search in profile `sel`. -/
def Dev.startRx (d : Dev) (p sel : Nat) : Dev :=
  let d := (d.put PCS_STATUS.PROFILE_LIVE p sel).setPort p { d.port p with codingRx := true }
  d.each (d.portLanes p) fun d n =>
    if d.on LN_STATUS.CDR_LOCK n && !d.on LN_STATUS.LOS n then d.put LN_STATUS.COMMA_STATE n 1 else d

/-- A lane in NO_SIGNAL goes to SEARCH when the receive coding layer runs, CDR_LOCK is 1 and LOS is 0 (Table 27). -/
def Dev.commaSearch (d : Dev) (p n : Nat) : Dev :=
  if (d.port p).codingRx && d.on LN_STATUS.CDR_LOCK n && !d.on LN_STATUS.LOS n && d.get LN_STATUS.COMMA_STATE n == 0 then
    d.put LN_STATUS.COMMA_STATE n 1
  else d

/-- All eight roster words are held. -/
def rosterHeld (r : PortSt) : Bool := r.words.all (·.isSome)

/-- In ROSTER, the profile is resolved once the partner's words are held (R95, R96). -/
def Dev.rosterStep (d : Dev) (p : Nat) : Dev :=
  let r := d.port p
  if d.laneState p == stRoster && r.sel == 0 && rosterHeld r then
    let w1 := ((r.words[1]?).join).getD 0
    let sel := resolveProfile (bitsOf w1 4 2 == d.get (LN_EIGHT_PORTMAP.WIDTH (p % 8)) (p / 8))
      (d.allowsNative p) (d.allowsIeee p) (bitAt w1 0) (bitAt w1 1)
    if sel = 3 then d.rosterMismatch p else d.setPort p { r with sel := sel }
  else d

/-- Entry to ROSTER (Table 30); towards an IEEE partner the exchange is skipped and the IEEE PCS starts (R95). -/
def Dev.toRoster (d : Dev) (p : Nat) : Dev :=
  let d := d.portPut p LN_LAUNCH_STATUS.STATE stRoster
  let d := d.setPort p { d.port p with trainT := false, rosterT := true, mismatched := false, skewed := false }
  if d.get LN_LAUNCH_STATUS.PARTNER p = 1 then
    if d.allowsIeee p then
      ((d.setPort p { d.port p with sel := 1, gotDone := true }).startRx p 1).txStart p
    else d.rosterMismatch p
  else (d.driveLanes p .roster).rosterStep p

/-- The receiver of a lane is ready (R90): the search has ended, CDR and training-frame lock are held. -/
def Dev.laneReady (d : Dev) (n : Nat) : Bool :=
  let l := d.lane n
  l.searchDone && l.frameLock && d.on LN_STATUS.CDR_LOCK n

/-- Progress of TRAIN and LOCK: ready lanes enter LOCK, and the port enters ROSTER when every lane is in LOCK with the
partner's RX_READY (Table 30). -/
def Dev.trainStep (d : Dev) (p : Nat) : Dev :=
  let ls := d.portLanes p
  let d := d.each ls fun d n =>
    if d.laneState n == stTrain && d.laneReady n then d.put LN_LAUNCH_STATUS.STATE n stLock else d
  if !ls.isEmpty && ls.all (fun n => d.laneState n == stLock && (d.lane n).rxReady) then d.toRoster p else d

/-- Start the PEAK search of a lane, or use the configured PEAK (R51, R90). -/
def Dev.searchStart (d : Dev) (n : Nat) : Dev :=
  let peak := d.get LN_RX_EQ.PEAK n
  let d := d.puts n [(LN_EQ_LIVE.POLE, d.get LN_RX_EQ.POLE n), (LN_EQ_LIVE.DCGAIN, d.get LN_RX_EQ.DCGAIN n)]
  if d.on LN_RX_EQ.ADAPT n then
    d.setLane n { d.lane n with search := some ⟨0, [peak], peak, 0⟩, searchDone := false }
  else (d.put LN_EQ_LIVE.PEAK n peak).setLane n { d.lane n with search := none, searchDone := true, trained := peak }

/-- Entry to TRAIN with the partner's type (Table 30): 1 IEEE, 2 Celori, 3 P7. Training sets the precoding bits: both 0
unless an IEEE partner asks for more (R45, R92). DEDUCED (log 78). -/
def Dev.toTrain (d : Dev) (p kind : Nat) : Dev :=
  let d := (d.portPut p LN_LAUNCH_STATUS.STATE stTrain).portPut p LN_LAUNCH_STATUS.PARTNER kind
  let d := d.setPort p { d.port p with trainT := true }
  let d := (d.portPut p LN_CTL.TX_PRECODE 0).portPut p LN_CTL.RX_PRECODE 0
  (d.each (d.portLanes p) Dev.searchStart).driveLanes p (.training (kind == 1))

/-- The points of the next pass of the search of R51, around the best point found. -/
def finePoints (best : Nat) : List Nat :=
  ((List.range 7).map (fun i => best + i - 3)).filter (fun p => decide (p ≤ 48)) |>.eraseDups

/-- One eye measurement advances the search (R51); none is left when it ends. -/
def searchStep (s : Search) (eye : Nat) : Search :=
  match s.todo with
  | [] => s
  | p :: rest =>
    let better := match s.pass with
      | 0 => true
      | 1 => decide (s.bestEye < eye)
      | _ => decide (s.bestEye < eye) || (eye == s.bestEye && decide (p < s.best))
    let s := if better then { s with best := p, bestEye := eye } else s
    match rest, s.pass with
    | [], 0 => { s with pass := 1, todo := (List.range 13).map (· * 4) }
    | [], 1 => { s with pass := 2, todo := (finePoints s.best).dropWhile (· == s.best) }
    | _, 2 => { s with todo := rest.dropWhile (· == s.best) }
    | _, _ => { s with todo := rest }

/-- A coefficient request of a Celori partner or an IEEE one, answered by R91 and R92: the response code (1 updated,
2 at limit, 3 not supported) and the new magnitude. -/
def answerCoef (req cur other hi : Nat) : Nat × Nat :=
  if req = 1 then (if cur < hi ∧ cur + other < 40 then (1, cur + 1) else (2, cur))
  else if req = 2 then (if 0 < cur then (1, cur - 1) else (2, cur))
  else (0, cur)

/-- Answer one lane's requests of a Celori training frame (R91). -/
def Dev.coefCelori (d : Dev) (p n pre post preset : Nat) : Dev :=
  let l := d.lane n
  let w0 := (((d.port p).words[0]?).join)
  match w0 with
  | none => d.setLane n { l with preSts := 0, postSts := 0 }
  | some w =>
    if bitsOf w 24 8 = 7 then
      if preset = 1 then
        if l.preSts = 0 ∧ l.postSts = 0 then (d.setFir n 0 0).setLane n { l with preSts := 1, postSts := 1 } else d
      else
        let (ps, c0) := if pre = 0 then (0, d.get LN_EQ_LIVE.C_PRE n)
          else if l.preSts ≠ 0 then (l.preSts, d.get LN_EQ_LIVE.C_PRE n)
          else answerCoef pre (d.get LN_EQ_LIVE.C_PRE n) (d.get LN_EQ_LIVE.C_POST n) 16
        let (qs, c1) := if post = 0 then (0, d.get LN_EQ_LIVE.C_POST n)
          else if l.postSts ≠ 0 then (l.postSts, d.get LN_EQ_LIVE.C_POST n)
          else answerCoef post (d.get LN_EQ_LIVE.C_POST n) c0 24
        (d.setFir n c0 c1).setLane n { l with preSts := ps, postSts := qs }
    else d.setLane n { l with preSts := if pre = 0 ∧ preset = 0 then 0 else 3, postSts := if post = 0 ∧ preset = 0 then 0 else 3 }

/-- Answer one lane's requests of an IEEE training frame (R92): an increment of c(−1) or c(+1) lowers the magnitude. -/
def Dev.coefIeee (d : Dev) (n pre post preset : Nat) (other : Bool) : Dev :=
  let l := d.lane n
  let swap := fun r => if r = 1 then 2 else if r = 2 then 1 else 0
  if preset = 1 then (d.setFir n 0 0).setLane n { l with preSts := 1, postSts := 1 }
  else if preset ≥ 2 then
    (d.setFir n (d.get LN_LAUNCH_CTL.IEEE_PRE ((d.portOf n).getD n)) (d.get LN_LAUNCH_CTL.IEEE_POST ((d.portOf n).getD n))).setLane n
      { l with preSts := 1, postSts := 1 }
  else if other then d.setLane n { l with preSts := 3, postSts := 3 }
  else
    let (ps, c0) := if pre = 0 then (0, d.get LN_EQ_LIVE.C_PRE n) else if l.preSts ≠ 0 then (l.preSts, d.get LN_EQ_LIVE.C_PRE n)
      else answerCoef (swap pre) (d.get LN_EQ_LIVE.C_PRE n) (d.get LN_EQ_LIVE.C_POST n) 16
    let (qs, c1) := if post = 0 then (0, d.get LN_EQ_LIVE.C_POST n) else if l.postSts ≠ 0 then (l.postSts, d.get LN_EQ_LIVE.C_POST n)
      else answerCoef (swap post) (d.get LN_EQ_LIVE.C_POST n) c0 24
    (d.setFir n c0 c1).setLane n { l with preSts := ps, postSts := qs }

/-- A frame word's CHECK is correct (Table 33). -/
def frameWordOk (w : Nat) : Bool := crcOf crc32c (leBytes w 12) == bitsOf w 96 32

/-- Towards a P7 the transmit filter starts from the configured taps (R53). DEDUCED (log 50). -/
def Dev.firLive (d : Dev) (n : Nat) : Dev :=
  if d.get LN_LAUNCH_STATUS.PARTNER n = 3 then d.setFir n (d.get LN_TX_EQ.C_PRE n) (d.get LN_TX_EQ.C_POST n) else d

/-- A roster word received on the first lane counts once the same value has arrived twice (R94). -/
def Dev.rosterWord (d : Dev) (p i v : Nat) : Dev :=
  let r := d.port p
  if (r.cand[i]?).join == some v then
    let d := d.setPort p { r with words := r.words.set i (some v) }
    let d := if i = 1 then d.portPut p LN_LAUNCH_STATUS.PARTNER_W1 v else d
    if i = 0 then
      let d := d.portPut p LN_LAUNCH_STATUS.PARTNER (if bitsOf v 24 8 = 7 then 3 else 2)
      if (r.words[0]?).join = none then d.each (d.portLanes p) Dev.firLive else d
    else d
  else d.setPort p { r with cand := r.cand.set i (some v) }

/-- The content of a Celori frame word (R91, R94, R96). DESIGN CHOICE (log 92). -/
def Dev.celoriWord (d : Dev) (p n w : Nat) : Dev :=
  let ftype := bitsOf w 0 8
  if ftype ≠ 0xC1 ∧ ftype ≠ 0xC2 then d
  else
    let d := d.setLane n { d.lane n with rxReady := bitAt w 36 }
    let d := d.coefCelori p n (bitsOf w 16 2) (bitsOf w 18 2) (bitsOf w 20 1)
    let d := if n = p then d.rosterWord p (bitsOf w 48 8 % 8) (bitsOf w 56 32) else d
    let d := d.rosterStep p
    let r := d.port p
    if n = p ∧ ftype = 0xC2 ∧ bitAt w 37 ∧ d.laneState p = stRoster ∧ r.sel ≠ 0 ∧ !r.gotDone then
      if bitsOf w 38 2 = r.sel then (d.setPort p { r with gotDone := true }).startRx p r.sel
      else d.rosterMismatch p
    else d

/-- A marker with a frame: lock after three in a row with a correct CHECK (R89). -/
def Dev.markFrame (d : Dev) (n : Nat) (ok : Bool) : Dev :=
  let l := d.lane n
  let k := if ok then min (l.markers + 1) 3 else if l.frameLock then l.markers else 0
  d.setLane n { l with markers := k, frameLock := l.frameLock || k == 3 }

/-- The port is in DETECT with its attempt timer running (R81, R84, R49). -/
def Dev.attempting (d : Dev) (p : Nat) : Bool :=
  d.laneState p == stDetect && !d.on LN_LAUNCH_STATUS.QUIET p && !d.on LN_LAUNCH_STATUS.PRS_ABSENT p && !(d.port p).pllWait

/-- A training or roster frame is received on a lane (R89 to R96): Celori frames count only while the partner is not an
IEEE one (R86). DEDUCED (log 78). -/
def Dev.trainingFrame (d : Dev) (n : Nat) (fr : TrainRx) : Dev :=
  match d.portOf n with
  | none => d
  | some p =>
    let st := d.laneState n
    if (st = stDetect ∧ d.get LN_LAUNCH_CTL.NEG p = 1 ∧ d.attempting p) ∨ st = stTrain ∨ st = stLock ∨ st = stRoster then
      match fr with
      | .celori w =>
        if d.get LN_LAUNCH_STATUS.PARTNER p = 1 then d
        else
        let ok := frameWordOk w
        let d := d.markFrame n ok
        let d := if st = stDetect ∧ (d.portLanes p).all (fun m => (d.lane m).frameLock) then d.toTrain p 2 else d
        if ok ∧ st ≠ stDetect then (d.celoriWord p n w).trainStep p else d.trainStep p
      | .ieee pre post other preset ready precode =>
        if d.get LN_LAUNCH_STATUS.PARTNER p ≠ 1 then d
        else
          let d := (d.markFrame n true).coefIeee n pre post preset other
          let d := d.setLane n { d.lane n with rxReady := ready }
          ((d.put LN_CTL.TX_PRECODE n (flag precode))).trainStep p
    else d

/-- Training-frame lock is lost on a lane: LOCK returns to TRAIN with a new search (Table 30, R89). -/
def Dev.trainingLost (d : Dev) (n : Nat) : Dev :=
  let d := d.setLane n { d.lane n with markers := 0, frameLock := false }
  if d.laneState n == stLock then (d.put LN_LAUNCH_STATUS.STATE n stTrain).searchStart n else d

/-- An eye measurement completes (R51, R90). -/
def Dev.eyeMeasured (d : Dev) (n eye : Nat) : Dev :=
  let d := if d.on LN_STATUS.CDR_LOCK n then d.put LN_EQ_LIVE.EYE n (min eye 255) else d
  let l := d.lane n
  match l.search with
  | none => d
  | some s =>
    let s := searchStep s eye
    if s.todo.isEmpty then
      let d := (d.put LN_EQ_LIVE.PEAK n s.best).setLane n { l with search := none, searchDone := true, trained := s.best }
      match d.portOf n with
      | some p => d.trainStep p
      | none => d
    else d.setLane n { l with search := some s }

/-- TRACK moves PEAK by one step, never further than 4 from the value chosen in TRAIN (R51). -/
def Dev.trackStep (d : Dev) (n : Nat) (up : Bool) : Dev :=
  let p := d.get LN_EQ_LIVE.PEAK n
  let q := if up then p + 1 else p - 1
  let t := (d.lane n).trained
  if d.on LN_RX_EQ.TRACK n ∧ d.laneState n = stActive ∧ d.rxAwake n ∧ q ≤ 48 ∧ q ≤ t + 4 ∧ t ≤ q + 4 then
    d.put LN_EQ_LIVE.PEAK n q else d

/-- How many of the 40 bits of SYNC_A and SYNC_B differ (Table 26). -/
def syncErrors (w0 : Nat) : Nat :=
  popCount (bitsOf w0 40 24 ^^^ 0xA74CE1) 24 + popCount (bitsOf w0 8 16 ^^^ 0x3B96) 16

/-- A comma block is valid (R65). -/
def commaValid (st w0 : Nat) : Bool :=
  (bitsOf w0 37 3 + bitsOf w0 32 3 == 7) && decide (syncErrors w0 ≤ if st = 3 ∨ st = 4 then 2 else 0)

/-- The comma-lock machine at a comma position of a lane (Table 27). -/
def Dev.commaStep (d : Dev) (n w0 arrival : Nat) (expected : Bool) : Dev :=
  let l := d.lane n
  let st := d.get LN_STATUS.COMMA_STATE n
  let ok := commaValid st w0
  let idx := bitsOf w0 37 3
  let seq := bitsOf w0 24 8
  let next := (l.expSeq + 1) % 256
  let held := (idx + 8 * bitsOf w0 35 2, seq, arrival)
  match st with
  | 1 => if ok then (d.put LN_STATUS.COMMA_STATE n 2).setLane n { l with expIdx := idx, expSeq := (seq + 1) % 256 } else d
  | 2 =>
    if !expected then d
    else if ok && idx == l.expIdx && seq == l.expSeq then
      (d.puts n [(LN_STATUS.COMMA_STATE, 3), (LN_STATUS.COMMA_LOCK, 1)]).setLane n { l with expSeq := next, misses := 0, comma := some held }
    else (d.put LN_STATUS.COMMA_STATE n 1).inc LN_COMMA_ERR.COUNT n
  | 3 =>
    if !expected then d
    else if ok && idx == l.expIdx && seq == l.expSeq then d.setLane n { l with expSeq := next, comma := some held }
    else ((d.put LN_STATUS.COMMA_STATE n 4).inc LN_COMMA_ERR.COUNT n).setLane n { l with expSeq := next, misses := 1, easySeen := 0 }
  | 4 =>
    if !expected then d
    else if ok then (d.put LN_STATUS.COMMA_STATE n 3).setLane n { l with expSeq := next, misses := 0, comma := some held }
    else if l.misses + 1 < 4 then (d.inc LN_COMMA_ERR.COUNT n).setLane n { l with expSeq := next, misses := l.misses + 1 }
    else ((d.puts n [(LN_STATUS.COMMA_STATE, 1), (LN_STATUS.COMMA_LOCK, 0)]).inc LN_COMMA_ERR.COUNT n).setLane n
      { l with misses := 0, comma := none, easySeen := 0 }
  | _ => d

/-- The commas last held on a port's lanes, where every lane is locked and they are of one period. -/
def Dev.commaSet (d : Dev) (p : Nat) : Option (List (Nat × Nat × Nat)) :=
  let cs := (d.portLanes p).map fun n => if d.on LN_STATUS.COMMA_LOCK n then (d.lane n).comma else none
  if cs.isEmpty || cs.any (·.isNone) then none
  else
    let l := cs.filterMap id
    let q := (l.head?.map (·.2.1)).getD 0
    if l.all (·.2.1 == q) then some l else none

/-- ALIGNED is evaluated (R66): set, widths and skew of one comma period; only a first failure of each cause is
flagged and recorded. DESIGN CHOICE (log 91). -/
def Dev.alignStep (d : Dev) (p : Nat) (native : Bool) : Dev :=
  match d.commaSet p with
  | none => d
  | some l =>
    if d.on PCS_STATUS.ALIGNED p then d
    else
      let w := (d.portWidth p).getD 1
      let wcode := d.get (LN_EIGHT_PORTMAP.WIDTH (p % 8)) (p / 8)
      let first := (l.map (·.2.2)).foldl min ((l.head?.map (·.2.2)).getD 0)
      let skew := (l.map (·.2.2)).foldl max 0 - first
      let setOk := !native || ((List.range w).all (fun i => (l.filter (fun c => c.1 % 8 == i)).length == 1) &&
        l.all (fun c => c.1 / 8 == wcode))
      let r := d.port p
      if setOk ∧ skew ≤ 240 then
        let d := (d.put PCS_STATUS.ALIGNED p 1).setPort p
          { r with mismatched := false, skewed := false, rxWake := false, wakeT := r.wakeT && r.txWake && d.rxAwake p }
        let d := l.zipIdx.foldl (fun d c => d.put (PCS_SKEW.SKEW (if native then c.1.1 % 8 else c.2)) p (c.1.2.2 - first)) d
        d.activeCheck p
      else
        let f1 := !setOk && !r.mismatched
        let f2 := decide (240 < skew) && !r.skewed
        let d := d.setPort p { r with mismatched := r.mismatched || f1, skewed := r.skewed || f2 }
        let d := if f1 then d.seen (srcPort p 1) 1 else d
        let d := if f2 then d.seen (srcPort p 1) 2 else d
        d.faults ((if f1 then [⟨faultSrc 50 p, sevNotice, 0, false⟩] else []) ++
          (if f2 then [⟨faultSrc 51 p, sevDegraded, skew, false⟩] else []))

/-- The partner's receive level as its last comma, or the IEEE remote fault level, gives it: a rise ends a transmit
wake (R101) and may complete the launch. -/
def Dev.remoteOk (d : Dev) (p : Nat) (ok : Bool) : Dev :=
  let rise := ok && !d.on PCS_STATUS.REMOTE_RX_OK p
  let d := d.put PCS_STATUS.REMOTE_RX_OK p (flag ok)
  let d := d.setPort p { d.port p with wakeWait := false }
  let r := d.port p
  let d := if rise && r.txWake && r.codingTx then d.wakeDone p else d.macSync p
  d.activeCheck p

/-- A comma block of the NATIVE profile at a lane (R64, R65, R99): its words, the BIP8 of what the lane received since its
previous comma, its arrival and the codewords since the last expected position. -/
def Dev.commaRx (d : Dev) (p n w0 w2 w3 bip arrival after : Nat) : Dev :=
  let expected := after == 1024
  let d := d.commaStep n w0 arrival expected
  let st := d.get LN_STATUS.COMMA_STATE n
  if st = 3 ∧ expected then
    let d := if bip % 256 ≠ w3 % 256 then d.inc LN_BIP_ERR.COUNT n else d
    let d := d.setLane n { d.lane n with easySeen := if bitAt w2 1 then min ((d.lane n).easySeen + 1) 2 else 0 }
    let d := if (d.portLanes p).all (fun m => (d.lane m).easySeen == 2) then d.setPort p { d.port p with easyArmed := true } else d
    (d.remoteOk p (bitAt w2 0)).alignStep p true
  else if st = 1 ∨ st = 0 then d.dropAlign p else d

/-- A comma position of a lane (R64 to R66, R99). -/
def Dev.commaBlock (d : Dev) (n : Nat) (c : CommaRx) : Dev :=
  match d.portOf n with
  | none => d
  | some p =>
    if !(d.port p).codingRx || !d.on LN_STATUS.CDR_LOCK n then d
    else match c with
    | .native w0 w2 w3 blocks arrival after => d.commaRx p n w0 w2 w3 (bip8 blocks) arrival after
    | .ieee st remote arrival =>
      let d := d.puts n [(LN_STATUS.COMMA_STATE, min st 4), (LN_STATUS.COMMA_LOCK, flag (decide (st = 3 ∨ st = 4)))]
      let d := d.setLane n { d.lane n with comma := if st = 3 ∨ st = 4 then some (n - p, 0, arrival) else none }
      if st = 3 ∨ st = 4 then (d.remoteOk p remote).alignStep p false else d.dropAlign p

/-- Receive goes EASY on every lane of the port (R56, R99). DESIGN CHOICE (log 90). -/
def Dev.rxEasy (d : Dev) (p : Nat) : Dev :=
  let last := d.get PCS_STATUS.REMOTE_RX_OK p
  let d := (d.stopRx p).put PCS_STATUS.REMOTE_RX_OK p last
  let d := ((d.portPut p LN_EASY.RX_EASY 1).portPut p LN_EASY.ATTN_ARMED 1).portPut p LN_STATUS.LOS 1
  (((d.portPut p LN_STATUS.CDR_LOCK 0).portPut p LN_STATUS.RX_PPM 0).portPut p LN_EQ_LIVE.EYE 0).easyState p

/-- Loss of signal or of CDR lock on a lane past DETECT (Table 30, R80, R99, R102). -/
def Dev.signalLost (d : Dev) (n : Nat) : Dev :=
  match d.portOf n with
  | none => d
  | some p =>
    let r := d.port p
    let aligned := d.on PCS_STATUS.ALIGNED p
    let d := d.commaStop n
    let d := d.dropAlign p
    if !pastDetect (d.laneState n) || !d.rxAwake n then d
    else if r.rxWake && !aligned && r.wakeT && d.on LN_STATUS.LOS n then d
    else d.interrupt p

/-- A near-end loopback ignores the receive pins of a lane (R76). -/
def Dev.nearLoop (d : Dev) (n : Nat) : Bool := d.get LN_CTL.LOOPBACK n != 0

/-- LOS asserts (R46); not from pins that a loopback ignores (R76). -/
def Dev.losAssert (d : Dev) (n : Nat) : Dev :=
  if d.on LN_STATUS.LOS n || d.nearLoop n then d
  else
    let d := d.puts n [(LN_STATUS.LOS, 1), (LN_STATUS.LOS_SEEN, 1)]
    match d.portOf n with
    | none => d
    | some p =>
      if (d.port p).easyArmed && d.laneState p == stActive && d.rxAwake n then d.rxEasy p else d.signalLost n

/-- LOS deasserts on a receive direction that is on (R46). -/
def Dev.losDeassert (d : Dev) (n : Nat) : Dev :=
  if d.laneState n = stOff ∨ !d.rxAwake n then d
  else
    let d := d.put LN_STATUS.LOS n 0
    match d.portOf n with
    | none => d
    | some p => d.commaSearch p n

/-- The CDR locks: comma search can begin (R46, Table 27). -/
def Dev.cdrLock (d : Dev) (n : Nat) : Dev :=
  if d.on LN_STATUS.LOS n then d
  else
    let d := d.put LN_STATUS.CDR_LOCK n 1
    match d.portOf n with
    | none => d
    | some p => (d.commaSearch p n).trainStep p

/-- The CDR loses lock (R46); not on pins that a loopback ignores (R76). -/
def Dev.cdrUnlock (d : Dev) (n : Nat) : Dev :=
  if d.on LN_STATUS.CDR_LOCK n && !d.nearLoop n then
    ((d.puts n [(LN_STATUS.CDR_LOCK, 0), (LN_STATUS.RX_PPM, 0), (LN_EQ_LIVE.EYE, 0)]).inc LN_CDR_UNLOCK.COUNT n).signalLost n
  else d

/-- The 1 ms frequency measurement, in two's complement units of 0.1 ppm (R71). -/
def Dev.ppmUpdate (d : Dev) (n ppm : Nat) : Dev :=
  if d.on LN_STATUS.CDR_LOCK n then
    let d := d.put LN_STATUS.RX_PPM n ppm
    if 2000 < (signedOf ppm 16).natAbs then (d.put LN_STATUS.PPM_RANGE n 1).fault 53 n sevNotice (ppm % 2 ^ 16) else d
  else d

/-- The window of 8192 codewords ends (R68). DEDUCED (log 50). DESIGN CHOICE (log 83). -/
def Dev.hiserEnd (d : Dev) (p : Nat) : Dev :=
  let r := d.port p
  let d := d.setPort p { r with hiCw := 0, hiErr := 0 }
  if d.get PCS_CTL.HISER_THRESH p ≤ r.hiErr then
    if d.on PCS_STATUS.HI_SER p then d.fault 52 p sevDegraded r.hiErr
    else (((d.put PCS_STATUS.HI_SER p 1).inc PCS_HISER.COUNT p).seen (srcPort p 2) 0).fault 52 p sevDegraded r.hiErr
  else d.put PCS_STATUS.HI_SER p 0

/-- Received characters leave again in far-end loopback (R76), through a transmit FIFO of w × 1 KiB (R70); a frame
without room is dropped and counted as R72 states. DESIGN CHOICE (log 79). -/
def Dev.relayOut (d : Dev) (p : Nat) (l : List Oct) : Dev :=
  let r := d.port p
  let o := relay 0 l
  if octBytes r.octs + octBytes o ≤ (d.portWidth p).getD 1 * 1024 then d.setPort p { r with octs := r.octs ++ o }
  else d.rmDropped p

/-- Characters enter the receive FIFO of w × 2 KiB (R69); while R72 drops, none do. -/
def Dev.rmFill (d : Dev) (p : Nat) (l : List Oct) : Dev :=
  let r := d.port p
  let w := (d.portWidth p).getD 1
  if r.rmDrop && decide (w * 1024 ≤ octBytes r.rmFifo) then d
  else
    let room := w * 2048 - octBytes r.rmFifo
    (d.setPort p { r with rmFifo := r.rmFifo ++ if octBytes l ≤ room then l else l.take room }).rmFlow p

/-- A codeword is received (R62, R68, Table 28): corrected symbols per lane of the port, or uncorrectable, and its blocks.
Those of an uncorrectable one, and all while HI_SER is 1, are error blocks. With HISER_EN at 0 the window stands still
and HI_SER keeps its value. DESIGN CHOICE (log 83). -/
def Dev.codeword (d : Dev) (p : Nat) (corr : List Nat) (bad : Bool) (blocks : List RxBlk) : Dev :=
  if !(d.port p).codingRx then d
  else
    let d := if 8192 ≤ (d.port p).hiCw then d.hiserEnd p else d
    let k := corr.foldl (· + ·) 0
    let bad := bad || decide (15 < k) || (d.on PCS_CTL.FEC_DETECT p && decide (0 < k))
    let d := d.inc PCS_CW.COUNT p
    let d := d.setPort p { d.port p with badLeft := if bad then (d.portWidth p).getD 1 else (d.port p).badLeft - 1 }
    let d := if bad then (d.inc PCS_CW_UNCORR.COUNT p).rxErrorMark p
      else
        let d := (d.inc (PCS_CW_HIST.COUNT k) p).each (List.range corr.length) fun d i => d.add LN_FEC_SYMS.COUNT (p + i) (corr[i]?.getD 0)
        if 0 < k then d.inc PCS_CW_CORR.COUNT p else d
    let hi := d.on PCS_STATUS.HI_SER p
    let d := if hi then d.rxErrorMark p else d
    let l := if bad || hi then [Oct.error] else rxOcts blocks
    let d := if d.on PCS_CTL.FAR_LOOP p then d.relayOut p l else d.rmFill p l
    if d.on PCS_CTL.HISER_EN p then
      d.setPort p { d.port p with hiCw := (d.port p).hiCw + 1, hiErr := (d.port p).hiErr + (if bad then 16 else k) }
    else d

/-- The presence level of an eight changes (R84): a module gone interrupts or idles, a module back starts a fresh attempt
at once. -/
def Dev.presence (d : Dev) (e : Nat) (present : Bool) : Dev :=
  d.each (d.eightPorts e) fun d p =>
    let st := d.laneState p
    if present then
      if st = stDetect ∧ d.on LN_LAUNCH_STATUS.PRS_ABSENT p then
        ((d.portPut p LN_LAUNCH_STATUS.PRS_ABSENT 0).portPut p LN_LAUNCH_STATUS.QUIET 0).driveLanes p (d.detectDrive p)
      else if st = stStalled ∧ d.on LN_LAUNCH_CTL.PRS_RESTART p then
        (d.portPut p LN_LAUNCH_STATUS.FAILS 0).toDetect p
      else d
    else if pastDetect st then d.interrupt p
    else if st = stDetect then (d.portPut p LN_LAUNCH_STATUS.PRS_ABSENT 1).driveLanes p .idle
    else d

/-- Every lane of an eight goes to OFF at once (R32). -/
def Dev.eightOff (d : Dev) (e : Nat) : Dev := d.each (d.eightPorts e) Dev.toOff

/-- A port is stopped: ENABLE = 0 and OFF (LANE_STOP, PORT_DOWN). -/
def Dev.portStop (d : Dev) (p : Nat) : Dev := ((d.put LN_LAUNCH_CTL.ENABLE p 0).toOff p).pllCheck (p / 8)

/-- LANE_LAUNCH: ENABLE, FAILS cleared, through quiet to DETECT from any state (R104). -/
def Dev.portLaunch (d : Dev) (p : Nat) : Dev :=
  let d := (d.put LN_LAUNCH_CTL.ENABLE p 1).portPut p LN_LAUNCH_STATUS.FAILS 0
  if d.portOff p then d.tryLaunch p else d.toDetect p

end Sys2Proof.Machine
end

