-- ==== Sys2Proof/Machine/View.lean ====
section
/-!
DEFINITION. What a register read shows: fields computed from other state, the MCLK mirrors of eight-domain fields (R29,
R30), the place an offset of the window names (R375, R376, Tables 133 and 134), and the word of a register.
-/
namespace Sys2Proof.Machine
open F

/-- Codes of Table 103. -/
def CpxState.code : CpxState → Nat
  | .powered => 0 | .imageLoad => 1 | .ready => 2 | .running => 3 | .safe => 4 | .locked => 5

def Mode.code : Mode → Nat
  | .fabric => 0 | .reach => 1 | .timed => 2 | .converged => 3 | .economy => 4 | .proof => 5 | .service => 6

def modeOf (n : Nat) : Option Mode :=
  match n with
  | 0 => some .fabric | 1 => some .reach | 2 => some .timed | 3 => some .converged | 4 => some .economy
  | 5 => some .proof | 6 => some .service | _ => none

/-- The mode code of a complex: 7 in SAFE, 15 where there is none. -/
def Ctl.modeCode (c : Ctl) : Nat :=
  match c.state with
  | .safe => 7
  | .running => (c.mode.map Mode.code).getD 15
  | _ => 15

/-- The complex has booted and its core clocks run (Table 16). -/
def Ctl.live (c : Ctl) : Bool := c.state matches .imageLoad | .ready | .running | .safe

/-- ROOTCLK, DCLK, MCLK and TCLK run (Table 16): from the PLL's lock in POWERED on, and in every later state but LOCKED. -/
def Ctl.clocked (c : Ctl) : Bool := c.live || (c.state == .powered && c.pll)

/-- A fixed-point token count as whole signed bytes, in 32 bits. -/
def Bucket.bytes (b : Bucket) : Nat := unsignedOf (b.tok / 65536) 32

/-- A received class's frames are stored rather than bypassed (GAL_PC_STATUS.HOLDING). -/
def Dev.galHolds (d : Dev) (pc : Nat) : Bool :=
  decide (d.fcMode pc = fcGalley) && (!(d.gal pc).q.isEmpty || d.storing pc || !d.coreBelow pc)

/-- The numbers of a list for which a test holds, counted. -/
def countIn (l : List Nat) (g : Nat → Bool) : Nat := (l.filter g).length

/-- The queues assigned to a function, of one kind from ring `base` on. -/
def Dev.queuesOf (d : Dev) (base f : Nat) : Nat :=
  countIn (d.keys RING_CFG.ASSIGNED) fun r => decide (base ≤ r) && decide (r < base + 4096) && d.get RING_CFG.FUNC r == f

/-- SAFE exits within the last RECOV_WIN_S seconds, by the clock and not by the timebase, which may be stepped (R350). -/
def Dev.exitsInWin (d : Dev) : Nat :=
  countIn d.desk.exits fun e => decide (d.tim.ticks - e ≤ d.get FLT_SAFE_CFG.RECOV_WIN_S 0 * 1000 * msTicks)

/-- The counters the selected object shows (R186): class block or partner, none where the index names no object. -/
def Dev.cntObject (d : Dev) : Option (Bool × Nat) :=
  let i := d.get COX_CNT_SEL.INDEX 0
  if d.on COX_CNT_SEL.OBJ 0 then (if i < 16384 then some (true, i) else none)
  else if d.isPort (i / 16) then some (false, i) else none

def Dev.cntField (d : Dev) (k : Nat) : Option (Fld × Nat) :=
  d.cntObject.map fun o => (if o.1 then COX_P_CNT.COUNT k else COX_C_CNT.COUNT k, o.2)

/-- A computed field: from the complex's control, its device state and an object. -/
abbrev Viewer := Ctl → Dev → Nat → Nat

/-- DESIGN CHOICE (log 9). -/
def viewGlobal : List (Fld × Viewer) := [
  (CMP_STATUS.CPX_STATE, fun c _ _ => c.state.code),
  (CMP_STATUS.MODE, fun c _ _ => c.modeCode),
  (CMP_IMG_STATUS.BASE_MODE, fun c _ _ => (c.mode.map Mode.code).getD 15),
  (LCK_STATUS.RELEASE_WAIT, fun c d _ => flag (c.release && d.on LCK_CFG.PIN_EN 0 && d.on EVC_SB_MISC.LOCKUP 0)),
  (CMP_STATUS.WAITING, fun _ d _ => d.cmp.waits.length),
  (CPX_ID.DEVICE, fun c _ _ => if c.live then 0xCE10 else 0),
  (CPX_ID.FAMILY, fun c _ _ => if c.live then 9 else 0),
  (CPX_ID.REV_MINOR, fun c _ _ => if c.live then Config.revMinor % 16 else 0),
  (CPX_ID.REV_MAJOR, fun c _ _ => if c.live then Config.revMajor % 16 else 0),
  (CPX_SERIAL.SERIAL, fun c _ _ => if c.live then Config.serial % 2 ^ 64 else 0),
  (CPX_FW_VERSION.VERSION, fun c _ _ => if c.live then Config.fwVersion % 2 ^ 32 else 0),
  (CPX_PD_ON.ON, fun c d _ => (List.range 34).foldl (fun n k => if d.pdOn k then setBitAt n k else n) (flag c.d34 * 2 ^ 34)),
  (CPX_PD_BUSY.BUSY, fun _ d _ =>
    (List.range 34).foldl (fun n k => if (d.pd k).st = 1 ∨ (d.pd k).st = 3 then setBitAt n k else n) 0),
  (GAL_EXT.COMMITTED, fun _ d _ => d.committed),
  (GAL_STATUS.RATE, fun _ d _ => d.galleyRate),
  (COX_TELEM_STATUS.QUEUES, fun _ d _ => d.walkList.length),
  (COX_CNT_SEL.READY, fun _ d _ => flag d.cntObject.isSome),
  (TIM_STATUS.RUNNING, fun _ d _ => flag d.tsValid),
  (TIM_SLEW_CTL.LEFT, fun _ d _ => d.slewLeft),
  (EVC_STATUS.READY_COUNT, fun _ d _ => (d.vecsIn 2).length),
  (FLT_STATUS.QUIET_LEFT_MS, fun _ d _ => d.quietLeft),
  (FLT_STATUS.EXITS_IN_WIN, fun _ d _ => min d.exitsInWin 15),
  (HPE_STATUS.RX_STORE_KIB, fun _ d _ => ceilDiv d.rxStoreBytes 1024),
  (HPE_STATUS.TX_STORE_KIB, fun _ d _ => ceilDiv d.txStoreBytes 1024),
  (HPE_STATUS.RX_HELD, fun _ d _ => flag (decide (8388608 < d.rxStoreBytes + 16004)))]

def viewCounters : List (Fld × Viewer) := (List.range 8).map fun k =>
  (COX_CNT.COUNT k, fun _ d _ => match d.cntField k with
    | some (F, i) => d.get F i
    | none => 0)

def viewObjects : List (Fld × Viewer) := [
  (LN_EIGHT_STATUS.RESET_ACTIVE, fun _ d e => flag (d.resets.any fun r => r.holdsEight e)),
  (LN_BANK_STATUS.TX_PD, fun _ d b => (d.pd (2 * b)).st),
  (LN_BANK_STATUS.RX_PD, fun _ d b => (d.pd (2 * b + 1)).st),
  (LN_BANK_STATUS.RESET_ACTIVE, fun _ d b => flag (d.resets.any fun r => r.holdsBank b)),
  (LN_BANK_STATUS.REF_FAULT_SUM, fun _ d b =>
    (List.range 8).foldl (fun n i => if d.on LN_EIGHT_STATUS.REF_FAULT (b * 8 + i) then setBitAt n i else n) 0),
  (LN_BANK_STATUS.PLL_UNLOCK_SUM, fun _ d b =>
    (List.range 8).foldl (fun n i => if d.on LN_EIGHT_STATUS.TX_PLL_UNLOCK (b * 8 + i) then setBitAt n i else n) 0),
  (PRF_REC_STATUS.MAP, fun _ d r => d.get PRF_REC_STATUS.MAP r % 2 ^ d.recHist r),
  (MAC_PORT_STATUS.RX_UP, fun _ d p => flag (d.rxUp p)),
  (GAL_FC_STATUS.HOLDING, fun _ d p => flag ((classesOf p).any fun pc => !(d.gal pc).q.isEmpty)),
  (GAL_PC_STATUS.HOLDING, fun _ d pc => flag (d.galHolds pc)),
  (COX_PORT_STATUS.TOKENS, fun _ d p => (d.bucket (bkPort p)).bytes),
  (COX_PORT_STATUS.BLOCKED, fun _ d p => flag !(d.bucket (bkPort p)).allows),
  (COX_PORT_STATUS.PAUSED, fun _ d p => d.get GAL_FC_STATUS.PORT_PAUSED p),
  (COX_CLASS_STATUS.TOKENS, fun _ d pc => (d.bucket (bkClass pc)).bytes),
  (COX_CLASS_STATUS.BLOCKED, fun _ d pc => flag !(d.bucket (bkClass pc)).allows),
  (COX_CLASS_STATUS.GATE_OPEN, fun _ d pc => flag (bitAt (d.get GATE_PORT_STATUS.GATES (pc / 16)) (pc % 16))),
  (COX_CLASS_STATUS.PAUSED, fun _ d pc => flag (d.clsPaused pc)),
  (COX_CLASS_STATUS.ACTIVE, fun _ d pc => flag (d.candidate pc).isSome),
  (COX_CLASS_STATUS.COMMON_DEPTH, fun _ d pc => min (d.member (memKey pc none)).frames (2 ^ 26 - 1)),
  (PTN_SH_STATUS.TOKENS, fun _ d q => (d.bucket (bkPtn q)).bytes),
  (PTN_SH_STATUS.BLOCKED, fun _ d q => flag !(d.bucket (bkPtn q)).allows),
  (PTN_SH_STATUS.ACTIVE, fun _ d q =>
    flag (d.member (memKey (d.get PTN_CFG.PORT q * 16 + d.get PTN_CFG.EG_CLASS q) (some q))).elig),
  (PTN_POL_STATUS.TC, fun _ d q => (d.bucket (bkTc q)).bytes),
  (PTN_POL_STATUS.TP, fun _ d q => (d.bucket (bkTp q)).bytes),
  (PTN_Q_STATUS.DEPTH_BYTES, fun _ d q =>
    (d.member (memKey (d.get PTN_CFG.PORT q * 16 + d.get PTN_CFG.EG_CLASS q) (some q))).bytes % 2 ^ 38),
  (PTN_Q_STATUS.DEPTH_FRAMES, fun _ d q => min (d.ptnDepth q) (2 ^ 26 - 1)),
  (TIM_LANE_LAT.RX_FIXED_PS, fun _ _ n => Config.rxFixedPs n % 2 ^ 16),
  (TIM_LANE_LAT.TX_FIXED_PS, fun _ _ n => Config.txFixedPs n % 2 ^ 16),
  (TIM_PORT_STATUS.DEPTH, fun _ d p => (d.mac p).stamps.length),
  (TIM_PORT_STATUS.LOSS_PENDING, fun _ d p => flag (d.mac p).run.isSome),
  (TIM_PORT_STATUS.FIRST_LOST_ID, fun _ d p => (((d.mac p).run.map (·.1)).getD 0) % 2 ^ 16),
  (TIM_PORT_STATUS.LOST_RUN, fun _ d p => min (((d.mac p).run.map (·.2.2)).getD 0) (2 ^ 32 - 1)),
  (PRF_ENG_CTL.BUSY, fun _ d e => flag !(d.fifo e).isEmpty),
  (PRF_ENG_CTL.LEVEL, fun _ d e => (d.fifo e).length),
  (PRF_ENG_STATE.STATE, fun _ d e => d.engState e),
  (PRF_ENG_RESULT.RESULT, fun _ d e => d.engResult e),
  (PRF_PROF_CFG.TL, fun _ d k => d.trailerLen k)]

def viewHost : List (Fld × Viewer) := [
  (RING_CFG.ASSIGNED, fun _ d r => if r < 8192 then d.get RING_CFG.ASSIGNED r else 1),
  (RING_CFG.FUNC, fun _ d r => if r < 8192 then d.get RING_CFG.FUNC r else (r - 8192) / 4),
  (HPE_FN_STATUS.HALT_ANY, fun _ d f => flag ((d.fnRings f).any fun r => d.ringState r == 2)),
  (HPE_FN_STATUS.TXQ_COUNT, fun _ d f => d.queuesOf 0 f),
  (HPE_FN_STATUS.RXQ_COUNT, fun _ d f => d.queuesOf 4096 f),
  (HPE_PAGE_STATUS.RESET_BUSY, fun _ d f => d.get HPE_FN_STATUS.RESET_BUSY f),
  (HPE_PAGE_STATUS.RESET_DONE, fun _ d f => d.get HPE_FN_STATUS.RESET_DONE f),
  (HPE_PAGE_STATUS.ENABLED, fun _ d f => d.get HPE_FN_CFG.ENABLE f),
  (EVC_TGT_PRIO.IS_PRIO, fun _ d t => d.isPrio t),
  (EVC_TGT_PRIO.SENT_COUNT, fun _ d t => (d.sentTo t).length),
  (EVC_TGT_PRIO.ACTIVE_COUNT, fun _ d t => (d.activeAt t).length),
  (EVC_SRC_STATUS.PRESENT, fun _ d s => flag (d.present s)),
  (EVC_SRC_STATUS.KIND_LEVEL, fun _ _ s => flag (srcLevel s))]

def viewers : List (Fld × Viewer) := viewGlobal ++ viewCounters ++ viewObjects ++ viewHost

/-- The fields that originate in an eight domain and are read from their mirrors (R29): lane and port counters of Table
28, and live status of lanes, eights and ports. -/
def laneMirrored : List Fld := [
  LN_STATUS.LOS, LN_STATUS.CDR_LOCK, LN_STATUS.COMMA_LOCK, LN_STATUS.COMMA_STATE, LN_STATUS.RX_PPM, LN_EQ_LIVE.EYE,
  LN_PAT_CTL.CHK_LOCK, LN_PAT_BITS.COUNT, LN_PAT_ERRS.COUNT, LN_FEC_SYMS.COUNT, LN_COMMA_ERR.COUNT, LN_BIP_ERR.COUNT,
  LN_CDR_UNLOCK.COUNT]

def portMirrored : List Fld := [
  PCS_STATUS.ALIGNED, PCS_STATUS.HI_SER, PCS_STATUS.REMOTE_RX_OK, PCS_CW.COUNT, PCS_CW_CORR.COUNT, PCS_CW_UNCORR.COUNT,
  PCS_HISER.COUNT, PCS_ALIGN_LOSS.COUNT, PCS_RX_RM_DROP.COUNT, PCS_TX_UNDERRUN_CNT.COUNT] ++
  (List.range 8).map PCS_SKEW.SKEW ++ (List.range 16).map PCS_CW_HIST.COUNT

def eightMirrored : List Fld := [LN_EIGHT_STATUS.TX_PLL_LOCK]

/-- DEDUCED (log 12). -/
def mirrored (F : Fld) : Bool := (laneMirrored ++ portMirrored ++ eightMirrored).any fun G => G.id == F.id

/-- The mirror of a field. -/
def Dev.mirror (d : Dev) (F : Fld) (i : Nat) : Nat := fldGet d.mir F i

/-- Copy one field of one object into its mirror. -/
def Dev.mirrorOne (d : Dev) (i : Nat) (F : Fld) : Dev := { d with mir := fldPut d.mir F i (d.get F i) }

/-- Refresh every mirror of an eight (R29). -/
def Dev.mirrorEight (d : Dev) (e : Nat) : Dev :=
  let d := eightMirrored.foldl (fun d F => d.mirrorOne e F) d
  ((List.range 8).map (e * 8 + ·)).foldl
    (fun d n => (laneMirrored ++ portMirrored).foldl (fun d F => d.mirrorOne n F) d) d

/-- MAC fields that read 0 and ignore writes on a recirculation port (R132). DEDUCED (log 62). -/
def notOnRecirc (F : Fld) (i : Nat) : Bool :=
  decide (1024 ≤ i) && [MAC_PORT_CFG.PRE_CHECK, MAC_PORT_CFG.PAUSE_EN, MAC_PORT_CFG.PFC_EN, MAC_PORT_CFG.TX_IPG].any fun G =>
    G.id == F.id

/-- The value of a field as a read shows it. -/
def Dev.view (c : Ctl) (d : Dev) (F : Fld) (i : Nat) : Nat :=
  match viewers.find? fun p => p.1.id == F.id with
  | some p => p.2 c d i % 2 ^ F.w
  | none => if F.acc = .wo || notOnRecirc F i then 0 else if mirrored F then d.mirror F i else d.get F i

/-- The word a list of fields makes. -/
def Dev.viewWord (c : Ctl) (d : Dev) (l : List Fld) (i : Nat) : Nat :=
  l.foldl (fun n F => n + d.view c F i * 2 ^ F.lo) 0

/-- The fields of the register at an offset of a place, none where there is none. -/
def flds (p : Place) (off : Nat) : List Fld := (((regsAt p).find? fun r => r.off == off).map (·.flds)).getD []

/-- The word of a register of an object. -/
def Dev.word (c : Ctl) (d : Dev) (p : Place) (off i : Nat) : Nat := d.viewWord c (flds p off) i

/-- A field of a register image. -/
def Fld.of (F : Fld) (w : Nat) : Nat := bitsOf w F.lo F.w

/-- What an offset of the window names. -/
inductive Slot where
  | reg (p : Place) (i off : Nat)
  | mboxCmd (a : Nat)
  | mboxReply (a : Nat)
  | impression (a : Nat)
  | none
  deriving DecidableEq, Repr

/-- An offset within one eight's block (Tables 15 and 138): blocks of a port, and its launch
control and counts (R104), exist at a configured first lane only. -/
def Dev.eightSlot (d : Dev) (e o : Nat) : Slot :=
  if o < 0x8000 then
    let n := e * 8 + o / 0x1000
    let r := o % 0x1000
    if r < 0x800 then .reg .lane n r else if d.isLanePort n then .reg .pcs n (r - 0x800) else .none
  else if o < 0xC000 then
    let p := e * 8 + (o - 0x8000) / 0x800
    if d.isLanePort p then .reg .mac p ((o - 0x8000) % 0x800) else .none
  else if o < 0xC008 then .reg .eight e o
  else if 0xC040 ≤ o ∧ o < 0xC100 then
    let n := e * 8 + (o - 0xC040) / 0x18
    let k := (o - 0xC040) % 0x18
    if 8 ≤ k ∧ k < 16 ∨ d.isLanePort n then .reg .launch n k else .none
  else .none

/-- An object block of a range: `base`, stride and count. -/
def blockSlot (p : Place) (o base stride count : Nat) : Option Slot :=
  if base ≤ o ∧ o < base + stride * count then some (.reg p ((o - base) / stride) ((o - base) % stride)) else none

/-- The blocks of Table 134 outside the bank regions. DEDUCED (log 74). -/
def blockList (o : Nat) : List (Option Slot) := [
  (blockSlot .mac o 0x80000 0x800 8).map fun s => match s with
    | .reg p i k => .reg p (1024 + i) k
    | s => s,
  blockSlot .galch o 0x2001000 8 64,
  blockSlot .galport o 0x2040000 0x100 1024,
  blockSlot .galclass o 0x2100000 0x40 16384,
  blockSlot .coxport o 0x2201000 0x40 1032,
  blockSlot .coxclass o 0x2220000 0x20 16512,
  blockSlot .ptn o 0x2300000 0x40 16384,
  blockSlot .lat o 0x2404000 8 1024,
  blockSlot .timport o 0x2410000 0x40 1032,
  blockSlot .gateport o 0x2430000 0x80 1024,
  blockSlot .gateclass o 0x2460000 0x20 16384,
  blockSlot .heat o 0x2500000 8 131072,
  blockSlot .eng o 0x2601000 0x100 16,
  blockSlot .prof o 0x2610000 0x40 64,
  blockSlot .stream o 0x2620000 8 16384,
  blockSlot .record o 0x2640000 0x40 16384,
  blockSlot .txalive o 0x2760000 8 66048,
  blockSlot .ring o 0x2820000 0x80 4096,
  (blockSlot .ring o 0x2900000 0x80 4096).map fun s => match s with
    | .reg p i k => .reg p (4096 + i) k
    | s => s,
  (blockSlot .fn o 0x2810000 0x400 64).map fun s => match s with
    | .reg p f k => if k < 0x200 then .reg .ring (8192 + 4 * f + k / 0x80) (k % 0x80) else .reg p f k
    | s => s,
  blockSlot .page o 0x2C00000 0x1000 64,
  blockSlot .tgt o 0x3010000 0x40 256,
  blockSlot .tset o 0x3018000 0x20 64,
  blockSlot .vec o 0x3020000 0x40 1024,
  blockSlot .srccfg o 0x3040000 4 65536,
  blockSlot .srcstat o 0x3080000 8 65536,
  blockSlot .react o 0x3400400 4 64,
  blockSlot .fltcnt o 0x3400800 8 64,
  blockSlot .log o 0x3401000 0x10 64,
  if 0x3202000 ≤ o ∧ o < 0x3204000 then some (.mboxCmd (o - 0x3202000)) else none,
  if 0x3210000 ≤ o ∧ o < 0x3220000 then some (.mboxReply (o - 0x3210000)) else none,
  if 0x3640000 ≤ o ∧ o < 0x3680000 then some (.impression (o - 0x3640000)) else none]

/-- Port and class blocks exist for a configured port only: of the galley and the gate engine for a lane port, of the cox
and the stamps for any port (R156, R186, R220). -/
def Dev.blockHere (d : Dev) : Slot → Bool
  | .reg .galport p _ | .reg .gateport p _ => d.isLanePort p
  | .reg .galclass pc _ | .reg .gateclass pc _ => d.isLanePort (pc / 16)
  | .reg .coxport p _ | .reg .timport p _ => d.isPort p
  | .reg .coxclass pc _ => d.isPort (pc / 16)
  | _ => true

/-- The place of an offset of the window (Tables 133 and 134). -/
def Dev.slotOf (d : Dev) (o : Nat) : Slot :=
  if 0x1000000 ≤ o ∧ o < 0x2000000 then
    let b := (o - 0x1000000) / 0x100000
    let k := o % 0x100000
    if k < 0x80000 then d.eightSlot (b * 8 + k / 0x10000) (k % 0x10000)
    else if k < 0x80100 then .reg .bank b (k - 0x80000) else .none
  else match (blockList o).findSome? id with
    | some s => if d.blockHere s then s else .none
    | none => .reg .glob 0 o

end Sys2Proof.Machine
end

