-- ==== Sys2Proof/Machine/Power.lean ====
section
/-!
DEFINITION. Power domains (R33 to R35, R368 to R371), the transmit PLL of an eight (R48, R49), REF_OCT windows (R31, R32),
the resets of a bank, an eight and a port (R36 to R38, R372, R373), the complex reset (R360), and the outcomes every
command is built from: what acts on the clocked complex, and what acts on the island alone.
-/
namespace Sys2Proof.Machine
open F

/-- Fields the Idleten island holds, kept by every reset but loss of its supply (R36, R372): the reference checkers, the
sideband levels, the lock-up controller, the IMPR instrument and CPX_START. DEDUCED (log 15). -/
def islandFields : List Fld := [
  LN_EIGHT_STATUS.REF_OK, LN_EIGHT_STATUS.REF_COUNT, X.REF_GOOD, EVC_SB_INT_0.LEVEL, EVC_SB_INT_1.LEVEL,
  EVC_SB_PRS_0.LEVEL, EVC_SB_PRS_1.LEVEL, EVC_SB_MISC.WAKE, EVC_SB_MISC.LOCKUP, LCK_CFG.PIN_EN, LCK_CFG.SIDE_EN,
  LCK_CFG.TAP_EN, LCK_CFG.CMD_EN, LCK_CFG.CAPTURE_EN, LCK_CFG.KEEP_FIRST, LCK_CFG.AUTO_RELEASE_MS, LCK_STATUS.LOCKED,
  LCK_STATUS.CAPTURING, LCK_STATUS.VALID, LCK_STATUS.CAUSE, LCK_STATUS.DISCARD_SEEN, LCK_STATUS.RELEASE_WAIT,
  LCK_STATUS.LOCKUPS, CPX_START.STEP, CPX_START.BOOT_TRIES, CPX_START.BOOT_FAIL, CPX_START.GAL_FAIL, CPX_START.CAUSE,
  CPX_START.READY_MS, CPX_START.STARTS, X.IMPR_ADDR, X.SB_STOP]

def islandField (id : Nat) : Bool := islandFields.any fun F => F.id == id

/-- LCK_CFG at its factory default (R355). DEDUCED (log 15). -/
def Dev.lckDefault (d : Dev) : Dev :=
  d.clrs 0 [LCK_CFG.PIN_EN, LCK_CFG.SIDE_EN, LCK_CFG.TAP_EN, LCK_CFG.CMD_EN, LCK_CFG.CAPTURE_EN, LCK_CFG.KEEP_FIRST,
    LCK_CFG.AUTO_RELEASE_MS]

/-- A start-up begins from step 2 with a cause (R360, R374). A command's lock-up that was still to come is lost with the
reset (R310); a trigger on its way from elsewhere is not. -/
def Dev.restarted (d : Dev) (cause : Nat) : Dev :=
  let n : Dev := { Dev.blank with
    f := d.f.filter fun p => islandField p.1
    desk := ⟨[], [], d.desk.trigs.filter (fun c => c != 2), 0⟩
    out := d.out
    free := d.free }
  (n.puts 0 [(CPX_START.STEP, 2), (CPX_START.CAUSE, cause)]).inc CPX_START.STARTS 0

/-- A complex reset (R360): the mailbox buffers belong to domain 34, which leaves reset with the PLL locked again. -/
def State.complexReset (s : State) (cause : Nat) : State :=
  { s with
    ctl := { s.ctl with state := .powered, mode := none, pll := false, switching := none, release := false, lockFrom := none }
    dev := s.dev.restarted cause
    mem := { s.mem with mboxCmd := [], mboxReply := [] } }

abbrev Out := Host.Outcome State Fault Refusal

/-- What needs ACLK: undefined, and so a stop, while CHIP_REF is lost (R388); nothing happens without supply. DESIGN CHOICE (log 5). -/
def State.aclk (s : State) (g : State → State) : Out :=
  if s.ctl.refLost then .fault .chipRefAbsent else if s.ctl.supply then .next (g s) else .next s

/-- What needs the booted complex (Table 131 step 4), whose core clocks run (Table 16). DEDUCED (log 16). -/
def State.core (s : State) (g : State → State) : Out := s.aclk fun s => if s.ctl.live then g s else s

/-- A command that acts on the device alone. -/
def State.onDev (s : State) (g : Ctl → Dev → Dev) : Out := s.core fun s => { s with dev := g s.ctl s.dev }

/-- A command that acts on what the island holds, whatever the clocks. DEDUCED (log 16). -/
def State.onIsland (s : State) (g : Ctl → Dev → Dev) : Out := s.aclk fun s => { s with dev := g s.ctl s.dev }

/-- The complex serves its ports and rings: it has been READY since its last reset. -/
def Ctl.serving (c : Ctl) : Bool := c.state matches .ready | .running | .safe

/-- A bank holds a configured port with ENABLE = 1 (R368). -/
def Dev.bankEnabled (d : Dev) (b : Nat) : Bool := (d.bankPorts b).any fun p => d.on LN_LAUNCH_CTL.ENABLE p

/-- The domains of step 8 in order (R368). -/
def startDomains : List Nat := 33 :: (List.range 16).flatMap fun b => [2 * b + 1, 2 * b]

/-- The next domain to power at step 8 after those of `l` that are ON. -/
def Dev.nextDomain (d : Dev) : List Nat → Option Nat
  | [] => none
  | k :: l => if d.pdOn k || (decide (k < 32) && !d.bankEnabled (k / 2)) then d.nextDomain l else some k

/-- Power the next domain of step 8, one at a time. -/
def Dev.powerNext (d : Dev) : Dev :=
  match d.nextDomain startDomains with
  | some k => d.powerUp k
  | none => d

/-- Every lane direction of a bank domain is OFF or EASY, none is waking and no launch waits for it (R34, Table 18). DEDUCED (log 39). -/
def Dev.bankIdle (d : Dev) (k : Nat) : Bool :=
  (List.range 64).all fun i =>
    let n := k / 2 * 64 + i
    let r := match d.portOf n with
      | some p => d.port p
      | none => PortSt.reset
    let off := d.laneState n == stOff && !r.launchWait
    if k % 2 = 0 then off || (d.on LN_EASY.TX_EASY n && !r.txWake)
    else off || (d.on LN_EASY.RX_EASY n && !r.rxWakePend)

/-- A port whose launch waited for its domains leaves OFF when both are ON (R369). -/
def Dev.launchWaiting (d : Dev) (p : Nat) : Dev :=
  if (d.port p).launchWait then (d.setPort p { d.port p with launchWait := false }).tryLaunch p else d

/-- What waits for a bank domain to come ON: launches, receive wakes, transmit wakes (R60, R101, R369). -/
def Dev.bankCameOn (d : Dev) (k : Nat) : Dev :=
  d.each (d.bankPorts (k / 2)) fun d p =>
    let d := d.launchWaiting p
    let d := if k % 2 = 1 && (d.port p).rxWakePend then d.wakeRx p else d
    d.attnStart p

/-- Some function is enabled (R370). -/
def Dev.fnEnabled (d : Dev) : Bool := (List.range 64).any fun f => d.on HPE_FN_CFG.ENABLE f

/-- The condition of R34 and Table 18 on switching a domain off: a bank domain's lanes are OFF or EASY, no function is
enabled for domain 33; domain 32 stays on from start-up (R364), before which no port uses it. -/
def Dev.mayPowerDown (d : Dev) (k : Nat) : Bool :=
  if k < 32 then d.bankIdle k
  else if k = 33 then !d.fnEnabled
  else k == 32 && decide (d.get CPX_START.STEP 0 = 5)

/-- A domain completes power-up (R35): a power-down that waited is carried out if it is still allowed, and dropped
if not; at step 8 the next domain follows (R368). -/
def Dev.domainOn (d : Dev) (k : Nat) : Dev :=
  let p := d.pd k
  if p.st = 1 then
    let down := p.downWait && d.mayPowerDown k
    let d := d.setPd k ⟨if down then 3 else 2, false, false⟩
    let d := if p.downWait && !down then d.put CPX_PD_CTL.REQ 0 (setBitAt (d.get CPX_PD_CTL.REQ 0) k) else d
    let d := if down then d else if k < 32 then d.bankCameOn k else d
    if d.get CPX_START.STEP 0 = 7 then d.powerNext else d
  else d

/-- A bank domain has its clock: it is ON, or DRAINING (R35). -/
def Dev.pdRuns (d : Dev) (k : Nat) : Bool := d.pdOn k || (d.pd k).st == 3

/-- A domain of the eight's bank runs, so that its eight domain can be clocked (R28, R33). -/
def Dev.eightRuns (d : Dev) (e : Nat) : Bool := d.pdRuns (e / 8 * 2) || d.pdRuns (e / 8 * 2 + 1)

/-- The mirrors of the eights of a bank go stale with the last domain of it (R29). -/
def Dev.bankStale (d : Dev) (b : Nat) : Dev :=
  if d.eightRuns (b * 8) then d
  else (List.range 8).foldl (fun d i => d.put LN_EIGHT_STATUS.MIRROR_STALE (b * 8 + i) 1) d

/-- A draining domain reaches OFF (R35): a power-up that waited starts. -/
def Dev.domainOff (d : Dev) (k : Nat) : Dev :=
  let p := d.pd k
  if p.st = 3 then
    let d := d.setPd k ⟨if p.upWait then 1 else 0, false, false⟩
    if k < 32 then d.bankStale (k / 2) else d
  else d

/-- The transmit PLL of an eight runs only while its domain is ON (R48). -/
def Dev.pllsStop (d : Dev) (k : Nat) : Dev :=
  if k < 32 ∧ k % 2 = 0 ∧ !d.pdOn k then
    (List.range 8).foldl (fun d i => d.put LN_EIGHT_STATUS.TX_PLL_LOCK (k / 2 * 8 + i) 0) d
  else d

/-- The compositor switches an idle bank domain off (R369). -/
def Dev.idleOff (d : Dev) (k : Nat) : Dev := if k < 32 ∧ d.pdOn k ∧ d.bankIdle k then (d.powerDown k).pllsStop k else d

/-- A bank domain misses its bound (R340). -/
def Dev.bankLate (d : Dev) (k : Nat) : Dev :=
  if k < 32 ∧ ((d.pd k).st = 1 ∨ (d.pd k).st = 3) then d.fault 33 (k / 2) sevSerious (k % 2) else d

/-- A transmit PLL locks (R48, R49): ports that waited for it restart, and wakes send their attention words. -/
def Dev.pllLocked (d : Dev) (e : Nat) : Dev :=
  if d.pllWanted e && d.on LN_EIGHT_STATUS.REF_OK e then
    (d.put LN_EIGHT_STATUS.TX_PLL_LOCK e 1).each (d.eightPorts e) fun d p =>
      let d := if (d.port p).pllWait then
          (d.setPort p { d.port p with pllWait := false }).portPut p LN_LAUNCH_STATUS.QUIET 1
        else d
      d.attnStart p
  else d

/-- A transmit PLL that runs loses lock (R49); with REF_OK at 0 only its status shows it. DEDUCED (log 65). -/
def Dev.pllLost (d : Dev) (e : Nat) : Dev :=
  if d.on LN_EIGHT_STATUS.TX_PLL_LOCK e then
    let d := (d.put LN_EIGHT_STATUS.TX_PLL_LOCK e 0).seen (srcEight e 9) 0
    if d.on LN_EIGHT_STATUS.REF_OK e then
      let d := d.each (d.eightPorts e) fun d p =>
        let st := d.laneState p
        if pastDetect st then d.interrupt p true
        else if st = stDetect ∧ !d.on LN_LAUNCH_STATUS.QUIET p then d.toDetect p true
        else d
      d.fault 49 (e * 8) sevDegraded 0
    else d
  else d

/-- An enabled port whose lanes are OFF leaves OFF (R32, R369). -/
def Dev.launchEight (d : Dev) (e : Nat) : Dev := d.each (d.eightPorts e) Dev.tryLaunch

/-- A REF_OCT window ends (R31, R32): the island's part runs in every state, the rest while the core clocks do. A count of 0
is a lost reference, without which the eight's mirrors are not refreshed (R29). DEDUCED (log 21). -/
def Dev.refWindow (d : Dev) (live : Bool) (e count : Nat) : Dev :=
  let ok := decide (2436 ≤ count) && decide (count ≤ 2447)
  let was := d.on LN_EIGHT_STATUS.REF_OK e
  let good := if ok then min (d.get X.REF_GOOD e + 1) 3 else 0
  let d := d.puts e [(LN_EIGHT_STATUS.REF_OK, flag ok), (LN_EIGHT_STATUS.REF_COUNT, min count 4095), (X.REF_GOOD, good)]
  let d := if count = 0 then d.put LN_EIGHT_STATUS.MIRROR_STALE e 1 else d
  if !live then (if ok then d else d.put LN_EIGHT_STATUS.REF_FAULT e 1)
  else
  let d := if ok then d else d.seen (srcEight e 8) 0
  if was && !ok then
    let d := d.eightOff e
    (d.put X.REF_HOLD e 1).fault 48 (e * 8) sevDegraded (min count 4095)
  else if good = 3 ∧ d.on X.REF_HOLD e then (d.put X.REF_HOLD e 0).launchEight e
  else d

/-- The eights and ports of a reset scope. -/
def Scope.eights : Scope → List Nat
  | .bank b => (List.range 8).map (b * 8 + ·)
  | .eight e => [e]
  | .port _ => []

def Dev.scopePorts (d : Dev) : Scope → List Nat
  | .bank b => d.bankPorts b
  | .eight e => d.eightPorts e
  | .port p => [p]

/-- A reset begins (R36, R37, R372): frames end, transmit PLLs stop, lanes leave what they do; a bank reset powers up a
domain that is off where its bank holds an enabled port. DEDUCED (log 40). -/
def Dev.resetBegin (d : Dev) (s : Scope) : Dev :=
  let d := d.each (d.scopePorts s) fun d p => if p < 1024 then (d.rxAbort p).toOff p else (d.rxAbort p).txCut p
  let d := s.eights.foldl (fun d e => d.put LN_EIGHT_STATUS.TX_PLL_LOCK e 0) d
  match s with
  | .bank b => if d.bankEnabled b then
      (if d.pdOn (2 * b + 1) then id else fun d : Dev => d.powerUp (2 * b + 1))
        ((if d.pdOn (2 * b) then id else fun d : Dev => d.powerUp (2 * b)) d)
    else d
  | _ => d

/-- A reset request (R38): absorbed by a reset in progress that contains it; an enclosing one takes the place of those it
contains. -/
def Dev.resetAsk (d : Dev) (s : Scope) : Dev :=
  if d.resets.any fun r => r.holds s then d
  else { d.resetBegin s with resets := d.resets.filter (fun r => !s.holds r) ++ [s] }

/-- What one port of a reset's scope is left with (Table 132). -/
def Dev.portFresh (d : Dev) (p : Nat) : Dev :=
  let d := (d.macReset p).coxReset p
  if p < 1024 then ((d.toOff p).portPut p LN_LAUNCH_STATUS.FAILS 0).tryLaunch p else d.macSync p

/-- The domains of a reset's scope have ended their transitions (R373). -/
def Dev.scopeSettled (d : Dev) (s : Scope) : Bool :=
  let b := match s with
    | .bank b => some b
    | .eight e => some (e / 8)
    | .port p => if p < 1024 then some (p / 64) else none
  match b with
  | some b => [2 * b, 2 * b + 1].all fun k => (d.pd k).st == 0 || (d.pd k).st == 2
  | none => true

/-- A reset in progress completes (R372, R373). DEDUCED (log 40). -/
def Dev.resetDone (d : Dev) (s : Scope) : Dev :=
  let d := { d with resets := d.resets.filter (fun r => r != s) }
  d.each (d.scopePorts s) Dev.portFresh

/-- A bank, eight, port or function reset is in progress (R310). -/
def Dev.resetting (d : Dev) : Bool :=
  !d.resets.isEmpty || (List.range 64).any fun f => d.on HPE_FN_STATUS.RESET_BUSY f

end Sys2Proof.Machine
end

