-- ==== Sys2Proof/Machine/Kiland.lean ====
section
/-!
DEFINITION. The Kiland protocol (11_kiland_commands.md): packets (R299 to R301), taking a command (R273, R305, R313),
the order of its checks (R304), what holds it off (R309), its commit and its reply (R302, R303, R306), and waits and
barriers (R306, R308).
-/
namespace Sys2Proof.Machine
open F

/-- Status codes of Table 102. -/
def stBusy : Nat := 1
def stState : Nat := 2
def stRange : Nat := 3
def stAdmit : Nat := 4
def stResource : Nat := 5
def stCheck : Nat := 6
def stUnknown : Nat := 7

/-- A refusal: status, detail, and the two words of the detail block (R303). -/
structure Ref where
  status : Nat
  detail : Nat
  arg0 : Nat
  arg1 : Nat
  deriving DecidableEq, Repr

/-- A refusal with an empty detail block, and the plain RANGE refusal. -/
def refOf (status detail : Nat) : Ref := ⟨status, detail, 0, 0⟩
def refRange : Ref := refOf stRange 0

/-- An admission refusal (R303). -/
def Adm.ref (a : Adm) : Ref := ⟨stAdmit, a.detail, a.obj % 2 ^ 16 + a.cls % 256 * 2 ^ 16, a.qty % 2 ^ 64⟩

/-- What a command is judged against: the complex, its buffers, the mode of its conditions and of admission (codes of
Table 103, 15 for none), and whether it comes from an image section (R318). -/
structure Cx where
  ctl : Ctl
  mem : Mems
  mode : Nat
  image : Bool

/-- STATE with detail CPX_STATE (R303). -/
def Cx.wrongState (c : Cx) : Ref := ⟨stState, 0x0108, c.ctl.state.code + c.ctl.modeCode * 16, 0⟩

/-- STATE with a state register image and an index (R303), under a detail code, OBJ_STATE unless given. -/
def refObj (image i : Nat) (detail : Nat := 0x010B) : Ref := ⟨stState, detail, image, i % 2 ^ 16⟩

/-- The mode admission uses: cfg.mode, FABRIC where there is none. -/
def Cx.cfgMode (c : Cx) : Nat := if c.mode = 15 then 0 else c.mode

/-- REACH and CONVERGED admit long fibres; TIMED and CONVERGED admit scheduled classes (R146, R214). -/
def longMode (m : Nat) : Bool := m == 1 || m == 3
def schedMode (m : Nat) : Bool := m == 2 || m == 3

/-- The admission of a whole configuration (R146, R180, R217), in this order. -/
def Dev.admitAll (d : Dev) (m : Nat) : Option Adm :=
  ((d.admitGalley (longMode m)).orElse fun _ => d.admitCox).orElse fun _ => d.admitGates (schedMode m)

/-- No configuration with a GALLEY class stands while the galley is out of service (R146). -/
def Dev.galOff (d : Dev) (c : Ctl) : Option Ref :=
  if !d.galleyClasses.isEmpty && !d.on GAL_STATUS.IN_SERVICE 0 then some (refObj (d.word c .glob 0x2000008 0) 0 0x0509) else none

/-- The admission a command's effect falls under. -/
def Dev.admitRef (d : Dev) (c : Ctl) (m adm : Nat) : Option Ref :=
  match adm with
  | 0 => none
  | 1 => (d.admitCox.orElse fun _ => d.admitGates (schedMode m)).map Adm.ref
  | _ => (d.galOff c).orElse fun _ => (d.admitAll m).map Adm.ref

/-- What a command does to flash (R325 to R328). -/
inductive FlashOp where
  | erase (copy : Nat)
  | write (copy off : Nat) (bytes : List Byte)
  deriving DecidableEq, Repr

/-- What a command does to the complex as a whole: nothing, a mode in force (R332), or the wakes before one. -/
inductive CtlOp where
  | keep
  | mode (m : Mode)
  | wakes (m : Mode)
  deriving DecidableEq, Repr

/-- What a command that passes its checks leaves: the device, the words of its reply body, the configuration fields and
heat lists it writes (R330), what it does to flash and to the complex, what its reply waits for, and the
waiting commands it releases. -/
structure Done where
  dev : Dev
  body : List Nat
  wrote : List (Nat × Nat)
  lists : List Nat
  flash : List FlashOp
  ctl : CtlOp
  wait : Option Wait
  release : List Wait

def done (d : Dev) (body : List Nat := []) : Done := ⟨d, body, [], [], [], .keep, none, []⟩
def doneWait (d : Dev) (w : Wait) : Done := ⟨d, [], [], [], [], .keep, some w, []⟩

/-- A configuration edit: field, object and value. -/
abbrev Edit := Fld × Nat × Nat

/-- RX_EN and TX_EN of a port are held while the quiesce of SERVICE stands (R334): their values wait beside the fields. -/
def isMacEn (id : Nat) : Bool := id == MAC_PORT_CFG.RX_EN.id || id == MAC_PORT_CFG.TX_EN.id

/-- Write a configuration field: under the quiesce a write of RX_EN or TX_EN sets the value held. -/
def Dev.setCfg (d : Dev) (F : Fld) (i v : Nat) : Dev :=
  if d.cmp.quiesce && isMacEn F.id then
    let k := if F.id = MAC_PORT_CFG.RX_EN.id then 0 else 1
    { d with cmp := { d.cmp with heldEn := d.cmp.heldEn.set i (putBitAt (d.cmp.heldEn.get i 15 % 4) k (v % 2 == 1)) 15 } }
  else d.put F i v

/-- Write configuration fields. -/
def Dev.edit (d : Dev) (l : List Edit) : Dev := l.foldl (fun d e => d.setCfg e.1 e.2.1 e.2.2) d

/-- The configuration fields of a register image. DEDUCED (log 35). -/
def imageEdits (l : List Fld) (i w : Nat) : List Edit := l.map fun F => (F, i, F.of w)

/-- A command that writes configuration fields, followed by what the new values bring. -/
def doneEdit (d : Dev) (l : List Edit) (after : Dev → Dev := id) : Done :=
  ⟨after (d.edit l), [], l.map fun e => (e.1.id, e.2.1), [], [], .keep, none, []⟩

/-- Every field of a list is within its range in an image (step 8). -/
def fieldsOk (l : List Fld) (w : Nat) : Bool := l.all fun F => decide (F.mn ≤ F.of w) && decide (F.of w ≤ F.mx)

/-- What a TARGET names (Table 107). -/
inductive TK where
  | none | bank | eight | port | lane | fn | queue | other
  deriving DecidableEq, Repr

/-- The rows of Table 106. -/
inductive Legal where
  | query | always | control | modeSet | config | lanes
  deriving DecidableEq, Repr

/-- One opcode of Table 107: its PLEN in words, its marks, what TARGET names, the bits of each parameter word that may be
set (reserved and RO bits may not, R301) with those of any further word, its row of Table 106, the admission its effect
falls under (0 none, 1 that of R180 and R217, 2 that of R146 as well), and its steps 8 to 10 with its effect. -/
structure KSpec where
  opcode : Nat
  words : Nat → Bool
  query : Bool
  clear : Bool
  dry : Bool
  tk : TK
  masks : List Nat
  tail : Nat
  legal : Legal
  admits : Nat
  run : Cx → Pkt → Dev → Except Ref Done

/-- Bits a register image may set (R301): those of its fields that are not RO. -/
def fieldMask (l : List Fld) : Nat := l.foldl (fun n F => if F.acc = .ro then n else n ||| (2 ^ F.w - 1) * 2 ^ F.lo) 0

/-- The mask of the register at an offset of a place. -/
def imageMask (p : Place) (off : Nat) : Nat := fieldMask (flds p off)

/-- A selector word of SEL_A, and of SEL_A and SEL_B (R301). -/
def selA : Nat := 0xFFFF
def selAB : Nat := 0xFFFFFFFF

/-- Every parameter word sets only bits it may set. -/
def wordsOk (tail : Nat) : List Nat → List Nat → Bool
  | _, [] => true
  | [], w :: r => w % 2 ^ 64 &&& (2 ^ 64 - 1 - tail % 2 ^ 64) == 0 && wordsOk tail [] r
  | m :: ms, w :: r => w % 2 ^ 64 &&& (2 ^ 64 - 1 - m % 2 ^ 64) == 0 && wordsOk tail ms r

/-- Step 5 (R304). -/
def KSpec.form (k : KSpec) (p : Pkt) : Option Ref :=
  if p.plen % 8 ≠ 0 ∨ !k.words (p.plen / 8) then some (refOf stRange 0x0105)
  else if (p.dryRun ∧ !k.dry) ∨ (p.clear ∧ !k.clear) then some (refOf stRange 0x0106)
  else if p.rsv ∨ (k.tk = .none ∧ p.target ≠ 0) ∨ !wordsOk k.tail k.masks p.words then some (refOf stRange 0x0107)
  else none

/-- Step 6 (Table 106). -/
def KSpec.legalIn (k : KSpec) (s : CpxState) : Bool :=
  match k.legal, s with
  | _, .powered | _, .locked => false
  | .query, _ | .always, _ => true
  | _, .imageLoad => false
  | .control, _ | .config, _ => true
  | .modeSet, s | .lanes, s => s != .safe

/-- The object a TARGET names lies in a reset's scope. -/
def Dev.inScope (d : Dev) (s : Scope) (k : KSpec) (p : Pkt) : Bool :=
  match k.tk with
  | .bank => s.holdsBank p.target
  | .eight => s.holdsEight p.target
  | .port => s.holdsPort p.target
  | .lane => s.holdsEight (p.target / 8) || ((d.portOf p.target).map s.holdsPort).getD false
  | _ => false

/-- A ring KIND with the queue or function number TARGET gives names a ring (Table 107). -/
def ringNamed (kind target : Nat) : Bool :=
  if kind < 2 then decide (target < 4096) else decide (kind < 6) && decide (target < 64)

/-- The function in whose reset a host-engine command's object lies. -/
def Dev.ofFn (d : Dev) (k : KSpec) (p : Pkt) : Option Nat :=
  match k.tk with
  | .fn => some p.target
  | .queue =>
    let kind := p.word 0 % 2 ^ 16
    if ringNamed kind p.target then d.ringOwner (ringOf kind p.target p.target) else none
  | _ => none

/-- The commands R38 governs. -/
def resetOpcodes : List Nat := [0x0104, 0x0105, 0x0405, 0x0905]

/-- The opcode that stands for a reset in progress, whoever asked for it. PRESUMED (log 41). -/
def Scope.opcode : Scope → Nat
  | .bank _ => 0x0104 | .eight _ => 0x0105 | .port _ => 0x0405

/-- The issuer of the first waiting command of a kind, 0 for a reset that a reaction started. -/
def Dev.waiterOf (d : Dev) (g : Wait → Bool) : Nat := ((d.cmp.waits.find? fun w => g w.why).map (·.t.issuer)).getD 0

/-- A command waits for the reset of this very scope, not for one it took the place of (R38). -/
def Wait.isReset (s : Scope) : Wait → Bool
  | .reset r => r == s
  | _ => false

/-- The first two rows of Table 106: queries and what runs in every state. -/
def KSpec.calm (k : KSpec) : Bool := k.legal matches .query | .always

/-- A port a command of group 0x03 names. -/
def Dev.namedPort (d : Dev) (k : KSpec) (p : Pkt) : Option Nat :=
  match k.tk with
  | .port => some p.target
  | .lane => d.portOf p.target
  | _ => none

/-- Step 7 (R309, Table 108): the holding opcode and its issuer. -/
def Dev.heldOff (d : Dev) (c : Ctl) (k : KSpec) (p : Pkt) : Option (Nat × Nat) :=
  if (c.switching.isSome ∨ d.on X.CMP_ECO 0) ∧ !k.calm then some (0x0201, d.waiterOf fun w => w == .modeSwitch || w == .ecoOff)
  else if d.cmp.session.isSome ∧ d.get CMP_IMG_WRITE.ISSUER 0 ≠ p.issuer ∧
      k.opcode ∈ [0x0201, 0x0203, 0x0204, 0x0205, 0x0207] then some (0x0203, d.get CMP_IMG_WRITE.ISSUER 0)
  else
    let cfg := !k.query && !resetOpcodes.contains k.opcode
    match (if cfg then d.resets.find? fun s => d.inScope s k p else none) with
    | some s => some (s.opcode, d.waiterOf (Wait.isReset s))
    | none =>
      match (if cfg then d.ofFn k p else none) with
      | some f =>
        if f < 64 ∧ d.on HPE_FN_STATUS.RESET_BUSY f then some (0x0905, d.waiterOf (· == .fnReset f))
        else none
      | none =>
        match d.namedPort k p with
        | some q =>
          if k.opcode / 256 = 3 ∧ k.opcode ≠ 0x0304 ∧ (d.port q).entering then some (0x0303, d.waiterOf (· == .easy q))
          else none
        | none => none

/-- Steps 5 to 7 (R304). -/
def KSpec.preCheck (k : KSpec) (c : Cx) (p : Pkt) (d : Dev) : Option Ref :=
  match k.form p with
  | some r => some r
  | none =>
    if !k.legalIn c.ctl.state then some c.wrongState
    else (d.heldOff c.ctl k p).map fun h => ⟨stBusy, 0x0109, h.1 + h.2 * 2 ^ 16, 0⟩

/-- Steps 8 to 11 (R304). DEDUCED (log 43). -/
def KSpec.judge (k : KSpec) (c : Cx) (p : Pkt) (d : Dev) : Except Ref Done :=
  match k.run c p d with
  | .error r => .error r
  | .ok x =>
    match x.dev.admitRef c.ctl c.cfgMode k.admits with
    | some r => .error r
    | none => .ok x

/-- Write bytes into an addressed buffer from an address on. -/
def putCells (t : List Host.Cell) (a : Nat) (dflt : Byte) : List Byte → List Host.Cell
  | [] => t
  | b :: r => putCells (Tab.set t a b dflt) (a + 1) dflt r

/-- Read `n` bytes of an addressed buffer. -/
def getCells (t : List Host.Cell) (a n : Nat) (dflt : Byte) : List Byte := (List.range n).map fun i => Tab.get t (a + i) dflt

/-- Forget every cell of an address range. -/
def clearCells (t : List Host.Cell) (lo hi : Nat) : List Host.Cell := t.filter fun c => decide (c.1 < lo) || decide (hi ≤ c.1)

/-- The flash address of a copy (R316). -/
def copyBase (copy : Nat) : Nat := 0x1000000 + copy % 2 * 0x1000000

/-- What is done to flash. Erased flash reads 0xFF. -/
def flashDo (t : List Host.Cell) : List FlashOp → List Host.Cell
  | [] => t
  | .erase c :: r => flashDo (clearCells t (copyBase c) (copyBase c + 0x1000000)) r
  | .write c off l :: r => flashDo (putCells t (copyBase c + off) 0xFF l) r

/-- The bytes of a list of 64-bit words. -/
def wordBytes (l : List Nat) : List Nat := l.flatMap fun w => leBytes w 8

/-- A reply packet (Table 101): header and body bytes. -/
def replyBytes (c : Ctl) (t : Ticket) (status detail : Nat) (body : List Nat) : List Nat :=
  let b := wordBytes body
  let h := leBytes (t.seq % 2 ^ 32) 4 ++ leBytes (t.opcode % 2 ^ 16) 2 ++
    leBytes (status % 16 + c.state.code * 16 + c.modeCode * 256) 2 ++ leBytes (detail % 2 ^ 16) 2 ++ leBytes (b.length % 2 ^ 16) 2
  h ++ leBytes (crcOf crc32c (h ++ b)) 4 ++ b

/-- Count a reply (Table 110). -/
def Dev.countReply (d : Dev) (status : Nat) : Dev :=
  let d := d.inc CMP_CMDS.COUNT 0
  if status = stBusy then d.inc CMP_BUSY.COUNT 0
  else if status = stCheck then d.inc CMP_CHECK_ERR.COUNT 0
  else if status = 0 then d else d.inc CMP_REFUSED.COUNT 0

/-- A reply of function `f`: buffer, then record (R272, Table 87); discarded after a function reset (R276) and while the
reply ring does not run (R274). -/
def Dev.replyFn (d : Dev) (f : Nat) (t : Ticket) (bytes : List Nat) : Dev :=
  let r := ringReply f
  if t.lost then d.inc HPE_F_REPLY_DISCARD.COUNT f
  else
    let x := d.ring r
    let d := d.setRing r { x with reserved := x.reserved - 1 }
    if !d.ringRuns r then d.inc HPE_F_REPLY_DISCARD.COUNT f
    else
      let cut := bytes.take t.bufLen
      let d := if cut.isEmpty then d else d.emit (.hostWrite (d.ringBridge r) (t.replyAddr % 2 ^ 64) (byteList cut) false)
      d.recWrite r (ofLeBytes (bytes.take 16) + t.cmdIndex % 2 ^ 32 * 2 ^ 128 + cut.length * 2 ^ 160 +
        flag (decide (t.bufLen < bytes.length)) * 2 ^ 176)

/-- Form the one reply of a command (R302), for a function or for the mailbox (R313). -/
def State.replyOne (s : State) (t : Ticket) (status detail : Nat) (body : List Nat) : State :=
  let bytes := replyBytes s.ctl t status detail body
  let d := s.dev.countReply status
  if t.issuer < 64 then { s with dev := d.replyFn t.issuer t bytes }
  else
    { s with
      dev := d.puts 0 [(CMP_MBOX_STATUS.STATE, 3), (CMP_MBOX_STATUS.DONE_SEEN, 1), (CMP_MBOX_STATUS.REPLY_LEN, bytes.length)]
      mem := { s.mem with mboxReply := putCells [] 0 0 (byteList bytes) } }

/-- A barrier replies once every command taken before it has (R308). -/
def State.barrierDue (s : State) : State :=
  match s.dev.cmp.barrier with
  | some t => if s.dev.cmp.waits.isEmpty then
      ({ s with dev := { s.dev with cmp := { s.dev.cmp with barrier := none } } }).replyOne t 0 0 []
    else s
  | none => s

/-- A reply, and the barrier it may release. -/
def State.reply (s : State) (t : Ticket) (status detail : Nat) (body : List Nat) : State :=
  (s.replyOne t status detail body).barrierDue

def State.replyRef (s : State) (t : Ticket) (r : Ref) : State := s.reply t r.status r.detail [r.arg0, r.arg1]

/-- Reply OK to every waiting command that a test picks, in order; `body` gives each its body. -/
def State.replyWaits (s : State) (g : Wait → Bool) (status detail : Nat := 0) (body : Wait → List Nat := fun _ => []) : State :=
  let (go, stay) := s.dev.cmp.waits.partition fun w => g w.why
  let s := { s with dev := { s.dev with cmp := { s.dev.cmp with waits := stay } } }
  go.foldl (fun s w => s.reply w.t status detail (body w.why)) s

/-- A packet decoded from its bytes in memory order (Table 100): opcode and packet, or the status and detail of its first
failing check of steps 2 and 3 with the SEQ and OPCODE as read. -/
def decodePkt (issuer : Nat) (l : List Nat) : Except (Nat × Nat × Nat × Nat) (Nat × Pkt) :=
  let w := ofLeBytes (l.take 32)
  let plen := bitsOf w 64 16
  let op := bitsOf w 0 16
  let seq := bitsOf w 32 32
  let body := (l.drop 32).take plen
  if l.length < 32 + plen ∨ crcOf crc32c (l.take 28 ++ body) ≠ bitsOf w 224 32 then .error (stCheck, 0x0102, seq, op)
  else if bitsOf w 16 8 ≠ 1 then .error (stUnknown, 0x0103, seq, op)
  else .ok (op, ⟨issuer, seq, plen, bitAt w 24, bitAt w 25, bitsOf w 26 6 ≠ 0 ∨ bitsOf w 96 128 ≠ 0, bitsOf w 80 16,
    (List.range (plen / 8)).map fun i => ofLeBytes ((body.drop (8 * i)).take 8)⟩)

/-- The packet the mailbox holds: CMD_LEN bytes of CMP_MBOX_CMD. -/
def State.mboxBytes (s : State) : List Nat := nats (getCells s.mem.mboxCmd 0 (s.dev.get CMP_MBOX_CTL.CMD_LEN 0) 0)

/-- The compositor takes commands now: none while SAFE entry is in progress (R348) or a barrier stands (R308), none in
READY while the start-mode switch is still to be carried out (R324), and none of an issuer whose last command has not
replied (R305). DEDUCED (log 24, 42). -/
def State.takesFrom (s : State) (issuer : Nat) : Bool :=
  !s.dev.on FLT_STATUS.ENTERING 0 && !(s.ctl.state == .ready && s.dev.cmp.startMode.isSome) && s.dev.cmp.barrier.isNone && !s.dev.cmp.waits.any (fun w => w.t.issuer == issuer)

/-- Fields of a command descriptor (Table 88). -/
def cmdLen (w : Nat) : Nat := bitsOf w 64 16
def cmdType (w : Nat) : Nat := bitsOf w 80 3
def cmdReplyAddr (w : Nat) : Nat := bitsOf w 128 64
def cmdReplyLen (w : Nat) : Nat := bitsOf w 192 16

/-- What a visit to an issuer finds: nothing to take, a state in which the visit ends (a pass counted, a halt), or the
descriptor of a command that may be taken. -/
inductive Visit where
  | nothing
  | ends (d : Dev)
  | desc (w : Nat)

/-- A visit to the command queue of a function (R272, R273). -/
def State.visit (s : State) (f : Nat) : Visit :=
  let d := s.dev
  let r := ringCmd f
  if !s.ctl.serving || !d.pdOn 33 || d.on HPE_FN_STATUS.RESET_BUSY f || !d.ringRuns r || !s.takesFrom f then .nothing
  else match (d.ring r).ready with
    | [] => .nothing
    | w :: _ =>
      if !d.ringRuns (ringReply f) || d.ringFree (ringReply f) == 0 then .ends (d.inc (RING_CNT.COUNT 2) r)
      else if cmdType w ≠ 0 then .ends (d.ringHalt r rfType)
      else .desc w

/-- Issuers in the order of a round: the mailbox, then functions 0 to 63 (R305). -/
def issuerAt (n : Nat) : Nat := if n % 65 = 0 then 64 else n % 65 - 1
def roundPos (issuer : Nat) : Nat := if issuer = 64 then 0 else issuer + 1

/-- The issuers a round visits between one and another. -/
def between (last issuer : Nat) : List Nat :=
  (List.range ((roundPos issuer + 65 - roundPos last - 1) % 65)).map fun k => issuerAt (roundPos last + 1 + k)

/-- Visits to issuers that have nothing to take: passes are counted, rings halt. None where one of them has a command, whose
turn comes first. -/
def State.pass (s : State) : List Nat → Option State
  | [] => some s
  | i :: r =>
    if i = 64 then (if s.dev.get CMP_MBOX_STATUS.STATE 0 = 2 ∧ s.takesFrom 64 then none else s.pass r)
    else match s.visit i with
      | .nothing => s.pass r
      | .ends d => ({ s with dev := d } : State).pass r
      | .desc _ => none

/-- The round comes to an issuer: the state as it visits it (R273, R305). DEDUCED (log 42). -/
def State.turn (s : State) (issuer : Nat) : Option State := s.pass (between s.dev.cmp.last issuer)

/-- The round goes on from an issuer. -/
def Dev.visited (d : Dev) (issuer : Nat) : Dev := { d with cmp := { d.cmp with last := issuer } }

/-- Take the front descriptor of a command queue: it completes, and a reply slot is reserved (R272, R273). -/
def Dev.takeCmd (d : Dev) (f : Nat) : Dev :=
  let r := ringCmd f
  let x := d.ring r
  let d := ((d.setRing r { x with ready := x.ready.drop 1 }).nextUp r 1).inc (RING_CNT.COUNT 0) r
  let d := d.completeOne r
  let y := d.ring (ringReply f)
  (d.setRing (ringReply f) { y with reserved := y.reserved + 1 }).visited f

/-- The packet a command descriptor names is read (R273). -/
def Dev.askPkt (d : Dev) (f w : Nat) : Dev := d.hostAsk (ringCmd f) (dAddr w) (cmdLen w)

/-- The ticket of a command taken from a function. -/
def Dev.ticketOf (d : Dev) (f w seq opcode : Nat) : Ticket :=
  ⟨f, seq % 2 ^ 32, opcode, d.get RING_PROGRESS.NEXT (ringCmd f), cmdReplyAddr w, cmdReplyLen w, false⟩

/-- The mailbox holds a command that is taken now, of a length that is read (R313) or not. -/
def State.mboxTakes (s : State) (read : Bool) : Bool :=
  let n := s.dev.get CMP_MBOX_CTL.CMD_LEN 0
  s.dev.get CMP_MBOX_STATUS.STATE 0 == 2 && s.takesFrom 64 && (decide (32 ≤ n) && decide (n ≤ 8192)) == read

/-- Take a command of a given length and opcode, when its issuer offers it and its turn has come: the state after, and the
ticket; or only a state, when the visit takes nothing. DEDUCED (log 42). -/
def State.take (s : State) (opcode : Nat) (p : Pkt) : State × Option Ticket :=
  match s.turn p.issuer with
  | none => (s, none)
  | some s =>
    if p.issuer < 64 then
      match s.visit p.issuer with
      | .nothing => (s, none)
      | .ends d => ({ s with dev := d.visited p.issuer }, none)
      | .desc w =>
        if cmdLen w < 32 + p.plen ∨ 8192 < cmdLen w then (s, none)
        else ({ s with dev := (s.dev.askPkt p.issuer w).takeCmd p.issuer }, some (s.dev.ticketOf p.issuer w p.seq opcode))
    else if p.issuer = 64 ∧ s.mboxTakes true then
      match decodePkt 64 s.mboxBytes with
      | .ok (o, q) =>
        if o = opcode ∧ q = p then ({ s with dev := s.dev.visited 64 }, some ⟨64, p.seq % 2 ^ 32, opcode, 0, 0, 0, false⟩)
        else (s, none)
      | .error _ => (s, none)
    else (s, none)

/-- A complex reset or a commanded lock-up is due (R310): what is taken now is not executed and its reply is lost. -/
def Dev.ending (d : Dev) : Bool := d.cmp.resetDue.isSome || d.desk.trigs.contains 2

def State.cx (s : State) : Cx := ⟨s.ctl, s.mem, match s.ctl.state with
  | .running | .safe => (s.ctl.mode.map Mode.code).getD 15
  | _ => 15, false⟩

/-- The complex once a command's effect is committed. -/
def CtlOp.apply (o : CtlOp) (c : Ctl) : Ctl :=
  match o with
  | .keep => c
  | .mode m => { c with mode := some m, state := .running, switching := none }
  | .wakes m => { c with switching := some m }

/-- Commit what a command leaves, and reply or let it wait (R306). Under DRY_RUN nothing is committed. -/
def State.commit (s : State) (p : Pkt) (t : Ticket) (x : Done) : State :=
  if p.dryRun then s.reply t 0 0 x.body
  else
    let s := { s with
      ctl := x.ctl.apply s.ctl
      dev := x.dev
      mem := { s.mem with flash := flashDo s.mem.flash x.flash } }
    let s := if x.release.isEmpty then s else s.replyWaits x.release.contains
    match x.wait with
    | none => s.reply t 0 0 x.body
    | some w => { s with dev := { s.dev with cmp := { s.dev.cmp with waits := s.dev.cmp.waits ++ [⟨t, w⟩] } } }

/-- A refusal of a command judged: a MODE_SET refused is counted (R338), one that was only held off is not. -/
def State.refuse (s : State) (k : KSpec) (t : Ticket) (r : Ref) : State :=
  let s := if k.opcode = 0x0201 ∧ r.status ≠ stBusy then { s with dev := s.dev.inc CMP_MODE_REFUSED.COUNT 0 } else s
  s.replyRef t r

/-- Where a complex reset or a lock-up now follows, the reply of the function's command that asked for it is published before
(R310). -/
def State.lastReply (s : State) (t : Ticket) : State :=
  let r := ringReply t.issuer
  if s.dev.ending ∧ t.issuer < 64 ∧ s.dev.ringServes r ∧ (s.dev.ring r).unpub ≠ 0 then { s with dev := s.dev.publish r } else s

/-- A command from its take to its reply or its wait. -/
def State.execute (s : State) (k : KSpec) (p : Pkt) : State :=
  match s.take k.opcode p with
  | (s, none) => s
  | (s, some t) =>
    if s.dev.ending then s
    else match k.preCheck s.cx p s.dev with
      | some r => s.refuse k t r
      | none =>
        let s := if p.dryRun then { s with dev := s.dev.inc CMP_DRY_RUNS.COUNT 0 } else s
        match k.judge s.cx p s.dev with
        | .error r => s.refuse k t r
        | .ok x => (s.commit p t x).lastReply t

/-- The meaning of a Kiland command row. -/
def State.kiland (s : State) (k : KSpec) (p : Pkt) : Out := s.core fun s => s.execute k p

/-- KIL_LEN (R273, R304 step 1): the packet is not read. -/
def State.lenRefused (s : State) (issuer : Nat) : State :=
  match s.turn issuer with
  | none => s
  | some s =>
    if issuer < 64 then
      match s.visit issuer with
      | .nothing => s
      | .ends d => { s with dev := d.visited issuer }
      | .desc w =>
        if 32 ≤ cmdLen w ∧ cmdLen w ≤ 8192 then s
        else
          let t := s.dev.ticketOf issuer w 0 0
          let d := (s.dev.takeCmd issuer).inc (RING_CNT.COUNT 1) (ringCmd issuer)
          let s := { s with dev := d }
          if d.ending then s else s.replyRef t (refOf stRange 0x0101)
    else if s.mboxTakes false ∧ !s.dev.ending then
      ({ s with dev := s.dev.visited 64 } : State).replyRef ⟨64, 0, 0, 0, 0, 0, false⟩ (refOf stRange 0x0101)
    else s

/-- The refusal of a packet by steps 2 to 4, with its SEQ and OPCODE as read; `listed` are the opcodes of Table 107. -/
def packetRefusal (listed : List Nat) (l : List Nat) : Option (Ref × Nat × Nat) :=
  match decodePkt 0 l with
  | .error (st, det, seq, op) => some (refOf st det, seq, op)
  | .ok (op, p) => if op ∈ listed then none else some (refOf stUnknown 0x0104, p.seq, op)

/-- COMMAND_PACKET_REFUSED (R304 steps 2 to 4): the bytes a function's descriptor names, or those of the mailbox. -/
def State.packetRefused (s : State) (listed : List Nat) (issuer : Nat) (bytes : List Byte) : State :=
  match s.turn issuer with
  | none => s
  | some s =>
    if issuer < 64 then
      match s.visit issuer with
      | .nothing => s
      | .ends d => { s with dev := d.visited issuer }
      | .desc w =>
        if cmdLen w ≠ bytes.length ∨ cmdLen w < 32 ∨ 8192 < cmdLen w then s
        else match packetRefusal listed (nats bytes) with
          | none => s
          | some (r, seq, op) =>
            let t := s.dev.ticketOf issuer w seq op
            let s := { s with dev := (s.dev.askPkt issuer w).takeCmd issuer }
            if s.dev.ending then s else s.replyRef t r
    else if s.mboxTakes true ∧ !s.dev.ending then
      match packetRefusal listed s.mboxBytes with
      | none => s
      | some (r, seq, op) => ({ s with dev := s.dev.visited 64 } : State).replyRef ⟨64, seq, op, 0, 0, 0, false⟩ r
    else s

/-- A row of Table 107 with a fixed number of parameter words. -/
def kspec (opcode n : Nat) (tk : TK) (masks : List Nat) (legal : Legal) (run : Cx → Pkt → Dev → Except Ref Done)
    (dry : Bool := false) (admits : Nat := 0) (clear : Bool := false) : KSpec :=
  ⟨opcode, fun k => k == n, legal == .query, clear, dry, tk, masks, 0, legal, admits, run⟩

/-- An RC read of a field (R12, R30): a field with its source in an eight domain is read from its mirror, which is taken
off the source; any other is cleared. DEDUCED (log 13). -/
def Dev.rcClear (d : Dev) (F : Fld) (i : Nat) : Dev :=
  if mirrored F then { d.put F i (d.get F i - d.mirror F i) with mir := fldPut d.mir F i 0 } else d.put F i 0

/-- The word of a register, its RC fields cleared where `clear` asks for it. -/
def Dev.readReg (c : Ctl) (d : Dev) (clear : Bool) (p : Place) (off i : Nat) : Nat × Dev :=
  let l := flds p off
  (d.viewWord c l i, if clear then (l.filter fun F => F.acc == .rc).foldl (fun d F => d.rcClear F i) d else d)

/-- Read a list of registers in order. -/
def Dev.readRegs (c : Ctl) (clear : Bool) : List (Place × Nat × Nat) → Dev → List Nat × Dev
  | [], d => ([], d)
  | (p, off, i) :: r, d =>
    let (w, d) := d.readReg c clear p off i
    let (l, d) := d.readRegs c clear r
    (w :: l, d)

/-- A query that reads registers (R301, R302). -/
def doneRead (c : Cx) (p : Pkt) (d : Dev) (l : List (Place × Nat × Nat)) : Done :=
  let (b, d) := d.readRegs c.ctl p.clear l
  done d b

/-- Offsets of the registers of a place within a range, rising. -/
def offsIn (p : Place) (lo hi : Nat) : List Nat := ((regsAt p).map (·.off)).filter fun o => decide (lo ≤ o) && decide (o ≤ hi)

/-- The configuration fields of a register. -/
def cfgFlds (p : Place) (off : Nat) : List Fld := (flds p off).filter (·.cfg)

/-- Under the quiesce of SERVICE a port's RX_EN and TX_EN read 0 and the values they had are held (R334). -/
def Dev.holdPort (d : Dev) (p : Nat) : Dev :=
  if d.cmp.quiesce ∧ d.cmp.heldEn.get p 15 = 15 then
    let v := d.get MAC_PORT_CFG.RX_EN p + 2 * d.get MAC_PORT_CFG.TX_EN p
    { d.puts p [(MAC_PORT_CFG.RX_EN, 0), (MAC_PORT_CFG.TX_EN, 0)] with
      cmp := { d.cmp with heldEn := d.cmp.heldEn.set p v 15 } }
  else d

/-- Everything derived from a port's configuration follows it (R107, R126, R151, R153, R180, R208, R217). -/
def Dev.derivePort (d : Dev) (p : Nat) : Dev :=
  let d := d.holdPort p
  let d := if d.on MAC_PORT_CFG.RX_EN p then d else d.rxStop p
  let d := (d.limitSet p).macSync p
  let d := if p < 1024 then (d.galleyDerive p).gateRefresh p else d
  (d.coxDerive p).coxRefresh p

/-- Everything derived, over every port. -/
def Dev.deriveAll (d : Dev) : Dev := (d.each d.allPorts Dev.derivePort).galleyTotals

end Sys2Proof.Machine
end

