-- ==== Sys2Proof/Machine/CmdLane.lean ====
section
/-!
DEFINITION. The commands of groups 0x01, 0x03 and 0x04: sessions and resets (R310, R312, R36 to R38), lanes and launch
(R45, R53, R77, R98 to R104), ports and their MACs (R17, R18, R25, R132).
-/
namespace Sys2Proof.Machine
open F

/-- SESSION_INFO (R312). -/
def kSessionInfo : KSpec := kspec 0x0101 0 .none [] .query fun c p d =>
  .ok (done d [1 + p.issuer % 128 * 2 ^ 8 + c.ctl.state.code * 2 ^ 16 + c.ctl.modeCode * 2 ^ 20 + Config.fwVersion % 2 ^ 32 * 2 ^ 32,
    Config.serial % 2 ^ 64, 8160 + d.get CMP_IMG_STATUS.GENERATION 0 * 2 ^ 32, d.get CMP_IMG_STATUS.SOURCE 0])

/-- STATE_GET. -/
def kStateGet : KSpec := kspec 0x0102 0 .none [] .query fun c p d => .ok (doneRead c p d [(.glob, 0x3200000, 0)])

/-- CPX_RESET (R310). -/
def kCpxReset : KSpec := kspec 0x0103 0 .none [] .control fun _ _ d =>
  if d.resetting then .error (refOf stState 0x010A)
  else .ok (done { d with cmp := { d.cmp with resetDue := some 2 } })

/-- BANK_RESET, EIGHT_RESET, PORT_RESET (R36 to R38). -/
def resetRun (n : Nat) (g : Nat → Scope) : Cx → Pkt → Dev → Except Ref Done := fun _ p d =>
  if n ≤ p.target then .error refRange else .ok (doneWait (d.resetAsk (g p.target)) (.reset (g p.target)))
def kBankReset : KSpec := kspec 0x0104 0 .bank [] .control (resetRun 16 .bank)
def kEightReset : KSpec := kspec 0x0105 0 .eight [] .control (resetRun 128 .eight)
def kPortReset : KSpec := kspec 0x0405 0 .port [] .control fun c p d =>
  if d.isPort p.target then resetRun 1032 .port c p d else .error refRange

/-- The launch status image of a port's first lane, as a refusal carries it (R303). -/
def Dev.launchRef (c : Ctl) (d : Dev) (n : Nat) : Ref := refObj (d.word c .launch 8 n) n

/-- A launch command of a lane port. -/
def launchRun (g : Cx → Pkt → Dev → Except Ref Done) : Cx → Pkt → Dev → Except Ref Done := fun c p d =>
  if d.isLanePort p.target then g c p d else .error refRange

/-- LANE_LAUNCH (R104): in any mode but PROOF. -/
def kLaneLaunch : KSpec := kspec 0x0301 0 .port [] .control (launchRun fun c p d =>
  if c.mode = 5 then .error c.wrongState else .ok (done (d.portLaunch p.target)))

/-- LANE_STOP (R104, R117): a frame in reception ends as aborted. -/
def kLaneStop : KSpec := kspec 0x0302 0 .port [] .control (launchRun fun _ p d =>
  .ok (done ((d.rxAbort p.target).portStop p.target)))

/-- LANE_EASY (R98): transmit EASY entry starts. -/
def kLaneEasy : KSpec := kspec 0x0303 0 .port [] .lanes (launchRun fun c p d =>
  let q := p.target
  let r := d.port q
  let w1 := ((r.words[1]?).join).getD 0
  if c.mode ≠ 4 then .error c.wrongState
  else if d.laneState q ≠ stActive ∨ d.get PCS_STATUS.PROFILE_LIVE q ≠ 2 ∨ d.on LN_EASY.TX_EASY q ∨ r.txWake ∨ r.entering ∨
      !bitAt w1 3 then .error (d.launchRef c.ctl q)
  else .ok (doneWait (d.setPort q { r with entering := true, coxHold := true }) (.easy q)))

/-- LANE_WAKE (R100, R101): it cancels an entry in progress or wakes the transmit direction. -/
def kLaneWake : KSpec := kspec 0x0304 0 .port [] .lanes (launchRun fun c p d =>
  let q := p.target
  let r := d.port q
  if r.entering then
    .ok { done (d.setPort q { r with entering := false, coxHold := false }) with release := [.easy q] }
  else if d.on LN_EASY.TX_EASY q then .ok (done (d.wakeTx q))
  else .error (d.launchRef c.ctl q))

/-- The fields LANE_LAUNCH_CFG writes (Table 37). -/
def launchCfg : List Fld := [LN_LAUNCH_CTL.NEG, LN_LAUNCH_CTL.DETECT_COUNT, LN_LAUNCH_CTL.PRS_RESTART, LN_LAUNCH_CTL.LAUNCH_RETRY,
  LN_LAUNCH_CTL.IEEE_PRE, LN_LAUNCH_CTL.IEEE_POST, LN_LAUNCH_CTL.WAKE_WAIT]

/-- LANE_LAUNCH_CFG (R104): with the port OFF or STALLED. -/
def kLaneLaunchCfg : KSpec := kspec 0x0305 1 .port [imageMask .launch 0] .lanes (launchRun fun c p d =>
  let w := p.word 0
  let st := d.laneState p.target
  if !fieldsOk launchCfg w || decide (40 < LN_LAUNCH_CTL.IEEE_PRE.of w + LN_LAUNCH_CTL.IEEE_POST.of w) then .error refRange
  else if !c.image && !(st == stOff || st == stStalled) then .error (d.launchRef c.ctl p.target)
  else .ok (doneEdit d (imageEdits launchCfg p.target w)))

/-- A command of a lane in the committed layout. -/
def laneRun (g : Cx → Pkt → Dev → Except Ref Done) : Cx → Pkt → Dev → Except Ref Done := fun c p d =>
  if p.target < 1024 ∧ (d.portOf p.target).isSome then g c p d else .error refRange

/-- The live filter values that follow the configuration (R50, R51, R53): PEAK only where it is not adapted. -/
def Dev.eqLive (d : Dev) (n : Nat) : Dev :=
  let d := d.puts n [(LN_EQ_LIVE.POLE, d.get LN_RX_EQ.POLE n), (LN_EQ_LIVE.DCGAIN, d.get LN_RX_EQ.DCGAIN n),
    (LN_EQ_LIVE.AMP, d.get LN_TX_EQ.AMP n)]
  if d.on LN_RX_EQ.ADAPT n then d else d.put LN_EQ_LIVE.PEAK n (d.get LN_RX_EQ.PEAK n)

/-- Changed transmit taps reach the filter towards a P7 (R53). -/
def Dev.tapsFollow (d old : Dev) (n : Nat) : Dev :=
  if d.get LN_TX_EQ.C_PRE n = old.get LN_TX_EQ.C_PRE n ∧ d.get LN_TX_EQ.C_POST n = old.get LN_TX_EQ.C_POST n then d
  else d.firLive n

/-- LANE_EQ_SET (R50, R53). -/
def kLaneEqSet : KSpec := kspec 0x0306 2 .lane [imageMask .lane 0x10, imageMask .lane 0x18] .lanes (laneRun fun _ p d =>
  let t := p.word 0
  let r := p.word 1
  if !fieldsOk (cfgFlds .lane 0x10) t || !fieldsOk (cfgFlds .lane 0x18) r ||
      decide (40 < LN_TX_EQ.C_PRE.of t + LN_TX_EQ.C_POST.of t) then .error refRange
  else .ok (doneEdit d (imageEdits (cfgFlds .lane 0x10) p.target t ++ imageEdits (cfgFlds .lane 0x18) p.target r)
    fun e => (e.eqLive p.target).tapsFollow d p.target))

/-- LANE_POLARITY (R45): with the lane OFF. DEDUCED (log 44). -/
def kLanePolarity : KSpec := kspec 0x0307 1 .lane [imageMask .lane 0] .lanes (laneRun fun c p d =>
  if !c.image && !(d.laneState p.target == stOff) then .error (d.launchRef c.ctl p.target)
  else .ok (doneEdit d (imageEdits [LN_CTL.TX_INVERT, LN_CTL.RX_INVERT] p.target (p.word 0))))

/-- What follows the test fields of a lane (R75, R76): a changed checker pattern starts the checker afresh, a changed
generator pattern its generator, and a parallel loopback idles the pins or gives them back. -/
def Dev.checkerRestart (d : Dev) (n old : Nat) : Dev :=
  if d.get LN_PAT_CTL.RX_PAT n = old then d
  else (d.put LN_PAT_CTL.CHK_LOCK n 0).setLane n { d.lane n with chk := [], hits := [] }
def Dev.genRestart (d : Dev) (n old : Nat) : Dev :=
  if d.get LN_PAT_CTL.TX_PAT n = old then d else d.setLane n { d.lane n with gen := 0 }
def Dev.pinsFollow (d : Dev) (n old : Nat) : Dev :=
  let now := d.get LN_CTL.LOOPBACK n
  if (now == 1) == (old == 1) then d else d.emit (.pins n (now != 1))
def Dev.testFollow (d old : Dev) (n : Nat) : Dev :=
  ((d.checkerRestart n (old.get LN_PAT_CTL.RX_PAT n)).genRestart n (old.get LN_PAT_CTL.TX_PAT n)).pinsFollow n
    (old.get LN_CTL.LOOPBACK n)

/-- LANE_PATTERN (R75 to R77): in PROOF. -/
def kLanePattern : KSpec := kspec 0x0308 4 .lane
    [imageMask .lane 0x38, imageMask .lane 0x40, imageMask .lane 0, imageMask .pcs 0] .lanes (laneRun fun c p d =>
  let n := p.target
  let pat := p.word 0
  let far := PCS_CTL.FAR_LOOP.of (p.word 3)
  let first := d.isLanePort n
  if !fieldsOk [LN_PAT_CTL.TX_PAT, LN_PAT_CTL.RX_PAT] pat || !fieldsOk [LN_CTL.LOOPBACK] (p.word 2) ||
      (far == 1 && !first) then .error refRange
  else if c.mode ≠ 5 then .error c.wrongState
  else .ok (doneEdit d (imageEdits [LN_PAT_CTL.TX_PAT, LN_PAT_CTL.RX_PAT] n pat ++ [(LN_PAT_USER.USER, n, p.word 1)] ++
    imageEdits [LN_CTL.LOOPBACK] n (p.word 2) ++ (if first then [(PCS_CTL.FAR_LOOP, n, far)] else []))
    fun e => e.testFollow d n))

/-- Eight 32-bit words as four of 64. -/
def pairWords : List Nat → List Nat
  | a :: b :: r => (a % 2 ^ 32 + b % 2 ^ 32 * 2 ^ 32) :: pairWords r
  | _ => []

/-- LANE_ROSTER_GET (R104). -/
def kLaneRosterGet : KSpec := kspec 0x0309 0 .port [] .query (launchRun fun c p d =>
  .ok (done d (pairWords (d.localWords p.target) ++ pairWords ((d.port p.target).words.map (·.getD 0)) ++
    (d.portLanes p.target).map fun n => d.word c.ctl .launch 8 n)))

/-- The ports a layout value describes, first position and width code, or none where it breaks R3. -/
def layoutPorts (v : Nat) : Nat → Nat → Option (List (Nat × Nat))
  | 0, i => if 8 ≤ i then some [] else none
  | k + 1, i =>
    if 8 ≤ i then some []
    else
      let nib := bitsOf v (4 * i) 4
      let w := nib % 4
      let n := 2 ^ w
      if nib = 0 then layoutPorts v k (i + 1)
      else if bitAt nib 3 && i % n == 0 && decide (i + n ≤ 8) && (List.range (n - 1)).all (fun j => bitsOf v (4 * (i + j + 1)) 4 == w)
      then (layoutPorts v k (i + n)).map ((i, w) :: ·)
      else none

/-- The ports of the committed layout of an eight. -/
def Dev.layoutNow (d : Dev) (e : Nat) : List (Nat × Nat) :=
  ((List.range 8).filter fun i => d.get (LN_EIGHT_PORTMAP.FIRST i) e == 1).map fun i => (i, d.get (LN_EIGHT_PORTMAP.WIDTH i) e)

/-- What a layout change does beyond the map (R18, R176, R203): removed ports lose their lists and disable the contexts
bound to them; created and resized ports start from OFF, and a created port's gates from NONE. -/
def Dev.layoutAfter (d : Dev) (e v : Nat) (old new : List (Nat × Nat)) : Dev :=
  let gone := (old.filter fun o => !(new.any fun n => n.1 == o.1)).map fun o => e * 8 + o.1
  let d := gone.foldl (fun d p => (((d.partnersOf p).foldl Dev.ptnDisable d).gateDrop p).setPort p PortSt.reset) d
  let d := (d.emit (.layout e v)).pllCheck e
  (new.filter fun n => !old.contains n).foldl (fun d n =>
    let p := e * 8 + n.1
    let d := if old.any fun o => o.1 == n.1 then d else d.put X.GATE_FRESH p 1
    ((d.setPort p PortSt.reset).derivePort p).tryLaunch p) d

/-- PORT_LAYOUT (R17, R18, R176). -/
def kPortLayout : KSpec := kspec 0x0401 1 .eight [0xBBBBBBBB] .lanes (dry := true) (admits := 2) fun c p d =>
  let e := p.target
  let v := p.word 0
  match (if e < 128 then layoutPorts v 8 0 else none) with
  | none => .error refRange
  | some new =>
    let old := d.layoutNow e
    let touched := (old.filter fun o => !new.contains o) ++ new.filter fun n => !old.contains n
    let lanes := touched.flatMap fun t => (List.range (2 ^ t.2)).map (e * 8 + t.1 + ·)
    match (if c.image then none else lanes.find? fun n => d.laneState n != stOff) with
    | some n => .error (d.launchRef c.ctl n)
    | none =>
      let lost := (old.filter fun o => !new.contains o).flatMap fun o => d.partnersOf (e * 8 + o.1)
      match lost.find? fun q => d.ptnDepth q != 0 with
      | some q => .error (refObj (d.word c.ctl .ptn 0x38 q) q 0x060A)
      | none =>
        .ok (doneEdit d (((List.range 8).flatMap fun i => [(LN_EIGHT_PORTMAP.WIDTH i, e, bitsOf v (4 * i) 2),
          (LN_EIGHT_PORTMAP.FIRST i, e, bitsOf v (4 * i + 3) 1)])) fun d => d.layoutAfter e v old new)

/-- A command of any configured port, recirculation ports included. -/
def portRun (g : Cx → Pkt → Dev → Except Ref Done) : Cx → Pkt → Dev → Except Ref Done := fun c p d =>
  if d.isPort p.target then g c p d else .error refRange

/-- The MAC configuration fields a port has (R132). -/
def macCfg (p : Nat) : List Fld := (cfgFlds .mac 0).filter fun F => !notOnRecirc F p

/-- PORT_MAC_CFG (R132). DEDUCED (log 44). -/
def kPortMacCfg : KSpec := kspec 0x0402 1 .port [imageMask .mac 0] .lanes (dry := true) (admits := 2) (portRun fun _ p d =>
  let w := p.word 0
  if !fieldsOk (macCfg p.target) w ||
      (decide (p.target < 1024) && MAC_PORT_CFG.PAUSE_EN.of w == 1 && MAC_PORT_CFG.PFC_EN.of w == 1) then .error refRange
  else .ok (doneEdit d (imageEdits (macCfg p.target) p.target w) fun e =>
    (e.pauseModes d p.target).derivePort p.target))

/-- PORT_SA_SET (R132). -/
def kPortSaSet : KSpec := kspec 0x0403 1 .port [imageMask .mac 8] .lanes (portRun fun _ p d =>
  .ok (doneEdit d (imageEdits (cfgFlds .mac 8) p.target (p.word 0))))

/-- PORT_DEAL (R25): bank 16 names the recirculation ports. -/
def kPortDeal : KSpec := kspec 0x0404 1 .bank [imageMask .bank 0x10] .lanes fun _ p d =>
  let v := MAC_BANK_DEAL.SLICE_EN.of (p.word 0)
  if 16 < p.target ∨ v = 0 then .error refRange
  else if p.target = 16 then .ok (doneEdit d [(MAC_GLOBAL_DEAL.SLICE_EN, 0, v)])
  else .ok (doneEdit d [(MAC_BANK_DEAL.SLICE_EN, p.target, v)])

/-- PORT_COUNTERS_GET (R132). -/
def kPortCountersGet : KSpec := kspec 0x0406 0 .port [] .query (clear := true) (portRun fun c p d =>
  .ok (doneRead c p d ((.mac, 0x10, p.target) :: (offsIn .mac 0x100 0x2B8).map fun o => (.mac, o, p.target))))

def execSessionInfo (p : Pkt) (s : State) : Out := s.kiland kSessionInfo p
def execStateGet (p : Pkt) (s : State) : Out := s.kiland kStateGet p
def execCpxReset (p : Pkt) (s : State) : Out := s.kiland kCpxReset p
def execBankReset (p : Pkt) (s : State) : Out := s.kiland kBankReset p
def execEightReset (p : Pkt) (s : State) : Out := s.kiland kEightReset p
def execPortReset (p : Pkt) (s : State) : Out := s.kiland kPortReset p
def execLaneLaunch (p : Pkt) (s : State) : Out := s.kiland kLaneLaunch p
def execLaneStop (p : Pkt) (s : State) : Out := s.kiland kLaneStop p
def execLaneEasy (p : Pkt) (s : State) : Out := s.kiland kLaneEasy p
def execLaneWake (p : Pkt) (s : State) : Out := s.kiland kLaneWake p
def execLaneLaunchCfg (p : Pkt) (s : State) : Out := s.kiland kLaneLaunchCfg p
def execLaneEqSet (p : Pkt) (s : State) : Out := s.kiland kLaneEqSet p
def execLanePolarity (p : Pkt) (s : State) : Out := s.kiland kLanePolarity p
def execLanePattern (p : Pkt) (s : State) : Out := s.kiland kLanePattern p
def execLaneRosterGet (p : Pkt) (s : State) : Out := s.kiland kLaneRosterGet p
def execPortLayout (p : Pkt) (s : State) : Out := s.kiland kPortLayout p
def execPortMacCfg (p : Pkt) (s : State) : Out := s.kiland kPortMacCfg p
def execPortSaSet (p : Pkt) (s : State) : Out := s.kiland kPortSaSet p
def execPortDeal (p : Pkt) (s : State) : Out := s.kiland kPortDeal p
def execPortCountersGet (p : Pkt) (s : State) : Out := s.kiland kPortCountersGet p

end Sys2Proof.Machine
end

