-- ==== Sys2Proof/Machine/CmdGalley.lean ====
section
/-!
DEFINITION. The galley commands of group 0x05 (Table 53, R151 to R156).
-/
namespace Sys2Proof.Machine
open F

/-- GAL_PORT_CFG (R151). -/
def kGalPortCfg : KSpec := kspec 0x0501 1 .port [imageMask .galport 0] .lanes (dry := true) (admits := 2)
  (launchRun fun _ p d =>
    let w := p.word 0
    if !fieldsOk (cfgFlds .galport 0) w then .error refRange
    else .ok (doneEdit d (imageEdits (cfgFlds .galport 0) p.target w) fun d => d.derivePort p.target))

/-- GAL_CLASS_CFG (R151 to R153). -/
def kGalClassCfg : KSpec := kspec 0x0502 3 .port [selA, imageMask .galclass 0, imageMask .galclass 8] .lanes
  (dry := true) (admits := 2) (launchRun fun c p d =>
    let k := p.word 0
    let pc := p.target * 16 + k
    let cfg := p.word 1
    let core := p.word 2
    if 16 ≤ k ∨ !fieldsOk (cfgFlds .galclass 0) cfg ∨ !fieldsOk (cfgFlds .galclass 8) core then .error refRange
    else if d.fcMode pc = fcGalley ∧ GAL_PC_CFG.FC_MODE.of cfg ≠ fcGalley ∧ d.get GAL_PC_STATUS.OCCUPANCY pc ≠ 0 then
      .error (refObj (d.word c.ctl .galclass 0x28 pc) p.target)
    else .ok (doneEdit d (imageEdits (cfgFlds .galclass 0) pc cfg ++ imageEdits (cfgFlds .galclass 8) pc core)
      fun d => (d.derivePort p.target).galleyTotals))

/-- GAL_MAP (R149, R153). -/
def kGalMap : KSpec := kspec 0x0503 2 .port [imageMask .galport 8, imageMask .galport 0x10] .lanes
  (dry := true) (admits := 2) (launchRun fun _ p d =>
    .ok (doneEdit d (imageEdits (cfgFlds .galport 8) p.target (p.word 0) ++
      imageEdits (cfgFlds .galport 0x10) p.target (p.word 1)) fun d => (d.fcRemap p.target).derivePort p.target))

/-- GAL_HEADROOM (R145, R156): only the values the selector names are read from the images. -/
def kGalHeadroom : KSpec := kspec 0x0504 3 .port [selAB, imageMask .galport 0, imageMask .mac 0] .query
  (launchRun fun _ p d =>
    let use := p.word 0 % 2 ^ 16
    let k := p.word 0 / 2 ^ 16
    let fc := p.word 1
    let mac := p.word 2
    let f := if bitAt use 0 then GAL_FC_CFG.FIBRE_M.of fc else d.get GAL_FC_CFG.FIBRE_M p.target
    let m := if bitAt use 1 then MAC_PORT_CFG.MAX_FRAME.of mac else d.get MAC_PORT_CFG.MAX_FRAME p.target
    let r := if bitAt use 2 then GAL_FC_CFG.PART_RESP_NS.of fc else d.get GAL_FC_CFG.PART_RESP_NS p.target
    if 8 ≤ use ∨ 16 ≤ k ∨ (bitAt use 0 && !fieldsOk [GAL_FC_CFG.FIBRE_M] fc) ∨
        (bitAt use 1 && !fieldsOk [MAC_PORT_CFG.MAX_FRAME] mac) then .error refRange
    else
      let h := headroomOf ((d.portWidth p.target).getD 1) f m (d.get MAC_PORT_CFG.TX_IPG p.target) r
      .ok (done d [h % 2 ^ 32, ceilDiv (h + 1024 * d.get GAL_PC_CFG.XON_GAP_KIB (p.target * 16 + k)) extBytes]))

/-- GAL_STATUS_GET. -/
def kGalStatusGet : KSpec := kspec 0x0505 0 .none [] .query fun c p d =>
  .ok (doneRead c p d ([(.glob, 0x2000008, 0), (.glob, 0x2000018, 0)] ++ (List.range 64).map fun i => (.galch, 0, i)))

/-- GAL_SCRUB_CFG (R143, R144). SERVICE is an RW field that Table 53 does not list: its bit is ignored (R157, R301). -/
def kGalScrubCfg : KSpec := kspec 0x0506 2 .none [imageMask .glob 0x2000010, imageMask .glob 0x2000000 ||| 1] .lanes fun _ p d =>
  let ctl := [GAL_CTL.CE_THRESH, GAL_CTL.AGE_MAX]
  if !fieldsOk (cfgFlds .glob 0x2000010) (p.word 0) || !fieldsOk ctl (p.word 1) then .error refRange
  else .ok (doneEdit d (imageEdits (cfgFlds .glob 0x2000010) 0 (p.word 0) ++ imageEdits ctl 0 (p.word 1)))

/-- GAL_FLUSH (R155). -/
def kGalFlush : KSpec := kspec 0x0507 1 .port [selA] .lanes (launchRun fun c p d =>
  let k := p.word 0
  if 16 < k then .error refRange
  else if c.mode ≠ 6 ∧ d.laneState p.target = stActive then .error (d.launchRef c.ctl p.target)
  else .ok (done (d.each (if k = 16 then classesOf p.target else [p.target * 16 + k]) Dev.galFlush)))

/-- GAL_COUNTERS_GET. -/
def kGalCountersGet : KSpec := kspec 0x0508 0 .port [] .query (clear := true) (launchRun fun c p d =>
  .ok (doneRead c p d ((offsIn .galport 0x20 0xF8).map (fun o => (.galport, o, p.target)) ++
    (classesOf p.target).flatMap fun pc => [(.galclass, 0x28, pc), (.galclass, 0x38, pc)])))

def execGalPortCfg (p : Pkt) (s : State) : Out := s.kiland kGalPortCfg p
def execGalClassCfg (p : Pkt) (s : State) : Out := s.kiland kGalClassCfg p
def execGalMap (p : Pkt) (s : State) : Out := s.kiland kGalMap p
def execGalHeadroom (p : Pkt) (s : State) : Out := s.kiland kGalHeadroom p
def execGalStatusGet (p : Pkt) (s : State) : Out := s.kiland kGalStatusGet p
def execGalScrubCfg (p : Pkt) (s : State) : Out := s.kiland kGalScrubCfg p
def execGalFlush (p : Pkt) (s : State) : Out := s.kiland kGalFlush p
def execGalCountersGet (p : Pkt) (s : State) : Out := s.kiland kGalCountersGet p

end Sys2Proof.Machine
end

