-- ==== Sys2Proof/Machine/CmdCox.lean ====
section
/-!
DEFINITION. The cox and partner commands of group 0x06 (Table 62a, R170 to R180, R182, R185).
-/
namespace Sys2Proof.Machine
open F

/-- COX_PORT_SHAPE (R173): a new BURST clips the bucket at once, a new rate applies at its next refill. -/
def kCoxPortShape : KSpec := kspec 0x0601 1 .port [imageMask .coxport 0] .lanes (dry := true) (admits := 1)
  (portRun fun _ p d =>
    let w := p.word 0
    if !fieldsOk (cfgFlds .coxport 0) w then .error refRange
    else .ok (doneEdit d (imageEdits (cfgFlds .coxport 0) p.target w) fun d =>
      ((d.bucketClip (bkPort p.target) (d.get COX_PORT_SHAPER.BURST p.target)).coxDerive p.target).coxRefresh p.target))

/-- The configuration fields of a cox class block. -/
def coxClassEdits (pc : Nat) (p : Pkt) : List Edit :=
  imageEdits (cfgFlds .coxclass 0) pc (p.word 1) ++ imageEdits (cfgFlds .coxclass 8) pc (p.word 2) ++
    imageEdits (cfgFlds .coxclass 0x10) pc (p.word 3)

/-- COX_CLASS_CFG (R170, R173). -/
def kCoxClassCfg : KSpec := kspec 0x0602 4 .port
  [selA, imageMask .coxclass 0, imageMask .coxclass 8, imageMask .coxclass 0x10] .lanes (dry := true) (admits := 1)
  (portRun fun _ p d =>
    let k := p.word 0
    let pc := p.target * 16 + k
    if 16 ≤ k ∨ !fieldsOk (cfgFlds .coxclass 0) (p.word 1) ∨ !fieldsOk (cfgFlds .coxclass 8) (p.word 2) then .error refRange
    else .ok (doneEdit d (coxClassEdits pc p) fun d =>
      (d.bucketClip (bkClass pc) (d.get COX_CLASS_SHAPER.BURST pc)).derivePort p.target))

/-- A command of a partner context. -/
def ptnRun (g : Cx → Pkt → Dev → Except Ref Done) : Cx → Pkt → Dev → Except Ref Done := fun c p d =>
  if p.target < 16384 then g c p d else .error refRange

/-- Enabling the policer fills both buckets at their next refill (R179). DEDUCED (log 48). -/
def Dev.policerFill (d : Dev) (q old : Nat) : Dev :=
  if old = 0 ∧ d.on PTN_CFG.POLICE_EN q then
    (d.setBucket (bkTc q) { d.bucket (bkTc q) with fill := true }).setBucket (bkTp q) { d.bucket (bkTp q) with fill := true }
  else d

/-- A context bound afresh: its binding is presented, and its empty queue's tags start as those of a waking member (R160,
R176). DEDUCED (log 48). -/
def Dev.ptnRebind (d : Dev) (q old : Nat) : Dev :=
  let k := d.ptnKey q
  let d := d.presentPtn q
  let d := if k ≠ old ∧ (d.member old).frames = 0 then d.setMember old Member.reset else d
  let d := if (d.member k).frames = 0 then
      let v := (d.cls (memPc k)).v
      d.setMember k { d.member k with s := v, f := v, elig := false }
    else d
  let d := if d.isPort (memPc old / 16) then d.derivePort (memPc old / 16) else d
  if d.isPort (memPc k / 16) then d.derivePort (memPc k / 16) else d

/-- The fields PTN_SET writes. -/
def ptnEdits (p : Pkt) : List Edit :=
  imageEdits (cfgFlds .ptn 0) p.target (p.word 0) ++ imageEdits (cfgFlds .ptn 8) p.target (p.word 1) ++
    imageEdits (cfgFlds .ptn 0x10) p.target (p.word 2)

/-- What PTN_SET does beyond the fields it writes: `old` the member's key and `pol` POLICE_EN before it. -/
def Dev.ptnAfter (d : Dev) (q old pol : Nat) : Dev :=
  ((d.bucketClip (bkPtn q) (d.get PTN_SHAPER.BURST q)).policerFill q pol).ptnRebind q old

/-- PTN_SET (R174, R176). DEDUCED (log 44). -/
def kPtnSet : KSpec := kspec 0x0603 3 .other [imageMask .ptn 0, imageMask .ptn 8, imageMask .ptn 0x10] .lanes
  (dry := true) (admits := 1) (ptnRun fun c p d =>
    let q := p.target
    let w := p.word 0
    let en := PTN_CFG.ENABLE.of w = 1
    let d' := d.edit (ptnEdits p)
    let port := PTN_CFG.PORT.of w
    if !fieldsOk (cfgFlds .ptn 0) w ∨ !fieldsOk (cfgFlds .ptn 8) (p.word 1) ∨ !fieldsOk (cfgFlds .ptn 0x10) (p.word 2) ∨
        (en ∧ !d.isLanePort port) then .error refRange
    else if en ∧ d'.ptnDup port then .error (refOf stRange 0x0609)
    else if d.ptnDepth q ≠ 0 ∧ (port ≠ d.get PTN_CFG.PORT q ∨ PTN_CFG.EG_CLASS.of w ≠ d.get PTN_CFG.EG_CLASS q ∨
        (d.on PTN_CFG.ENABLE q ∧ ¬ en)) then .error (refObj (d.word c.ctl .ptn 0x38 q) q 0x060A)
    else if en ∧ d'.ptnFull port then .error (refOf stResource 0x0608)
    else .ok (doneEdit d (ptnEdits p) fun x => x.ptnAfter q (d.ptnKey q) (d.get PTN_CFG.POLICE_EN q)))

/-- PTN_POLICE (R177 to R179). -/
def kPtnPolice : KSpec := kspec 0x0604 4 .other
  [imageMask .ptn 0, imageMask .ptn 0x18, imageMask .ptn 0x20, imageMask .ptn 0x10] .lanes (dry := true) (admits := 1)
  (ptnRun fun _ p d =>
    let q := p.target
    let rate := p.word 1
    let size := p.word 2
    if !fieldsOk (cfgFlds .ptn 0x18) rate ∨ !fieldsOk (cfgFlds .ptn 0x20) size ∨
        !fieldsOk [PTN_GUAR.TEST_B] (p.word 3) then .error refRange
    else if PTN_POL_RATE.PIR_KBPS.of rate < PTN_POL_RATE.CIR_KBPS.of rate then .error (refOf stRange 0x060B)
    else .ok (doneEdit d (imageEdits [PTN_CFG.POLICE_EN, PTN_CFG.COLOUR_AWARE] q (p.word 0) ++
      imageEdits (cfgFlds .ptn 0x18) q rate ++ imageEdits (cfgFlds .ptn 0x20) q size ++
      imageEdits [PTN_GUAR.TEST_B] q (p.word 3)) fun x =>
        let x := ((x.bucketClip (bkTc q) (x.get PTN_POL_BURST.CBS q)).bucketClip (bkTp q) (x.get PTN_POL_BURST.PBS q)).policerFill q
          (d.get PTN_CFG.POLICE_EN q)
        if x.isPort (x.get PTN_CFG.PORT q) then x.coxDerive (x.get PTN_CFG.PORT q) else x))

/-- A refusal that names a host function which is not enabled (R182, R201, R303). -/
def Dev.fnOff (d : Dev) (c : Ctl) (f : Nat) : Option Ref :=
  if d.on HPE_FN_CFG.ENABLE f then none else some (refObj (d.word c .fn 0x200 f) f)

/-- COX_TELEM (R182). -/
def kCoxTelem : KSpec := kspec 0x0605 1 .none [imageMask .glob 0x2200000] .lanes fun c p d =>
  let w := p.word 0
  if !fieldsOk (cfgFlds .glob 0x2200000) w then .error refRange
  else match (if COX_TELEM_CFG.EN.of w = 1 then d.fnOff c.ctl (COX_TELEM_CFG.FUNC.of w) else none) with
    | some r => .error r
    | none => .ok (doneEdit d (imageEdits (cfgFlds .glob 0x2200000) 0 w))

/-- COX_COUNTERS_GET (Table 62). -/
def kCoxCountersGet : KSpec := kspec 0x0606 1 .other [selA] .query (clear := true) fun c p d =>
  let i := p.target
  let get := fun (l : List Fld) (status : Nat) =>
    Except.ok (done (if p.clear then d.clrs i l else d) (l.map (fun F => d.get F i) ++ [status]))
  if p.word 0 = 0 ∧ d.isPort (i / 16) then get ((List.range 8).map COX_C_CNT.COUNT) (d.word c.ctl .coxclass 0x18 i)
  else if p.word 0 = 1 ∧ i < 16384 then get ((List.range 8).map COX_P_CNT.COUNT) (d.word c.ctl .ptn 0x28 i)
  else .error refRange

/-- COX_GUAR_QUERY (R180): the weight shares of FAIR classes in whole kb/s. -/
def kCoxGuarQuery : KSpec := kspec 0x0607 0 .port [] .query (portRun fun c p d =>
  .ok (done d (d.word c.ctl .coxport 0x18 p.target :: (classesOf p.target).map fun pc =>
    if d.fair pc then (d.fairShare pc).num / (d.fairShare pc).den % 2 ^ 32 else 0)))

def execCoxPortShape (p : Pkt) (s : State) : Out := s.kiland kCoxPortShape p
def execCoxClassCfg (p : Pkt) (s : State) : Out := s.kiland kCoxClassCfg p
def execPtnSet (p : Pkt) (s : State) : Out := s.kiland kPtnSet p
def execPtnPolice (p : Pkt) (s : State) : Out := s.kiland kPtnPolice p
def execCoxTelem (p : Pkt) (s : State) : Out := s.kiland kCoxTelem p
def execCoxCountersGet (p : Pkt) (s : State) : Out := s.kiland kCoxCountersGet p
def execCoxGuarQuery (p : Pkt) (s : State) : Out := s.kiland kCoxGuarQuery p

end Sys2Proof.Machine
end

