-- ==== Sys2Proof/Machine/CmdTime.lean ====
section
/-!
DEFINITION. The time and gate commands of group 0x07 (Table 69, R189 to R208, R214, R217).
-/
namespace Sys2Proof.Machine
open F

/-- TIM_STEP (R192): the step registers are written and a step asked for. -/
def kTimStep : KSpec := kspec 0x0701 3 .none
  [imageMask .glob 0x2400030, imageMask .glob 0x2400038, imageMask .glob 0x2400040] .always fun _ p d =>
    let ctl := p.word 2
    if 999999999 < TIM_STEP_NS.NANOSECONDS.of (p.word 1) then .error refRange
    else
      let d := d.puts 0 [(TIM_STEP_SEC.SECONDS, TIM_STEP_SEC.SECONDS.of (p.word 0)),
        (TIM_STEP_NS.NANOSECONDS, TIM_STEP_NS.NANOSECONDS.of (p.word 1)), (TIM_STEP_NS.FRAC_NS, TIM_STEP_NS.FRAC_NS.of (p.word 1)),
        (TIM_STEP_CTL.MODE, TIM_STEP_CTL.MODE.of ctl), (TIM_STEP_CTL.NEG, TIM_STEP_CTL.NEG.of ctl)]
      .ok (done (d.stepGo (d.on TIM_STEP_CTL.MODE 0) (d.on TIM_STEP_CTL.NEG 0)))

/-- TIM_FREQ (R191). DEDUCED (log 44). -/
def kTimFreq : KSpec := kspec 0x0702 1 .none [imageMask .glob 0x2400028] .always fun _ p d =>
  let v := TIM_FREQ_ADJ.FREQ_ADJ.of (p.word 0)
  if clipFreq v ≠ v then .error refRange else .ok (done (d.put TIM_FREQ_ADJ.FREQ_ADJ 0 v))

/-- TIM_SLEW (R193). -/
def kTimSlew : KSpec := kspec 0x0703 1 .none [imageMask .glob 0x2400048] .always fun _ p d =>
  let r := TIM_SLEW.RATE_PPM.of (p.word 0)
  if r = 0 ∨ 500 < r then .error refRange
  else .ok (done ((d.puts 0 [(TIM_SLEW.OFFSET, TIM_SLEW.OFFSET.of (p.word 0)), (TIM_SLEW.RATE_PPM, r)]).slewGo))

/-- TIM_GET (R194): a snapshot in the compositor's own latch. -/
def kTimGet : KSpec := kspec 0x0704 0 .none [] .query fun c p d =>
  .ok (doneRead c p d [(.glob, 0x2400008, 0), (.glob, 0x2400050, 0)] |> fun x =>
    { x with body := d.now.sec % 2 ^ 48 :: (d.now.ns % 2 ^ 32 + d.now.frac % 2 ^ 16 * 2 ^ 32) :: x.body })

/-- TIM_LANE_LAT (R197). -/
def kTimLaneLat : KSpec := kspec 0x0705 1 .lane [imageMask .lat 0] .lanes fun _ p d =>
  if p.target < 1024 then
    .ok (doneEdit d (imageEdits [TIM_LANE_LAT.RX_USER_PS, TIM_LANE_LAT.TX_USER_PS] p.target (p.word 0)))
  else .error refRange

/-- TIM_PORT_CFG (R201, R202). -/
def kTimPortCfg : KSpec := kspec 0x0706 1 .port [imageMask .timport 0] .lanes (portRun fun c p d =>
  let w := p.word 0
  match (if TIM_PORT_CFG.STAMP_EN.of w = 1 then d.fnOff c.ctl (TIM_PORT_CFG.STAMP_FUNC.of w) else none) with
  | some r => .error r
  | none => .ok (doneEdit d (imageEdits (cfgFlds .timport 0) p.target w)))

/-- The refusal that names a port's gate state (R303). -/
def Dev.gateRef (c : Ctl) (d : Dev) (p : Nat) : Ref := refObj (d.word c .gateport 8 p) p

/-- GATE_CLASS_CFG (R208, R214). -/
def kGateClassCfg : KSpec := kspec 0x0707 2 .port [selA, imageMask .gateclass 0] .lanes (dry := true) (admits := 2)
  (launchRun fun c p d =>
    let k := p.word 0
    let pc := p.target * 16 + k
    let w := p.word 1
    if 16 ≤ k ∨ !fieldsOk (cfgFlds .gateclass 0) w then .error refRange
    else if GATE_CLASS_CFG.SCHED.of w = 1 ∧ !d.on GATE_CLASS_CFG.SCHED pc ∧ d.get GATE_PORT_STATUS.STATE p.target = gsNone ∧
        !d.on GATE_PORT_STATUS.PENDING p.target then .error (d.gateRef c.ctl p.target)
    else .ok (doneEdit d (imageEdits (cfgFlds .gateclass 0) pc w) fun e =>
      (if e.on GATE_CLASS_CFG.SCHED pc && !d.on GATE_CLASS_CFG.SCHED pc then e.put X.GATE_FRESH p.target 0 else e).derivePort
        p.target))

/-- GATE_PORT_CFG (R208). -/
def kGatePortCfg : KSpec := kspec 0x0708 1 .port [imageMask .gateport 0] .lanes (dry := true) (admits := 1)
  (launchRun fun _ p d =>
    .ok (doneEdit d (imageEdits (cfgFlds .gateport 0) p.target (p.word 0)) fun d => d.derivePort p.target))

/-- A pending switch is less than 2 µs away (R207), with S (R303). DEDUCED (log 45). -/
def Dev.imminent (d : Dev) (p : Nat) : Option Ref :=
  if d.switchPending p ∧ d.switchAt p < d.nowPs + 2000000 then
    some ⟨stState, 0x0709, d.get GATE_SWITCH_SEC.SECONDS p % 2 ^ 48, d.get GATE_SWITCH_NS.NANOSECONDS p % 2 ^ 32⟩
  else none

/-- GATE_LIST_LOAD (R203, R204, R207): 1 to 64 entries follow the selector. -/
def kGateListLoad : KSpec := ⟨0x0709, fun n => decide (2 ≤ n) && decide (n ≤ 65), false, false, false, .port, [selAB],
  2 ^ 64 - 1, .lanes, 0, launchRun fun c p d =>
    let q := p.target
    let off := p.word 0 % 2 ^ 16
    let n := p.word 0 / 2 ^ 16
    let es := p.words.drop 1
    let s := d.staging q
    let room := if off = 0 then n else d.get (slotCount s) q
    if 1023 < off ∨ 1024 < n ∨ (off = 0 ∧ n = 0) ∨ (off ≠ 0 ∧ n ≠ 0) ∨ room < off + es.length ∨
        es.any (fun e => decide (bitsOf e 32 32 < 10)) then .error refRange
    else if off ≠ 0 ∧ d.stagingPends q then .error (d.gateRef c.ctl q)
    else match (if d.stagingPends q then d.imminent q else none) with
      | some r => .error r
      | none =>
        if off = 0 ∧ 131072 < d.storeUsed - d.get (slotCount s) q + n then .error (refOf stResource 0x0708)
        else .ok (done ((d.listLoad q off n es).coxRefresh q))⟩

/-- The derived values of the list a port has made pending (R205): S, its guard requirement, and each class's bound. -/
def Dev.commitReport (d : Dev) (p : Nat) : List Nat :=
  let l := d.heat p (d.get X.GATE_PSLOT p)
  [d.get GATE_SWITCH_SEC.SECONDS p, d.get GATE_SWITCH_NS.NANOSECONDS p,
    d.guardNeed p ((d.portWidth p).getD 1) l.anywhere] ++
  (List.range 16).map fun c =>
    let b := d.classBound p (some l) c
    b.1 % 2 ^ 16 + b.2 % 2 ^ 16 * 2 ^ 16 + d.openPpm p c % 2 ^ 20 * 2 ^ 32

/-- GATE_LIST_COMMIT (R205, R207). DEDUCED (log 45). -/
def kGateListCommit : KSpec := kspec 0x070A 2 .port [2 ^ 64 - 1, 2 ^ 48 - 1] .lanes (dry := true) (admits := 1)
  (launchRun fun _ p d =>
    let q := p.target
    let cycle := p.word 0 % 2 ^ 32
    let ns := p.word 0 / 2 ^ 32
    let sum := ((d.heat q (d.staging q)).entries.map (·.2)).foldl (· + ·) 0
    if cycle < 1000 ∨ 4000000000 < cycle then .error refRange
    else if 999999999 < ns then .error (refOf stRange 0x070B)
    else if sum ≠ cycle then .error (refOf stRange 0x0707)
    else match d.imminent q with
      | some r => .error r
      | none =>
        let d := (d.listCommit q cycle (p.word 1) ns).derivePort q
        .ok { done d (d.commitReport q) with lists := [q] })

/-- GATE_STOP (R207, R208): with a list running. -/
def kGateStop : KSpec := kspec 0x070B 0 .port [] .lanes (dry := true) (admits := 1) (launchRun fun c p d =>
  let q := p.target
  if d.get GATE_PORT_STATUS.STATE q ≠ gsRun then .error (d.gateRef c.ctl q)
  else match d.imminent q with
    | some r => .error r
    | none => .ok { done ((d.gateStop q).derivePort q) with lists := [q] })

/-- GATE_COUNTERS_GET (Table 70); the gate blocks of a recirculation port do not exist and read 0 (R219). DEDUCED (log 62). -/
def kGateCountersGet : KSpec := kspec 0x070C 0 .port [] .query (clear := true) (portRun fun c p d =>
  let q := p.target
  let cls := classesOf q
  let tim := [(Place.timport, 0x10, q), (.timport, 0x18, q), (.timport, 0x20, q)]
  if q < 1024 then
    .ok (doneRead c p d (tim ++ [(.gateport, 0x58, q), (.gateport, 0x60, q), (.gateport, 0x68, q), (.gateport, 0x70, q)] ++
      cls.map (fun pc => (.gateclass, 0x18, pc)) ++ [(.gateport, 8, q), (.timport, 8, q)] ++
      cls.map fun pc => (.gateclass, 0x10, pc)))
  else
    let x := doneRead c p d (tim ++ [(.timport, 8, q)])
    .ok { x with body := x.body.take 3 ++ List.replicate 21 0 ++ x.body.drop 3 ++ List.replicate 16 0 })

/-- The first port with a list running or pending (R189). -/
def Dev.listPort (d : Dev) : Option Nat := d.lanePorts.find? d.listLive

/-- TIM_ENABLE (R189). DEDUCED (log 45). -/
def kTimEnable : KSpec := kspec 0x070D 1 .none [imageMask .glob 0x2400000] .lanes fun c p d =>
  let en := TIM_CTL.EN.of (p.word 0)
  match (if en = 0 then d.listPort else none) with
  | some q => .error (d.gateRef c.ctl q)
  | none => .ok (doneEdit d [(TIM_CTL.EN, 0, en)])

def execTimStep (p : Pkt) (s : State) : Out := s.kiland kTimStep p
def execTimFreq (p : Pkt) (s : State) : Out := s.kiland kTimFreq p
def execTimSlew (p : Pkt) (s : State) : Out := s.kiland kTimSlew p
def execTimGet (p : Pkt) (s : State) : Out := s.kiland kTimGet p
def execTimLaneLat (p : Pkt) (s : State) : Out := s.kiland kTimLaneLat p
def execTimPortCfg (p : Pkt) (s : State) : Out := s.kiland kTimPortCfg p
def execGateClassCfg (p : Pkt) (s : State) : Out := s.kiland kGateClassCfg p
def execGatePortCfg (p : Pkt) (s : State) : Out := s.kiland kGatePortCfg p
def execGateListLoad (p : Pkt) (s : State) : Out := s.kiland kGateListLoad p
def execGateListCommit (p : Pkt) (s : State) : Out := s.kiland kGateListCommit p
def execGateStop (p : Pkt) (s : State) : Out := s.kiland kGateStop p
def execGateCountersGet (p : Pkt) (s : State) : Out := s.kiland kGateCountersGet p
def execTimEnable (p : Pkt) (s : State) : Out := s.kiland kTimEnable p

end Sys2Proof.Machine
end

