-- ==== Sys2Proof/Machine/CmdProof.lean ====
section
/-!
DEFINITION. The proof-unit commands of group 0x08 (Table 75, R226, R231, R235, R238 to R240).
-/
namespace Sys2Proof.Machine
open F

/-- The fields PRF_PROFILE_SET writes. -/
def profEdits (p : Pkt) : List Edit :=
  (List.range 5).flatMap fun i => imageEdits (cfgFlds .prof (8 * i)) p.target (p.word i)

/-- PRF_PROFILE_SET (R226, R238): a broken limit of R226 is refused as such also where the value is outside its field's range. -/
def kPrfProfileSet : KSpec := kspec 0x0801 5 .other ((List.range 5).map fun i => imageMask .prof (8 * i)) .lanes
  fun _ p d =>
    let ok := fun l : List Nat => l.all fun i => fieldsOk (cfgFlds .prof (8 * i)) (p.word i)
    if 64 ≤ p.target ∨ !ok [0, 1, 2] then .error refRange
    else if !(d.edit (profEdits p)).spanOk p.target then .error (refOf stRange 0x0804)
    else if !ok [3, 4] then .error refRange
    else if d.profInUse p.target then .error (refOf stState 0x0801)
    else .ok (doneEdit d (profEdits p))

/-- PRF_STREAM_SET (R231). -/
def kPrfStreamSet : KSpec := kspec 0x0802 1 .other [imageMask .stream 0] .lanes (ptnRun fun _ p d =>
  let l := imageEdits (cfgFlds .stream 0) p.target (p.word 0)
  if (d.edit l).recMixed then .error (refOf stRange 0x0802)
  else if PRF_RX_STREAM.ENABLE.of (p.word 0) = 1 ∧ !d.on PRF_PROF_CFG.ENABLE (PRF_RX_STREAM.PROFILE.of (p.word 0)) then
    .error (refOf stState 0x0803)
  else .ok (doneEdit d l))

/-- PRF_REC_RESET (R235). -/
def kPrfRecReset : KSpec := kspec 0x0803 0 .other [] .lanes fun _ p d =>
  if p.target < 16384 then .ok (done (d.recReset p.target))
  else if p.target = 16384 then .ok (done ((d.each (d.keys PRF_REC_STATUS.FRESH) Dev.recReset)))
  else .error refRange

/-- PRF_TX_ALIVE_SET (R239). -/
def kPrfTxAliveSet : KSpec := kspec 0x0804 2 .port [selA, imageMask .txalive 0] .lanes (portRun fun _ p d =>
  if 64 ≤ p.word 0 then .error refRange
  else .ok (done (d.put PRF_TX_ALIVE.ALIVE (p.target * 64 + p.word 0) (PRF_TX_ALIVE.ALIVE.of (p.word 1)))))

/-- PRF_STATUS_GET (R240): the clear flag clears VALID and MORE as well. -/
def kPrfStatusGet : KSpec := kspec 0x0805 0 .other [] .query (clear := true) fun c p d =>
  if 16384 ≤ p.target then .error refRange
  else
    let x := doneRead c p d ((offsIn .record 0 0x38).map (fun o => (.record, o, p.target)) ++
      [(.glob, 0x2600000, 0), (.glob, 0x2600008, 0)])
    .ok (if p.clear then { x with dev := x.dev.puts 0 [(PRF_DIS_INFO.VALID, 0), (PRF_DIS_INFO.MORE, 0)] } else x)

def execPrfProfileSet (p : Pkt) (s : State) : Out := s.kiland kPrfProfileSet p
def execPrfStreamSet (p : Pkt) (s : State) : Out := s.kiland kPrfStreamSet p
def execPrfRecReset (p : Pkt) (s : State) : Out := s.kiland kPrfRecReset p
def execPrfTxAliveSet (p : Pkt) (s : State) : Out := s.kiland kPrfTxAliveSet p
def execPrfStatusGet (p : Pkt) (s : State) : Out := s.kiland kPrfStatusGet p

end Sys2Proof.Machine
end

