-- ==== Sys2Proof/Machine/CmdHost.lean ====
section
/-!
DEFINITION. The host-engine commands of group 0x09 (Table 90, R243 to R246, R273, R275 to R277, R370).
-/
namespace Sys2Proof.Machine
open F

/-- The index a ring has under its KIND: its queue number, or its function. -/
def ringIndex (r : Nat) : Nat := if r < 8192 then ringQueue r else (r - 8192) / 4

/-- The refusal that carries a ring's state (R303). -/
def Dev.ringRef (c : Ctl) (d : Dev) (r : Nat) : Ref := refObj (d.word c .ring 0x18 r) (ringIndex r)

/-- HPE_FN_CFG (R244, R370): an enable waits for domain 33, whose power-up it asks for. -/
def kHpeFnCfg : KSpec := kspec 0x0901 1 .fn [imageMask .fn 0x200] .config fun c p d =>
  let f := p.target
  let w := p.word 0
  let en := HPE_FN_CFG.ENABLE.of w = 1
  if 64 ≤ f then .error refRange
  else match (if en then none else (d.fnRings f).find? fun r => d.ringState r != 0) with
    | some r => .error (d.ringRef c.ctl r)
    | none =>
      if en ∧ !d.pdOn 33 ∧ !c.image then .ok (doneWait (d.powerUp 33) (.domain33 f w))
      else .ok (doneEdit d (imageEdits (cfgFlds .fn 0x200) f w))

/-- HPE_QUEUE_ASSIGN (R244): function 0xFFFF releases the queue. -/
def kHpeQueueAssign : KSpec := kspec 0x0902 1 .queue [selAB] .config fun c p d =>
  let kind := p.word 0 % 2 ^ 16
  let f := p.word 0 / 2 ^ 16
  let r := ringOf kind p.target 0
  if 1 < kind ∨ 4096 ≤ p.target ∨ (64 ≤ f ∧ f ≠ 0xFFFF) then .error refRange
  else if d.ringState r ≠ 0 then .error (d.ringRef c.ctl r)
  else if f = 0xFFFF then .ok (doneEdit d [(RING_CFG.FUNC, r, 0), (RING_CFG.ASSIGNED, r, 0)])
  else match d.fnOff c.ctl f with
    | some e => .error e
    | none => .ok (doneEdit d [(RING_CFG.FUNC, r, f), (RING_CFG.ASSIGNED, r, 1)])

/-- The number a KIND takes: a queue below 4096 or a function below 64. -/
def kindOk (kind n : Nat) : Bool := (decide (kind < 2) && decide (n < 4096)) || (decide (2 ≤ kind) && decide (kind < 6) && decide (n < 64))

/-- The fields of RING_CFG a ring of a kind has, besides its owner (R278). -/
def ringCfg (kind : Nat) : List Fld :=
  [RING_CFG.LOG2_SIZE, RING_CFG.EVT_EN, RING_CFG.PUB_BATCH] ++
    (if kind = 0 then [RING_CFG.WEIGHT, RING_CFG.BURST] else if kind = 1 then [RING_CFG.KEEP_FCS, RING_CFG.STARVE_US] else [])

/-- Fields that may be written in any ring state (Table 90). -/
def ringFree (id : Nat) : Bool :=
  [RING_CFG.WEIGHT.id, RING_CFG.BURST.id, RING_CFG.EVT_EN.id, RING_CFG.PUB_BATCH.id].contains id

/-- The fields HPE_QUEUE_CFG writes. -/
def ringEdits (kind r : Nat) (p : Pkt) : List Edit :=
  [(RING_BASE.ADDR, r, RING_BASE.ADDR.of (p.word 1)), (RING_LINE.ADDR, r, RING_LINE.ADDR.of (p.word 2))] ++
    imageEdits (ringCfg kind) r (p.word 3) ++
    (if kind = 1 then imageEdits [RING_RX_HOLD.HOLD_KIB] r (p.word 4) else [])

/-- HPE_QUEUE_CFG (R246, R277). DEDUCED (log 46). -/
def kHpeQueueCfg : KSpec := kspec 0x0903 5 .queue
  [selA, imageMask .ring 0, imageMask .ring 8, imageMask .ring 0x10, imageMask .ring 0x20] .config fun c p d =>
    let kind := p.word 0
    let r := ringOf kind p.target p.target
    let l := ringEdits kind r p
    if !kindOk kind p.target ∨ !fieldsOk (ringCfg kind) (p.word 3) ∨
        (kind = 1 ∧ !fieldsOk [RING_RX_HOLD.HOLD_KIB] (p.word 4)) then .error refRange
    else if d.ringState r ≠ 0 ∧ l.any (fun e => !ringFree e.1.id && d.get e.1 r != e.2.2) then .error (d.ringRef c.ctl r)
    else .ok (doneEdit d l)

/-- HPE_QUEUE_START (R245, R273). DEDUCED (log 46). -/
def kHpeQueueStart : KSpec := kspec 0x0904 2 .queue [selA, 2 ^ 32 - 1] .config fun c p d =>
  let kind := p.word 0
  let r := ringOf kind p.target p.target
  if !kindOk kind p.target then .error refRange
  else if d.ringState r ≠ 0 then .error (d.ringRef c.ctl r)
  else match d.ringOwner r with
    | none => .error (d.ringRef c.ctl r)
    | some f => match d.fnOff c.ctl f with
      | some e => .error e
      | none =>
        if kind = 2 ∧ !d.ringRuns (ringReply f) then .error (d.ringRef c.ctl (ringReply f))
        else .ok (done (d.ringStart r (p.word 1)))

/-- The status registers of a copy (R337). -/
def copyGen (c : Nat) : Fld := if c = 0 then CMP_IMG_COPY_0_GEN.GENERATION else CMP_IMG_COPY_1_GEN.GENERATION
def copyLen (c : Nat) : Fld := if c = 0 then CMP_IMG_COPY_0_GEN.LENGTH else CMP_IMG_COPY_1_GEN.LENGTH
def copyStatus (c : Nat) : Fld := if c = 0 then CMP_IMG_COPY_0_INFO.STATUS else CMP_IMG_COPY_1_INFO.STATUS
def copyStart (c : Nat) : Fld := if c = 0 then CMP_IMG_COPY_0_INFO.START_MODE else CMP_IMG_COPY_1_INFO.START_MODE
def copySections (c : Nat) : Fld := if c = 0 then CMP_IMG_COPY_0_INFO.SECTIONS else CMP_IMG_COPY_1_INFO.SECTIONS
def copyResult (c : Nat) : Fld := if c = 0 then CMP_IMG_COPY_0_INFO.RESULT else CMP_IMG_COPY_1_INFO.RESULT
def copyFail (c : Nat) : Fld := if c = 0 then CMP_IMG_COPY_0_INFO.FAIL_OFFSET else CMP_IMG_COPY_1_INFO.FAIL_OFFSET

/-- The image write session ends: a copy that is still being written is left without a header and EMPTY (R328). -/
def Dev.sessionEnd (d : Dev) : Dev :=
  let c := d.get CMP_IMG_WRITE.COPY 0
  let d : Dev := { d.put CMP_IMG_WRITE.ACTIVE 0 0 with cmp := { d.cmp with session := none } }
  if d.get (copyStatus c) 0 = 3 then d.put (copyStatus c) 0 0 else d

/-- A function reset, which also ends an image write session of that issuer with its copy EMPTY (R275, R309, R328). -/
def Dev.fnResetAsk (d : Dev) (f : Nat) : Dev :=
  let d := d.fnReset f
  if d.cmp.session.isSome ∧ d.get CMP_IMG_WRITE.ISSUER 0 = f then d.sessionEnd else d

/-- HPE_FN_RESET (R275, R276). -/
def kHpeFnReset : KSpec := kspec 0x0905 0 .fn [] .control fun _ p d =>
  if 64 ≤ p.target then .error refRange else .ok (doneWait (d.fnResetAsk p.target) (.fnReset p.target))

/-- HPE_STATUS_GET. -/
def kHpeStatusGet : KSpec := kspec 0x0906 1 .queue [selA] .query (clear := true) fun c p d =>
  let kind := p.word 0
  let r := ringOf kind p.target p.target
  if kind = 7 ∧ p.target < 64 then
    .ok (doneRead c p d ([0x200, 0x208, 0x240, 0x248, 0x250].map fun o => (.fn, o, p.target)))
  else if kindOk kind p.target then
    .ok (doneRead c p d ((offsIn .ring 0 0x78).map fun o => (.ring, o, r)))
  else .error refRange

def execHpeFnCfg (p : Pkt) (s : State) : Out := s.kiland kHpeFnCfg p
def execHpeQueueAssign (p : Pkt) (s : State) : Out := s.kiland kHpeQueueAssign p
def execHpeQueueCfg (p : Pkt) (s : State) : Out := s.kiland kHpeQueueCfg p
def execHpeQueueStart (p : Pkt) (s : State) : Out := s.kiland kHpeQueueStart p
def execHpeFnReset (p : Pkt) (s : State) : Out := s.kiland kHpeFnReset p
def execHpeStatusGet (p : Pkt) (s : State) : Out := s.kiland kHpeStatusGet p

end Sys2Proof.Machine
end

