-- ==== Sys2Proof/Machine/CmdEvent.lean ====
section
/-!
DEFINITION. The commands of groups 0x0A to 0x0D: events (Table 97), faults and lock-up (Table 128), fences and barriers
(R307, R308).
-/
namespace Sys2Proof.Machine
open F

/-- A source that is pending, or whose vector is SENT or ACTIVE, may not change its vector or be disabled (R284). DEDUCED (log 47). -/
def Dev.srcBusy (d : Dev) (s vec en : Nat) : Bool :=
  d.on EVC_SRC_CFG.ENABLE s && (en == 0 || vec != d.get EVC_SRC_CFG.VECTOR s) &&
    (d.on EVC_SRC_STATUS.PENDING s || decide (3 ≤ d.get EVC_VEC_STATUS.STATE (d.get EVC_SRC_CFG.VECTOR s)))

/-- EVC_SRC_CFG (R280, R284): the whole range of sources or nothing. -/
def kEvcSrcCfg : KSpec := kspec 0x0A01 2 .other [selA, imageMask .srccfg 0] .config fun c p d =>
  let n := p.word 0
  let vec := EVC_SRC_CFG.VECTOR.of (p.word 1)
  let en := EVC_SRC_CFG.ENABLE.of (p.word 1)
  let l := (List.range n).map (p.target + ·)
  if n = 0 ∨ 4096 < n ∨ 65536 < p.target + n then .error refRange
  else if l.any fun s => (srcKind s).isNone then .error (refOf stRange 0x0A02)
  else match l.find? fun s => d.srcBusy s vec en with
    | some s =>
      let v := d.get EVC_SRC_CFG.VECTOR s
      .error (refObj (d.word c.ctl .vec 0x10 v) v 0x0A01)
    | none => .ok { doneEdit (l.foldl (fun d s => d.srcCfg s vec en) d) [] with
        wrote := l.flatMap fun s => [(EVC_SRC_CFG.VECTOR.id, s), (EVC_SRC_CFG.ENABLE.id, s)] }

/-- EVC_VEC_CFG. -/
def kEvcVecCfg : KSpec := kspec 0x0A02 1 .other [imageMask .vec 0] .config fun _ p d =>
  if 1024 ≤ p.target ∨ !fieldsOk (cfgFlds .vec 0) (p.word 0) then .error refRange
  else .ok (doneEdit d (imageEdits (cfgFlds .vec 0) p.target (p.word 0)) Dev.runsEnd)

/-- EVC_TGT_CFG (R294): a message address that is not 4-byte aligned is refused. -/
def kEvcTgtCfg : KSpec := kspec 0x0A03 2 .other [imageMask .tgt 0, 2 ^ 64 - 1] .config fun _ p d =>
  let t := p.target
  if 256 ≤ t then .error refRange
  else if p.word 1 % 4 ≠ 0 then .error (refOf stRange 0x0A03)
  else
    let off := d.on EVC_TGT_CFG.ENABLE t && EVC_TGT_CFG.ENABLE.of (p.word 0) == 0
    .ok (doneEdit d (imageEdits (cfgFlds .tgt 0) t (p.word 0) ++ imageEdits (cfgFlds .tgt 8) t (p.word 1))
      fun d => if off then d.targetOff t else d.runsEnd)

/-- EVC_TSET_SET (R287): the set keeps its round-robin pointer. -/
def kEvcTsetSet : KSpec := kspec 0x0A04 4 .other (List.replicate 4 (2 ^ 64 - 1)) .config fun _ p d =>
  if 64 ≤ p.target then .error refRange
  else .ok (doneEdit d ((List.range 4).map fun j => (EVC_TSET.MASK j, p.target, p.word j)) Dev.runsEnd)

/-- EVC_SB_CFG (R282). -/
def kEvcSbCfg : KSpec := kspec 0x0A05 1 .none [imageMask .glob 0x3001000] .config fun _ p d =>
  if !fieldsOk (cfgFlds .glob 0x3001000) (p.word 0) then .error refRange
  else .ok (doneEdit d (imageEdits (cfgFlds .glob 0x3001000) 0 (p.word 0)))

/-- EVC_STATUS_GET: the word at target + 0x38 holds two 32-bit counters. -/
def kEvcStatusGet : KSpec := kspec 0x0A06 1 .other [selA] .query (clear := true) fun c p d =>
  let i := p.target
  if p.word 0 = 0 ∧ i < 1024 then .ok (doneRead c p d ((offsIn .vec 0 0x38).map fun o => (.vec, o, i)))
  else if p.word 0 = 1 ∧ i < 256 then
    let (l, d) := d.readRegs c.ctl p.clear ([0, 8, 0x18, 0x28, 0x30, 0x38, 0x3C].map fun o => (.tgt, o, i))
    .ok (done d (l.take 5 ++ [(l.drop 5).headD 0 % 2 ^ 32 + (l.drop 6).headD 0 % 2 ^ 32 * 2 ^ 32]))
  else .error refRange

/-- FLT_STATUS_GET (R357). -/
def kFltStatusGet : KSpec := kspec 0x0B01 0 .none [] .query (clear := true) fun c p d =>
  .ok (doneRead c p d ([0x3400000, 0x3400008, 0x3400010, 0x3400018, 0x3400020, 0x3400028, 0x3400030, 0x3400038, 0x3400100,
    0x3400108, 0x3400110, 0x3400118].map fun o => (.glob, o, 0)))

/-- FLT_ACK (R347, R350). -/
def kFltAck : KSpec := kspec 0x0B02 0 .none [] .always fun _ _ d => .ok (done d.ackRecord)

/-- A reaction word keeps to R341 for its class. -/
def reactOk (cls w : Nat) : Bool :=
  (List.range 4).all (fun i => bitsOf w (8 * i) 8 &&& (0xFF ^^^ allowedBits cls) == 0) && bitsOf w 28 2 != 0

/-- FLT_REACTION_SET (R341). -/
def kFltReactionSet : KSpec := kspec 0x0B03 1 .other [imageMask .react 0] .config fun c p d =>
  let cls := p.target
  let w := p.word 0
  if 64 ≤ cls then .error refRange
  else if cls ∉ faultClasses then .error (refOf stRange 0x0B01)
  else if !reactOk cls w ∨ (cls = 0 ∧ w ≠ d.word c.ctl .react 0 0) then .error (refOf stRange 0x0B02)
  else .ok (doneEdit d (imageEdits (cfgFlds .react 0) cls w))

/-- FLT_SAFE_CFG. -/
def kFltSafeCfg : KSpec := kspec 0x0B04 1 .none [imageMask .glob 0x3400030] .config fun _ p d =>
  if !fieldsOk (cfgFlds .glob 0x3400030) (p.word 0) then .error refRange
  else .ok (doneEdit d (imageEdits (cfgFlds .glob 0x3400030) 0 (p.word 0)))

/-- FLT_INJECT (R339, R357). -/
def kFltInject : KSpec := kspec 0x0B05 1 .other [3] .config fun _ p d =>
  match faultClass p.target with
  | none => .error (refOf stRange 0x0B01)
  | some cls =>
    if portClass cls && !d.isLanePort (faultUnit p.target) then .error (refOf stRange 0x0B03)
    else .ok (done (d.faults [⟨p.target, p.word 0, 0, true⟩]))

/-- LCK_CFG (R355). -/
def kLckCfg : KSpec := kspec 0x0C01 1 .none [imageMask .glob 0x3600000] .config fun _ p d =>
  .ok (doneEdit d (imageEdits (cfgFlds .glob 0x3600000) 0 (p.word 0)))

/-- LCK_TRIGGER (R310, R351). -/
def kLckTrigger : KSpec := kspec 0x0C02 0 .none [] .config fun _ _ d =>
  if d.on LCK_CFG.CMD_EN 0 then .ok (done (d.askLockup 2)) else .error (refOf stState 0x0C01)

/-- Bytes of a buffer as reply words. -/
def bytesWords (t : List Host.Cell) (a n : Nat) (dflt : Byte) : List Nat :=
  (List.range (n / 8)).map fun i => ofLeBytes (nats (getCells t (a + 8 * i) 8 dflt))

/-- LCK_IMPRESSION_READ (R356). -/
def kLckImpressionRead : KSpec := kspec 0x0C03 1 .none [0x3FFF0003FFFF] .query fun c p d =>
  let off := bitsOf (p.word 0) 0 18
  let len := bitsOf (p.word 0) 32 14
  if off % 8 ≠ 0 ∨ len % 8 ≠ 0 ∨ len < 8 ∨ 8192 < len then .error refRange
  else if 262144 < off + len then .error (refOf stRange 0x0C03)
  else if !d.on LCK_STATUS.VALID 0 then .error (refOf stState 0x0C02)
  else .ok (done d (bytesWords c.mem.impression off len 0))

/-- LCK_IMPRESSION_CLEAR (R356). -/
def kLckImpressionClear : KSpec := kspec 0x0C04 0 .none [] .config fun _ _ d => .ok (done (d.put LCK_STATUS.VALID 0 0))

/-- FENCE (R307): from the mailbox it has no effect. -/
def kFence : KSpec := kspec 0x0D01 0 .none [] .always fun _ p d =>
  .ok (done (if p.issuer < 64 then d.emit (.fence p.issuer) else d))

/-- BARRIER (R308): its checks are those of any command. -/
def kBarrier : KSpec := kspec 0x0D02 0 .none [] .always fun _ _ d => .ok (done d)

/-- A barrier stands from its take until every command taken before it has replied. -/
def State.barrierRun (s : State) (p : Pkt) : State :=
  match s.take kBarrier.opcode p with
  | (s, none) => s
  | (s, some t) =>
    if s.dev.ending then s
    else match kBarrier.preCheck s.cx p s.dev with
      | some r => s.replyRef t r
      | none => ({ s with dev := { s.dev with cmp := { s.dev.cmp with barrier := some t } } }).barrierDue

def execEvcSrcCfg (p : Pkt) (s : State) : Out := s.kiland kEvcSrcCfg p
def execEvcVecCfg (p : Pkt) (s : State) : Out := s.kiland kEvcVecCfg p
def execEvcTgtCfg (p : Pkt) (s : State) : Out := s.kiland kEvcTgtCfg p
def execEvcTsetSet (p : Pkt) (s : State) : Out := s.kiland kEvcTsetSet p
def execEvcSbCfg (p : Pkt) (s : State) : Out := s.kiland kEvcSbCfg p
def execEvcStatusGet (p : Pkt) (s : State) : Out := s.kiland kEvcStatusGet p
def execFltStatusGet (p : Pkt) (s : State) : Out := s.kiland kFltStatusGet p
def execFltAck (p : Pkt) (s : State) : Out := s.kiland kFltAck p
def execFltReactionSet (p : Pkt) (s : State) : Out := s.kiland kFltReactionSet p
def execFltSafeCfg (p : Pkt) (s : State) : Out := s.kiland kFltSafeCfg p
def execFltInject (p : Pkt) (s : State) : Out := s.kiland kFltInject p
def execLckCfg (p : Pkt) (s : State) : Out := s.kiland kLckCfg p
def execLckTrigger (p : Pkt) (s : State) : Out := s.kiland kLckTrigger p
def execLckImpressionRead (p : Pkt) (s : State) : Out := s.kiland kLckImpressionRead p
def execLckImpressionClear (p : Pkt) (s : State) : Out := s.kiland kLckImpressionClear p
def execFence (p : Pkt) (s : State) : Out := s.kiland kFence p
def execBarrier (p : Pkt) (s : State) : Out := s.core fun s => s.barrierRun p

end Sys2Proof.Machine
end

