-- ==== Sys2Proof/Machine/Layers.lean ====
section
/-!
DEFINITION. The layers of the configuration (12_image_forme_and_modes.md): the opcodes an image section may hold (Table
113), running its packets (R318), what follows a change of a configuration field, the combined configuration of a mode
(R330, R332, R334, R335) and of SAFE (R336).
-/
namespace Sys2Proof.Machine
open F

/-- Every place of the register map, and every register field. -/
def allPlaces : List Place := [.glob, .bank, .eight, .lane, .pcs, .launch, .mac, .galch, .galport, .galclass, .coxport,
  .coxclass, .ptn, .lat, .timport, .gateport, .gateclass, .heat, .eng, .prof, .stream, .txalive, .record, .ring, .fn,
  .page, .tgt, .tset, .vec, .srccfg, .srcstat, .react, .fltcnt, .log]
def allFlds : List Fld := allPlaces.flatMap fun p => (regsAt p).flatMap (·.flds)
def fldById (id : Nat) : Option Fld := allFlds.find? fun F => F.id == id

/-- The configuration fields (R9). Power-domain requests are carried out by domain and are no layer's value. -/
def cfgIds : List Nat := ((allFlds.filter fun F => F.cfg).map (·.id)).filter fun i => i != CPX_PD_CTL.REQ.id

/-- The fields of LN_EIGHT_PORTMAP: the committed layout. -/
def layoutId (id : Nat) : Bool := decide (id ≤ (LN_EIGHT_PORTMAP.FIRST 7).id)

/-- The configuration part of a field table. -/
def cfgPart (t : Tab (Tab Nat)) : Tab (Tab Nat) := t.filter fun p => cfgIds.contains p.1

/-- The device with the configuration fields of another, and the values its quiesce holds. -/
def Dev.adopt (d n : Dev) : Dev :=
  { d with
    f := (cfgPart n.f).foldl (fun t p => t.set p.1 p.2 []) (d.f.filter fun p => !cfgIds.contains p.1)
    cmp := { d.cmp with heldEn := n.cmp.heldEn, quiesce := n.cmp.quiesce } }

/-- The configured value of a field: under the quiesce, the value held for RX_EN or TX_EN (R334). -/
def Dev.cfgVal (d : Dev) (F : Fld) (i : Nat) : Nat :=
  if d.cmp.quiesce && isMacEn F.id && d.cmp.heldEn.get i 15 != 15 then
    bitsOf (d.cmp.heldEn.get i 15) (if F.id = MAC_PORT_CFG.RX_EN.id then 0 else 1) 1
  else d.get F i

/-- What follows a changed configuration field beyond what is derived from its port: bucket clips (R173, R179), fills of
a policer enabled (R179), bindings (R160, R176), filters (R53), checkers (R75), states of priorities (R153),
receive timers (R150), targets disabled (R294), sources enabled (R281). -/
def Dev.fieldAfter (d old : Dev) (id i : Nat) : Dev :=
  if id = COX_PORT_SHAPER.BURST.id then d.bucketClip (bkPort i) (d.get COX_PORT_SHAPER.BURST i)
  else if id = COX_CLASS_SHAPER.BURST.id then d.bucketClip (bkClass i) (d.get COX_CLASS_SHAPER.BURST i)
  else if id = PTN_SHAPER.BURST.id then d.bucketClip (bkPtn i) (d.get PTN_SHAPER.BURST i)
  else if id = PTN_POL_BURST.CBS.id then d.bucketClip (bkTc i) (d.get PTN_POL_BURST.CBS i)
  else if id = PTN_POL_BURST.PBS.id then d.bucketClip (bkTp i) (d.get PTN_POL_BURST.PBS i)
  else if id = PTN_CFG.POLICE_EN.id then d.policerFill i (old.get PTN_CFG.POLICE_EN i)
  else if id = PTN_CFG.ENABLE.id then d.ptnRebind i (old.ptnKey i)
  else if id = LN_PAT_CTL.RX_PAT.id then d.checkerRestart i (old.get LN_PAT_CTL.RX_PAT i)
  else if id = LN_PAT_CTL.TX_PAT.id then d.genRestart i (old.get LN_PAT_CTL.TX_PAT i)
  else if id = LN_CTL.LOOPBACK.id then d.pinsFollow i (old.get LN_CTL.LOOPBACK i)
  else if [LN_RX_EQ.POLE.id, LN_RX_EQ.DCGAIN.id, LN_RX_EQ.PEAK.id, LN_RX_EQ.ADAPT.id, LN_TX_EQ.AMP.id].contains id then d.eqLive i
  else if id = LN_TX_EQ.C_PRE.id ∨ id = LN_TX_EQ.C_POST.id then d.tapsFollow old i
  else if id = GATE_CLASS_CFG.SCHED.id then
    if d.on GATE_CLASS_CFG.SCHED i && !old.on GATE_CLASS_CFG.SCHED i then d.put X.GATE_FRESH (i / 16) 0 else d
  else if id = PTN_CFG.PORT.id ∨ id = PTN_CFG.EG_CLASS.id then
    if d.on PTN_CFG.ENABLE i && old.on PTN_CFG.ENABLE i &&
        (id == PTN_CFG.PORT.id || d.get PTN_CFG.PORT i == old.get PTN_CFG.PORT i) then d.ptnRebind i (old.ptnKey i) else d
  else if id = GAL_FC_MAP.DEFAULT_CLASS.id then d.fcRemap i
  else if id = MAC_PORT_CFG.PFC_EN.id ∨ id = MAC_PORT_CFG.PAUSE_EN.id then d.pauseModes old i
  else if id = EVC_TGT_CFG.ENABLE.id then
    if old.on EVC_TGT_CFG.ENABLE i && !d.on EVC_TGT_CFG.ENABLE i then d.targetOff i else d
  else if id = EVC_SRC_CFG.ENABLE.id then (if d.on EVC_SRC_CFG.ENABLE i && !old.on EVC_SRC_CFG.ENABLE i then d.latchShown i else d)
  else d

/-- Everything that follows a list of changed fields. -/
def Dev.settle (d old : Dev) (l : List (Nat × Nat)) : Dev :=
  ((l.foldl (fun d e => d.fieldAfter old e.1 e.2) d).deriveAll).runsEnd

/-- COX_PORT_GUAR shows the last commit, which a direct write is not (R180, R186). DEDUCED (log 28). -/
def Dev.guarKept (d old : Dev) : Dev :=
  [COX_PORT_GUAR.AVAIL_KBPS.id, COX_PORT_GUAR.FREE_KBPS.id].foldl (fun d k => { d with f := d.f.set k (old.f.get k []) [] }) d

/-- The opcodes an image section may hold (Table 113), as commands. -/
def imageSpecs : List KSpec := [kLaneLaunchCfg, kLaneEqSet, kLanePolarity, kLanePattern, kPortLayout, kPortMacCfg, kPortSaSet,
  kPortDeal, kGalPortCfg, kGalClassCfg, kGalMap, kGalScrubCfg, kCoxPortShape, kCoxClassCfg, kPtnSet, kPtnPolice, kCoxTelem,
  kTimLaneLat, kTimPortCfg, kGateClassCfg, kGatePortCfg, kGateListLoad, kGateListCommit, kGateStop, kTimEnable,
  kPrfProfileSet, kPrfStreamSet, kEvcSrcCfg, kEvcVecCfg, kEvcTgtCfg, kEvcTsetSet, kEvcSbCfg, kFltReactionSet, kFltSafeCfg,
  kLckCfg]

def inSpans (n : Nat) (l : List (Nat × Nat)) : Bool := l.any fun r => decide (r.1 ≤ n) && decide (n ≤ r.2)

/-- Table 113: an opcode may stand in a section, the forme being mode 15. -/
def opAllowed (mode op : Nat) : Bool :=
  let every := [(0x0402, 0x0402), (0x0601, 0x0603)]
  let wide := every ++ [(0x0403, 0x0404), (0x0501, 0x0503), (0x0506, 0x0506), (0x0604, 0x0605), (0x0705, 0x070B), (0x0801, 0x0802)]
  if mode = 15 then inSpans op (wide ++ [(0x0305, 0x0307), (0x0401, 0x0401), (0x070D, 0x070D), (0x0A01, 0x0A05), (0x0B03, 0x0B04),
    (0x0C01, 0x0C01)])
  else if mode = 7 then inSpans op every
  else if mode = 6 then false
  else if mode = 5 then inSpans op ((0x0308, 0x0308) :: wide)
  else inSpans op wide

/-- What running packets gives: the device, the fields and heat lists written. -/
structure Ran where
  dev : Dev
  wrote : List (Nat × Nat)
  lists : List Nat

/-- The packets of a section in order, each checked by steps 5 and 8 to 10 (R318) and applied; a refusal with the offset
of its packet. -/
def runPkts (c : Cx) : List SecPkt → Ran → Except (Ref × Nat) Ran
  | [], x => .ok x
  | k :: r, x =>
    match imageSpecs.find? fun s => s.opcode == k.opcode with
    | none => .error (refOf stUnknown 0x0104, k.off)
    | some s => match s.form k.pkt with
      | some e => .error (e, k.off)
      | none => match s.run c k.pkt x.dev with
        | .error e => .error (e, k.off)
        | .ok y => runPkts c r ⟨y.dev, x.wrote ++ y.wrote, x.lists ++ y.lists⟩

/-- The section of a mode, none where the copy in use has none. -/
def Dev.overlay (d : Dev) (m : Nat) : Option Section := d.cmp.overlays.find? fun s => s.mode == m

/-- The heat list of a port returns to the forme's (R330): its list becomes pending, or a stop does; a list that is only
pending is withdrawn. DEDUCED (log 37). -/
def Dev.listReturn (d : Dev) (p : Nat) : Except Ref Dev :=
  if !d.isLanePort p then .ok d
  else match d.cmp.formeLists.find? fun l => l.port == p with
    | some l =>
      let s := d.staging p
      match (if d.stagingPends p then d.imminent p else none) with
      | some r => .error r
      | none =>
        if 131072 < d.storeUsed - d.get (slotCount s) p + l.entries.length then .error (refOf stResource 0x0708)
        else .ok ((d.listLoad p 0 l.entries.length l.entries).listCommit p l.cycle l.sec l.ns)
    | none =>
      if d.get GATE_PORT_STATUS.STATE p = gsRun then
        match d.imminent p with
        | some r => .error r
        | none => .ok (d.gateStop p)
      else if d.on GATE_PORT_STATUS.PENDING p then
        .ok (((d.slotFree p (d.get X.GATE_PSLOT p)).puts p [(GATE_PORT_STATUS.PENDING, 0)]).gateIdle p)
      else .ok d

/-- The section-table index of a section, 0 for an overlay the copy has none of. -/
def sectionIndex (sec : Option Section) : Nat := (sec.map (·.index)).getD 0

/-- The lists of a list of ports return, in order. -/
def Dev.listsReturn : List Nat → Dev → Except Ref Dev
  | [], d => .ok d
  | p :: r, d => match d.listReturn p with
    | .error e => .error e
    | .ok d => Dev.listsReturn r d

/-- Return owned fields to their forme values (R330). -/
def Dev.ownedReturn (d : Dev) : Dev :=
  d.cmp.owned.foldl (fun d e => match fldById e.1 with
    | some F => d.setCfg F e.2 (fldGet d.cmp.forme F e.2)
    | none => d) d

/-- The fields PROOF lets be set are cleared when it is left (R77). -/
def proofIds : List Nat := [LN_PAT_CTL.TX_PAT.id, LN_PAT_CTL.RX_PAT.id, LN_CTL.LOOPBACK.id, PCS_CTL.FAR_LOOP.id]
def Dev.proofClear (d : Dev) : Dev := { d with f := d.f.filter fun p => !proofIds.contains p.1 }

/-- The quiesce of SERVICE is lifted: the values held are those of RX_EN and TX_EN again, and DIRECT_WRITES clears (R334,
R335). -/
def Dev.quiesceLift (d : Dev) : Dev :=
  let d' := d.cmp.heldEn.foldl (fun d e => d.puts e.1 [(MAC_PORT_CFG.RX_EN, e.2 % 2), (MAC_PORT_CFG.TX_EN, e.2 / 2 % 2)]) d
  { d'.put CMP_IMG_STATUS.DIRECT_WRITES 0 0 with cmp := { d.cmp with quiesce := false, heldEn := [] } }

/-- A class that holds stored frames may not leave GALLEY (R153). -/
def Dev.leavesGalley (c : Ctl) (old d : Dev) : Option Ref :=
  (old.galleyClasses.find? fun pc => d.fcMode pc != fcGalley && old.get GAL_PC_STATUS.OCCUPANCY pc != 0).map fun pc =>
    refObj (old.word c .galclass 0x28 pc) (pc / 16)

/-- A context whose queue holds frames may not be bound afresh or disabled (R176). -/
def Dev.leavesQueue (c : Ctl) (old d : Dev) : Option Ref :=
  (((old.keys PTN_CFG.ENABLE)).find? fun q => old.ptnDepth q != 0 && (d.ptnKey q != old.ptnKey q || !d.on PTN_CFG.ENABLE q)).map
    fun q => refObj (old.word c .ptn 0x38 q) q 0x060A

/-- The packets that write a port's heat list. -/
def listOpcode (o : Nat) : Bool := o == 0x0709 || o == 0x070A || o == 0x070B

/-- A configuration built beside the live one: `from_` is the live device with the fields returned, `back` what was
returned, `lists` the ports whose lists return. Checks run on a copy; what is left is the live device with the final
values, its lists switched, and all that follows (R306, R332). The section index and offset go with a packet's refusal. -/
def Dev.combine (c : Cx) (d from_ : Dev) (back : List (Nat × Nat)) (lists : List Nat) (sec : Option Section) :
    Except (Ref × Nat × Nat) Ran :=
  let pkts := (sec.map (·.pkts)).getD []
  let idx := sectionIndex sec
  match (from_.settle d back).listsReturn lists with
  | .error e => .error (e, idx, 0)
  | .ok x => match runPkts c pkts ⟨x, [], []⟩ with
    | .error (e, off) => .error (e, idx, off)
    | .ok ran =>
      match (d.adopt ran.dev).listsReturn lists with
      | .error e => .error (e, idx, 0)
      | .ok y => match runPkts c (pkts.filter fun k => listOpcode k.opcode) ⟨y, [], []⟩ with
        | .error (e, off) => .error (e, idx, off)
        | .ok z =>
          let n := z.dev.settle d (back ++ ran.wrote)
          match (n.leavesGalley c.ctl d |>.orElse fun _ => n.leavesQueue c.ctl d) with
          | some e => .error (e, idx, 0)
          | none => .ok ⟨n, ran.wrote.eraseDups, ran.lists.eraseDups⟩

/-- The combined configuration of mode `m` from the mode in force, admitted (R332, R335). DEDUCED (log 36). -/
def Dev.modeBuild (c : Cx) (d : Dev) (cur : Option Mode) (m : Mode) : Except (Ref × Nat × Nat) Ran :=
  let lift := if cur = some .service then d.quiesceLift else d
  let back := if cur.isSome then lift.ownedReturn else lift
  let ids := if cur.isSome then d.cmp.owned else []
  let lists := if cur.isSome then d.cmp.ownedLists else []
  let pats := if cur = some .proof then
      [LN_PAT_CTL.RX_PAT, LN_PAT_CTL.TX_PAT, LN_CTL.LOOPBACK].flatMap fun F => (d.keys F).map fun n => (F.id, n)
    else []
  let from_ := if cur = some .proof then back.proofClear else back
  let c := { c with mode := m.code }
  match d.combine c from_ (ids ++ pats) lists (d.overlay m.code) with
  | .error e => .error e
  | .ok x =>
    match (x.dev.galOff c.ctl).orElse fun _ => (x.dev.admitAll m.code).map Adm.ref with
    | some e => .error (e, sectionIndex (d.overlay m.code), 0)
    | none => .ok { x with dev := if cur = some .service then x.dev.put CMP_IMG_STATUS.DIRECT_WRITES 0 0 else x.dev }

/-- What the commit of a mode switch does beyond the fields (Table 116 steps 4 to 6): the quiesce of SERVICE, the new
owners, the count, domain 33 on entry to ECONOMY (R370), and the event, which waits for that domain to be OFF. -/
def Dev.modeEnter (x : Ran) (m : Mode) : Dev :=
  let d := x.dev
  let d := { d with cmp := { d.cmp with
    owned := x.wrote
    ownedLists := x.lists
    quiesce := m == Mode.service } }
  let d := if m = .service then d.deriveAll else d
  let d := d.inc CMP_MODE_SWITCHES.COUNT 0
  if m = .economy ∧ !d.fnEnabled ∧ (d.pd 33).st ≠ 0 then (d.powerDown 33).put X.CMP_ECO 0 1 else d.stateEvent 3 m.code

/-- The SAFE overlay on the live configuration, admitted (R336): cfg.mode is the base mode. -/
def Dev.safeBuild (c : Cx) (d : Dev) (base : Option Mode) : Except Ref Ran :=
  let b := (base.map Mode.code).getD 0
  match d.combine { c with mode := b } d [] [] (d.overlay 7) with
  | .error e => .error e.1
  | .ok x =>
    match (x.dev.galOff c.ctl).orElse fun _ => (x.dev.admitAll b).map Adm.ref with
    | some e => .error e
    | none => .ok x

/-- Restore the values SAFE entry saved (R336). -/
def Dev.safeReturn (d : Dev) : Dev :=
  let l := d.cmp.safeSaved
  let n := l.foldl (fun d e => match fldById e.1 with
    | some F => d.setCfg F e.2.1 e.2.2
    | none => d) d
  let n := n.settle d (l.map fun e => (e.1, e.2.1))
  { n with cmp := { n.cmp with safeSaved := [] } }

end Sys2Proof.Machine
end

