-- ==== Sys2Proof/Machine/Image.lean ====
section
/-!
DEFINITION. The Exsetha image (12_image_forme_and_modes.md): checking a copy (R316 to R319), choosing and trying copies
at start-up (R320 to R323), write sessions (R325 to R329), and changing mode (R332, R324).
-/
namespace Sys2Proof.Machine
open F

/-- The bytes of a copy from an offset on, its header given apart. DESIGN CHOICE (log 7). -/
def copyBytes (t : List Host.Cell) (hdr : List Nat) (c a n : Nat) : List Nat :=
  (hdr.drop a).take n ++ nats (getCells t (copyBase c + max a 64) (a + n - max a 64) 0xFF)

/-- The header a copy has in flash. -/
def flashHeader (t : List Host.Cell) (c : Nat) : List Nat := nats (getCells t (copyBase c) 64 0xFF)

/-- A field of a header or a section-table entry. -/
def leField (l : List Nat) (a n : Nat) : Nat := ofLeBytes ((l.drop a).take n)

/-- The offset of the first header field outside Table 111. -/
def formatFault (h : List Nat) : Option Nat :=
  let len := leField h 12 4
  (([(leField h 4 1 == 1, 4), (leField h 5 1 == 9, 5), (decide (leField h 6 1 ≤ 6) || leField h 6 1 == 15, 6),
    (decide (1 ≤ leField h 7 1) && decide (leField h 7 1 ≤ 9), 7),
    (decide (1 ≤ leField h 8 4) && decide (leField h 8 4 ≤ 0xFFFFFFFE), 8),
    (decide (112 ≤ len) && decide (len ≤ 16777216) && len % 8 == 0, 12)] : List (Bool × Nat)).find? fun x => !x.1).map (·.2)

/-- A section-table entry (Table 112). -/
structure SecEnt where
  kind : Nat
  mode : Nat
  rsv : Nat
  off : Nat
  size : Nat
  count : Nat

def secEnt (l : List Nat) : SecEnt := ⟨leField l 0 1, leField l 1 1, leField l 2 2, leField l 4 4, leField l 8 4, leField l 12 4⟩

/-- An entry keeps to Table 112 and R317 beside those before it, in a copy of `len` bytes with `n` sections. -/
def SecEnt.ok (e : SecEnt) (before : List SecEnt) (n len : Nat) : Bool :=
  ((e.kind == 1 && e.mode == 15) || (e.kind == 2 && decide (e.mode ≤ 7))) && e.rsv == 0 && e.off % 8 == 0 &&
    decide (64 + 16 * n ≤ e.off) && decide (e.off + e.size ≤ len) && !(e.kind == 2 && e.mode == 6 && e.count != 0) &&
    before.all fun b => b.mode != e.mode && (decide (b.off + b.size ≤ e.off) || decide (e.off + e.size ≤ b.off))

/-- The number of the first entry that breaks R317. -/
def secFault (n len : Nat) : List SecEnt → List SecEnt → Option Nat
  | _, [] => none
  | before, e :: r => if e.ok before n len then secFault n len (before ++ [e]) r else some before.length

/-- The packets of a section body placed end to end, or the offset of the first that is not framed (R317). -/
def sectionPkts : Nat → List Nat → Nat → Except Nat (List SecPkt)
  | 0, l, off => if l.isEmpty then .ok [] else .error off
  | n + 1, l, off =>
    match decodePkt 65 l with
    | .error _ => .error off
    | .ok (op, p) =>
      if p.dryRun ∨ p.clear then .error off
      else (sectionPkts n (l.drop (32 + p.plen)) (off + 32 + p.plen)).map fun r => ⟨op, off, p⟩ :: r

/-- The sections of a list of entries, numbered from `i`, with their bodies read. -/
def sectionsOf (body : SecEnt → List Nat) : Nat → List SecEnt → Except Nat (List Section)
  | _, [] => .ok []
  | i, e :: r =>
    match sectionPkts e.count (body e) e.off with
    | .error o => .error o
    | .ok l => (sectionsOf body (i + 1) r).map fun s => ⟨e.mode, i, l⟩ :: s

/-- The first packet whose opcode its section may not hold (Table 113). -/
def opcodeFault (l : List Section) : Option Nat :=
  (l.flatMap fun s => (s.pkts.filter fun k => !opAllowed s.mode k.opcode).map (·.off)).head?

/-- Check a copy in the order of Table 114: RESULT, FAIL_OFFSET, and the sections of a copy that passes. DEDUCED (log 32). -/
def checkCopy (t : List Host.Cell) (hdr : List Nat) (c : Nat) : Nat × Nat × List Section :=
  let n := leField hdr 7 1
  let len := leField hdr 12 4
  if leField hdr 0 4 ≠ 0x39535845 then (1, 0, [])
  else if crcOf crc32c (hdr.take 60) ≠ leField hdr 60 4 then (2, 60, [])
  else match formatFault hdr with
    | some o => (3, o, [])
    | none =>
      if crcOf crc32c (copyBytes t hdr c 64 (len - 64)) ≠ leField hdr 56 4 then (4, 56, [])
      else
        let ents := (List.range n).map fun i => secEnt (copyBytes t hdr c (64 + 16 * i) 16)
        match (secFault n len [] ents).orElse fun _ => if ents.any (fun e => e.kind == 1) then none else some 0 with
        | some i => (5, 64 + 16 * i, [])
        | none => match sectionsOf (fun e => copyBytes t hdr c e.off e.size) 0 ents with
          | .error o => (6, o, [])
          | .ok l => match opcodeFault l with
            | some o => (7, o, [])
            | none => (0, 0, l)

/-- Show what a copy was found to be (R319, R337). DEDUCED (log 33). -/
def Dev.copyShow (d : Dev) (c status result fail : Nat) (h : List Nat) : Dev :=
  d.puts 0 ((if status = 0 ∨ status = 3 then [(copyGen c, 0), (copyLen c, 0), (copyStart c, 15), (copySections c, 0)]
    else [(copyGen c, leField h 8 4), (copyLen c, leField h 12 4), (copyStart c, leField h 6 1), (copySections c, leField h 7 1)]) ++
    [(copyStatus c, status), (copyResult c, result), (copyFail c, fail)])

/-- The power-domain requests of direct writes return to the factory default (R321, R323, R384): what was requested on is
switched off again. DEDUCED (log 33). -/
def Dev.pdFactory (d : Dev) : Dev :=
  (List.range 34).foldl (fun d k => if bitAt (d.get CPX_PD_CTL.REQ 0) k then (d.powerDown k).pllsStop k else d) d

/-- Return every configuration field to its factory default, with the layout, the heat lists and what follows (R321). DEDUCED (log 33). -/
def Dev.factory (d : Dev) : Dev :=
  let eights := (List.range 8).flatMap fun i => d.keys (LN_EIGHT_PORTMAP.FIRST i) ++ d.keys (LN_EIGHT_PORTMAP.WIDTH i)
  let lanes := [LN_RX_EQ.POLE, LN_RX_EQ.DCGAIN, LN_RX_EQ.PEAK, LN_RX_EQ.ADAPT, LN_TX_EQ.AMP].flatMap d.keys
  let n := d.each d.lanePorts Dev.gateDrop
  let n := n.each (n.keys EVC_SRC_CFG.ENABLE) Dev.srcClear
  let n := n.each (n.keys EVC_TGT_CFG.ENABLE) Dev.targetOff
  let n : Dev := { n with
    f := n.f.filter fun p => !cfgIds.contains p.1 && !layoutId p.1
    buckets := [] }
  let n := n.each eights.eraseDups fun n e => n.emit (.layout e 0x3333333B)
  let n := n.each (d.keys PTN_CFG.ENABLE) Dev.presentPtn
  (((n.each lanes.eraseDups Dev.eqLive).deriveAll).guarKept Dev.blank).pdFactory

/-- Why a copy could not be applied: its refusal, RESULT, cfg.mode of the pass, section and packet offset (R322). -/
structure Failed where
  ref : Ref
  result : Nat
  mode : Nat
  section_ : Nat
  off : Nat

/-- A pass of R321: an overlay applied on top, and the procedures of R146, R180 and R217. DEDUCED (log 32). -/
def Dev.loadPass (c : Cx) (d : Dev) (sec : Option Section) (m : Nat) : Except Failed Dev :=
  match runPkts { c with mode := m } ((sec.map (·.pkts)).getD []) ⟨d, [], []⟩ with
  | .error (r, off) => .error ⟨r, 8, m, sectionIndex sec, off⟩
  | .ok x => match x.dev.admitAll m with
    | some a => .error ⟨a.ref, 9, m, sectionIndex sec, 0⟩
    | none => .ok x.dev

/-- The heat lists a configuration has pending, as the forme commits them (R330). -/
def Dev.pendingLists (d : Dev) : List FormeList :=
  (d.lanePorts.filter fun p => d.on GATE_PORT_STATUS.PENDING p && !d.on X.GATE_STOP_PEND p).map fun p =>
    let s := d.get X.GATE_PSLOT p
    ⟨p, d.get (slotCycle s) p, d.get (slotSec s) p, d.get (slotNs s) p,
      (List.range (d.get (slotCount s) p)).map fun i => d.get GATE_HEAT.ENTRY (d.get (slotBase s) p + i)⟩

/-- Try a copy (R321): what stands is the configuration of pass 1. -/
def Dev.tryCopy (c : Cx) (d : Dev) (secs : List Section) (start : Nat) : Except Failed Dev :=
  let c := { c with mode := 0, image := true }
  let forme := secs.find? fun s => s.mode == 15
  match runPkts c ((forme.map (·.pkts)).getD []) ⟨d.factory, [], []⟩ with
  | .error (r, off) => .error ⟨r, 8, 15, sectionIndex forme, off⟩
  | .ok x => match x.dev.admitAll 0 with
    | some a => .error ⟨a.ref, 9, 0, sectionIndex forme, 0⟩
    | none =>
      let m := if start = 15 then 0 else start
      match (if start = 15 then .ok x.dev else x.dev.loadPass c (secs.find? fun s => s.mode == start) m) with
      | .error e => .error e
      | .ok y => match y.loadPass c (secs.find? fun s => s.mode == 7) m with
        | .error e => .error e
        | .ok _ => .ok { x.dev.each x.dev.allPorts Dev.coxDerive with cmp := { x.dev.cmp with
            overlays := secs.filter fun s => s.mode != 15
            forme := cfgPart x.dev.f
            formeLists := x.dev.pendingLists
            startMode := if start = 15 then none else some start } }

/-- Record a copy that could not be applied (R322). -/
def Dev.loadFailed (d : Dev) (c : Nat) (e : Failed) : Dev :=
  d.puts 0 [(CMP_IMG_LOAD.STATUS, e.ref.status), (CMP_IMG_LOAD.MODE, e.mode), (CMP_IMG_LOAD.SECTION, e.section_),
    (CMP_IMG_LOAD.COPY, c), (CMP_IMG_LOAD.DETAIL, e.ref.detail), (CMP_IMG_LOAD.OFFSET, e.off), (copyResult c, e.result),
    (copyFail c, e.off)]

/-- Try copies in order (R320, R322): the first that can be used, and whether one before it failed. -/
def Dev.tryCopies (c : Cx) (secs : Nat → List Section) : List Nat → Bool → Dev → Dev
  | [], failed, d =>
    if failed then (d.factory.put CMP_IMG_STATUS.FALLBACK 0 1).fault 3 0 sevDegraded 1 else d.fault 3 0 sevDegraded 0
  | k :: r, failed, d =>
    match d.tryCopy c (secs k) (d.get (copyStart k) 0) with
    | .error e => Dev.tryCopies c secs r true (d.loadFailed k e)
    | .ok n =>
      let n : Dev := { n.puts 0 [(CMP_IMG_STATUS.SOURCE, k), (CMP_IMG_STATUS.GENERATION, d.get (copyGen k) 0)] with
        cmp := { n.cmp with inUse := some k } }
      if failed then (n.put CMP_IMG_STATUS.FALLBACK 0 1).fault 5 0 sevNotice k else n

/-- Check a copy and show the result; a flash read that fails for good leaves it EMPTY (R319, R363). -/
def Dev.checkShow (d : Dev) (t : List Host.Cell) (c : Nat) (fail : Option Nat) : Dev × List Section :=
  match fail with
  | some o => (d.copyShow c 0 1 o [], [])
  | none =>
    let h := flashHeader t c
    let x := checkCopy t h c
    (d.copyShow c (if x.1 = 0 then 1 else if x.1 = 1 then 0 else 2) x.1 x.2.1 h, x.2.2)

/-- Copy checking and trying (R319 to R323). `failA` and `failB` hold the offset of a flash read that failed. -/
def Dev.imageLoad (c : Cx) (d : Dev) (failA failB : Option Nat) : Dev :=
  let t := c.mem.flash
  let (d, sa) := d.checkShow t 0 failA
  let (d, sb) := d.checkShow t 1 failB
  let secs := fun k => if k = 0 then sa else sb
  let ga := d.get (copyGen 0) 0
  let gb := d.get (copyGen 1) 0
  let a := d.get (copyStatus 0) 0 == 1
  let b := d.get (copyStatus 1) 0 == 1
  let len := d.get (copyLen 0) 0
  let same := len == d.get (copyLen 1) 0 &&
    copyBytes t (flashHeader t 0) 0 0 len == copyBytes t (flashHeader t 1) 1 0 len
  if a && b && ga == gb && !same then
    let d := (d.put CMP_IMG_STATUS.CONFLICT 0 1).fault 4 0 sevSerious ga
    { d with cmp := { d.cmp with safeHeld := true } }
  else
    let order := if a && b then (if ga = gb then [0] else if gb < ga then [0, 1] else [1, 0])
      else if a then [0] else if b then [1] else []
    Dev.tryCopies c secs order false d

/-- The session of an issuer for a copy (R326 to R328). -/
def Dev.holds (d : Dev) (p : Pkt) : Option Session :=
  match d.cmp.session with
  | some s => if d.get CMP_IMG_WRITE.ISSUER 0 = p.issuer ∧ d.get CMP_IMG_WRITE.COPY 0 = p.target then some s else none
  | none => none

/-- A command of a copy. -/
def copyRun (g : Cx → Pkt → Dev → Except Ref Done) : Cx → Pkt → Dev → Except Ref Done := fun c p d =>
  if p.target < 2 then g c p d else .error refRange

/-- IMAGE_INFO (R329). -/
def kImageInfo : KSpec := kspec 0x0202 0 .none [] .query fun c p d =>
  .ok (doneRead c p d ([0x3220000, 0x3220010, 0x3220018, 0x3220020, 0x3220028].map fun o => (.glob, o, 0)))

/-- IMAGE_WRITE_BEGIN (R325). DEDUCED (log 34). -/
def kImageWriteBegin : KSpec := kspec 0x0203 1 .other [2 ^ 64 - 1] .config (copyRun fun _ p d =>
  let c := p.target
  let len := p.word 0 % 2 ^ 32
  let gen := p.word 0 / 2 ^ 32
  let other := d.get (copyStatus (1 - c)) 0 = 1
  if len < 112 ∨ 16777216 < len ∨ len % 8 ≠ 0 then .error (refOf stRange 0x0201)
  else if gen = 0 ∨ 0xFFFFFFFE < gen ∨ (other ∧ gen ≤ d.get (copyGen (1 - c)) 0) then .error (refOf stRange 0x0202)
  else if d.cmp.inUse = some c ∧ ¬ other then .error (refOf stState 0x0203)
  else
    let d := if d.cmp.session.isSome then d.sessionEnd else d
    let d := (d.copyShow c 3 (d.get (copyResult c) 0) (d.get (copyFail c) 0) []).puts 0 [(CMP_IMG_WRITE.ACTIVE, 1), (CMP_IMG_WRITE.COPY, c),
      (CMP_IMG_WRITE.ISSUER, p.issuer), (CMP_IMG_WRITE.NEXT_OFFSET, 0)]
    let d := d.emit (.flashErase c)
    .ok { doneWait { d with cmp := { d.cmp with session := some ⟨gen, len, []⟩ } } (.flash []) with flash := [.erase c] })

/-- IMAGE_WRITE_DATA (R326): bytes 0 to 63 stay in the compositor's buffer. DEDUCED (log 34). -/
def kImageWriteData : KSpec := ⟨0x0204, fun n => decide (1 ≤ n), false, false, false, .other, [2 ^ 32 - 1], 2 ^ 64 - 1, .config, 0,
  copyRun fun _ p d =>
    match d.holds p with
    | none => .error (refOf stState 0x0204)
    | some x =>
      let off := p.word 0
      let data := wordBytes (p.words.drop 1)
      if off ≠ d.get CMP_IMG_WRITE.NEXT_OFFSET 0 ∨ x.length < off + data.length then .error (refOf stRange 0x0205)
      else
        let late := byteList (data.drop (64 - off))
        let d : Dev := { d.put CMP_IMG_WRITE.NEXT_OFFSET 0 (off + data.length) with
          cmp := { d.cmp with session := some { x with header := x.header ++ byteList (data.take (64 - off)) } } }
        if late.isEmpty then .ok (done d)
        else .ok { doneWait d (.flash []) with flash := [.write p.target (max off 64) late] }⟩

/-- IMAGE_WRITE_END (R327). -/
def kImageWriteEnd : KSpec := kspec 0x0205 0 .other [] .config (copyRun fun c p d =>
  match d.holds p with
  | none => .error (refOf stState 0x0204)
  | some x =>
    if d.get CMP_IMG_WRITE.NEXT_OFFSET 0 < x.length then .error (refOf stState 0x0206)
    else
      let h := nats x.header
      let y := checkCopy c.mem.flash h p.target
      let r := if y.1 ≠ 0 then (y.1, y.2.1)
        else if leField h 8 4 ≠ x.generation then (10, 8)
        else if leField h 12 4 ≠ x.length then (10, 12)
        else (0, 0)
      let d := d.copyShow p.target (if r.1 = 0 then 1 else 0) r.1 r.2 h
      let d := if r.1 = 0 then d.inc CMP_IMG_WRITES.COUNT 0 else d
      .ok { doneWait d (.flash [r.1 + r.2 * 2 ^ 32]) with flash := if r.1 = 0 then [.write p.target 0 x.header] else [] })

/-- IMAGE_READ (R329). -/
def kImageRead : KSpec := kspec 0x0206 1 .other [2 ^ 48 - 1] .query (copyRun fun c p d =>
  let off := p.word 0 % 2 ^ 32
  let len := p.word 0 / 2 ^ 32
  if off % 8 ≠ 0 ∨ len % 8 ≠ 0 ∨ len < 8 ∨ 32768 < len then .error refRange
  else if 16777216 < off + len then .error (refOf stRange 0x0205)
  else if d.cmp.session.isSome ∧ d.get CMP_IMG_WRITE.COPY 0 = p.target then .error (refOf stState 0x0207)
  else .ok (doneWait d (.flash (bytesWords c.mem.flash (copyBase p.target + off) len 0xFF))))

/-- IMAGE_ABORT (R328). -/
def kImageAbort : KSpec := kspec 0x0207 0 .other [] .config (copyRun fun _ p d =>
  if (d.holds p).isSome then .ok (done d.sessionEnd) else .error (refOf stState 0x0204))

/-- COMMAND_WAIT_END (R306): the flash operation an issuer's command waits for has ended, and the session ends with the
reply of IMAGE_WRITE_END (Table 108); or the EASY entry it waits for was given up because its port left ACTIVE. DESIGN CHOICE (log 94). -/
def State.waitEnd (s : State) (issuer : Nat) : State :=
  match s.dev.cmp.waits.find? fun w => w.t.issuer == issuer with
  | none => s
  | some w => match w.why with
    | .flash body =>
      let d := if w.t.opcode = 0x0205 then s.dev.sessionEnd else s.dev
      let s : State := { s with dev := { d with cmp := { d.cmp with waits := d.cmp.waits.filter fun x => x.t.issuer != issuer } } }
      s.reply w.t 0 0 body
    | .easy p =>
      if (s.dev.port p).entering then s
      else
        let s : State := { s with dev := { s.dev with cmp := { s.dev.cmp with
          waits := s.dev.cmp.waits.filter fun x => x.t.issuer != issuer } } }
        s.replyRef w.t (s.dev.launchRef s.ctl p)
    | _ => s

/-- Ports whose transmit direction is EASY or on its way out of it (R332 step 3). -/
def Dev.easyTx (d : Dev) : List Nat := d.lanePorts.filter fun p => d.on LN_EASY.TX_EASY p || (d.port p).txWake

/-- Ports in the middle of a transmit EASY entry (Table 36). -/
def Dev.enteringTx (d : Dev) : List Nat := d.lanePorts.filter fun p => (d.port p).entering

/-- An EASY entry is cancelled: the commas return to TX_EASY_NEXT = 0 and the cox resumes (R100). DEDUCED (log 36). -/
def Dev.easyCancel (d : Dev) (p : Nat) : Dev := d.setPort p { d.port p with entering := false, coxHold := false }

/-- MODE_SET (R332): from ECONOMY the entries in progress are cancelled as a LANE_WAKE cancels them, and the wakes of Table
116 step 3 come first. -/
def kModeSet : KSpec := kspec 0x0201 0 .other [] .modeSet (dry := true) fun c p d =>
  match modeOf p.target with
  | none => .error (refOf stRange 0x0208)
  | some m =>
    let cur := if c.ctl.state = .running then c.ctl.mode else none
    if cur = some m then .ok (done d)
    else match d.modeBuild c cur m with
      | .error e => .error e.1
      | .ok x =>
        let enter := if cur = some .economy then d.enteringTx else []
        if cur = some .economy ∧ (!d.easyTx.isEmpty ∨ !d.pdOn 33) then
          let d := (d.each enter Dev.easyCancel).each (d.easyTx.filter fun q => !(d.port q).txWake) Dev.wakeTx
          .ok { doneWait (if d.pdOn 33 then d else d.powerUp 33) .modeSwitch with ctl := .wakes m, release := enter.map .easy }
        else
          let n := (Dev.modeEnter x m).each enter Dev.easyCancel
          .ok { (if n.on X.CMP_ECO 0 then doneWait n .ecoOff else done n) with ctl := .mode m, release := enter.map .easy }

/-- The mode switch that waited for its wakes commits (Table 116 step 4). A refusal then, from what changed meanwhile,
is the reply. DEDUCED (log 36). -/
def State.modeCommit (s : State) : State :=
  match s.ctl.switching with
  | some m =>
    if !s.dev.easyTx.isEmpty ∨ !s.dev.pdOn 33 ∨ s.dev.on FLT_STATUS.ENTERING 0 then s
    else match s.dev.modeBuild s.cx s.ctl.mode m with
      | .error e =>
        let s : State := { s with
          ctl := { s.ctl with switching := none }
          dev := s.dev.inc CMP_MODE_REFUSED.COUNT 0 }
        s.replyWaits (· == .modeSwitch) e.1.status e.1.detail fun _ => [e.1.arg0, e.1.arg1]
      | .ok x =>
        let s : State := { s with
          ctl := (CtlOp.mode m).apply s.ctl
          dev := Dev.modeEnter x m }
        s.replyWaits (· == .modeSwitch)
  | none => s

/-- Domain 33 has settled after a switch into ECONOMY: the event fires and the reply is written (Table 116 step 6). DEDUCED (log 36). -/
def State.ecoSettled (s : State) : State :=
  if s.dev.on X.CMP_ECO 0 ∧ (s.dev.pd 33).st ≠ 3 ∧ !(s.dev.pd 33).downWait then
    ({ s with dev := (s.dev.put X.CMP_ECO 0 0).stateEvent 3 Mode.economy.code } : State).replyWaits (· == .ecoOff)
  else s

/-- The switch to the image's START_MODE (R324): on entry to READY, or when SAFE is left to READY. DEDUCED (log 25). -/
def State.startSwitch (s : State) : State :=
  match s.dev.cmp.startMode.bind modeOf with
  | some m =>
    if s.ctl.state ≠ .ready ∨ s.dev.on FLT_STATUS.ENTERING 0 then s
    else
      let d : Dev := { s.dev.put CPX_START.STEP 0 0 with cmp := { s.dev.cmp with startMode := none } }
      match d.modeBuild s.cx none m with
      | .ok x => { s with
          ctl := (CtlOp.mode m).apply s.ctl
          dev := Dev.modeEnter x m }
      | .error e =>
        let d := d.puts 0 [(CMP_IMG_LOAD.STATUS, e.1.status), (CMP_IMG_LOAD.MODE, m.code), (CMP_IMG_LOAD.SECTION, e.2.1),
          (CMP_IMG_LOAD.COPY, (d.cmp.inUse).getD 0), (CMP_IMG_LOAD.DETAIL, e.1.detail), (CMP_IMG_LOAD.OFFSET, e.2.2)]
        { s with dev := (d.inc CMP_MODE_REFUSED.COUNT 0).fault 16 0 sevDegraded (e.1.detail % 2 ^ 16 + m.code * 2 ^ 16) }
  | none => s

/-- Every opcode of Table 107. -/
def listedOpcodes : List Nat := [0x0101, 0x0102, 0x0103, 0x0104, 0x0105, 0x0201, 0x0202, 0x0203, 0x0204, 0x0205, 0x0206, 0x0207,
  0x0301, 0x0302, 0x0303, 0x0304, 0x0305, 0x0306, 0x0307, 0x0308, 0x0309, 0x0401, 0x0402, 0x0403, 0x0404, 0x0405, 0x0406,
  0x0501, 0x0502, 0x0503, 0x0504, 0x0505, 0x0506, 0x0507, 0x0508, 0x0601, 0x0602, 0x0603, 0x0604, 0x0605, 0x0606, 0x0607,
  0x0701, 0x0702, 0x0703, 0x0704, 0x0705, 0x0706, 0x0707, 0x0708, 0x0709, 0x070A, 0x070B, 0x070C, 0x070D,
  0x0801, 0x0802, 0x0803, 0x0804, 0x0805, 0x0901, 0x0902, 0x0903, 0x0904, 0x0905, 0x0906,
  0x0A01, 0x0A02, 0x0A03, 0x0A04, 0x0A05, 0x0A06, 0x0B01, 0x0B02, 0x0B03, 0x0B04, 0x0B05, 0x0C01, 0x0C02, 0x0C03, 0x0C04,
  0x0D01, 0x0D02]

def execModeSet (p : Pkt) (s : State) : Out := s.kiland kModeSet p
def execImageInfo (p : Pkt) (s : State) : Out := s.kiland kImageInfo p
def execImageWriteBegin (p : Pkt) (s : State) : Out := s.kiland kImageWriteBegin p
def execImageWriteData (p : Pkt) (s : State) : Out := s.kiland kImageWriteData p
def execImageWriteEnd (p : Pkt) (s : State) : Out := s.kiland kImageWriteEnd p
def execImageRead (p : Pkt) (s : State) : Out := s.kiland kImageRead p
def execImageAbort (p : Pkt) (s : State) : Out := s.kiland kImageAbort p
def execModeSwitchCommit (s : State) : Out := s.core State.modeCommit
def execStartModeSwitch (s : State) : Out := s.core State.startSwitch
def execCommandWaitEnd (issuer : Nat) (s : State) : Out := s.core fun s => s.waitEnd issuer
def execKilLen (issuer : Nat) (s : State) : Out := s.core fun s => s.lenRefused issuer
def execCommandPacketRefused (issuer : Nat) (bytes : List Byte) (s : State) : Out :=
  s.core fun s => s.packetRefused listedOpcodes issuer bytes

end Sys2Proof.Machine
end

