-- ==== Sys2Proof/Machine/Startup.lean ====
section
/-!
DEFINITION. Start-up and its events (14_start_up_and_reset.md), the clock and supply of the island (R360, R388), power
domains, transmit PLLs and REF_OCT windows as events, and the ends of resets (R372, R373).
-/
namespace Sys2Proof.Machine
open F

/-- The complex with the island's supply gone or fresh: nothing of the complex or the island is kept but flash, which is
another part of the chip. -/
def State.dead (s : State) : State :=
  { s with
    ctl := ⟨.powered, none, false, s.ctl.chipRef, false, false, false, none, false, none⟩
    dev := { Dev.blank with
      out := s.dev.out
      free := s.dev.free }
    mem := ⟨[], [], s.mem.flash, []⟩ }

/-- ISLAND_POWER_ON (R360): step 1 ends and step 2 begins; a first start-up. -/
def execIslandPowerOn (s : State) : Out :=
  .next (if s.ctl.supply then s else
    let n := s.dead
    { n with
      ctl := { n.ctl with
        supply := true
        chipRef := true }
      dev := n.dev.puts 0 [(CPX_START.STEP, 2), (CPX_START.STARTS, 1)] })

/-- ISLAND_SUPPLY_LOSS (R362, R36). -/
def execIslandSupplyLoss (s : State) : Out := .next (if s.ctl.supply then s.dead else s)

/-- LOCKED is left: a capture still running is given up, the impression that was VALID stays. -/
def Dev.unlock (d : Dev) : Dev := d.puts 0 [(LCK_STATUS.LOCKED, 0), (LCK_STATUS.CAPTURING, 0)]

/-- P9_CHIP_RESET (R360, R362, R388): with CHIP_REF present. DEDUCED (log 19). -/
def execP9ChipReset (s : State) : Out :=
  if !s.ctl.supply then .next s
  else if !s.ctl.chipRef then .fault .chipRefAbsent
  else
    let s := { s with dev := (s.dev.unlock).puts 0 [(CPX_START.BOOT_TRIES, 0), (CPX_START.BOOT_FAIL, 0)] }
    let s := s.complexReset 1
    .next { s with ctl := { s.ctl with refLost := false } }

/-- CHIP_REF_LOSS (R388): every clock stops. -/
def execChipRefLoss (s : State) : Out :=
  .next (if s.ctl.supply then { s with ctl := { s.ctl with
    chipRef := false
    refLost := true } } else s)

/-- CHIP_REF_RETURN (R388): the clock is back; the behaviour stays undefined until a P9 chip reset. -/
def execChipRefReturn (s : State) : Out :=
  .next (if s.ctl.supply && s.ctl.refLost then { s with ctl := { s.ctl with chipRef := true } } else s)

/-- PLL_LOCK (R27, Table 131 step 3): domain 34 leaves reset. -/
def execPllLock (s : State) : Out := s.aclk fun s =>
  if s.ctl.state = .powered ∧ s.ctl.d34 ∧ !s.ctl.pll ∧ s.dev.get CPX_START.STEP 0 = 3 then
    { s with
      ctl := { s.ctl with pll := true }
      dev := s.dev.put CPX_START.STEP 0 4 }
  else s

/-- PLL_UNLOCK (R27): FATAL in every state but LOCKED. DEDUCED (log 20). -/
def execPllUnlock (s : State) : Out := s.aclk fun s =>
  if s.ctl.pll ∧ s.ctl.state ≠ .locked then
    { s with
      ctl := { s.ctl with pll := false }
      dev := s.dev.fault 0 0 sevFatal 0 }
  else s

/-- What the fresh configuration brings: the guard need of every port in NONE (R206), and the transmit side of the
recirculation ports, which have no launch to wait for. -/
def Dev.bootDerive (d : Dev) : Dev :=
  (d.each d.lanePorts fun d p => d.put GATE_GUARD.GUARD_NEED_NS p (d.needNow p)).each recircPorts Dev.macSync

/-- COMPOSITOR_BOOT (Table 131 step 4, R311, R355, R362). -/
def execCompositorBoot (s : State) : Out := s.aclk fun s =>
  if s.ctl.state = .powered ∧ s.ctl.pll ∧ s.dev.get CPX_START.STEP 0 = 4 then
    let d := (s.dev.lckDefault.bootDerive).puts 0 [(CPX_START.STEP, 5), (CPX_START.BOOT_TRIES, 0)]
    { s with
      ctl := { s.ctl with state := .imageLoad }
      dev := if d.get CMP_MBOX_STATUS.STATE 0 = 1 then d.put CMP_MBOX_STATUS.STATE 0 2 else d }
  else s

/-- BOOT_RETRY (R362): the third failure holds the complex in POWERED with domain 34 off. DEDUCED (log 18). -/
def execBootRetry (s : State) : Out := s.aclk fun s =>
  if s.ctl.state = .powered ∧ s.dev.get CPX_START.STEP 0 = 4 then
    let n := s.dev.get CPX_START.BOOT_TRIES 0 + 1
    if n < 3 then
      let s := s.complexReset 4
      { s with dev := s.dev.put CPX_START.BOOT_TRIES 0 n }
    else
      { s with
        ctl := { s.ctl with
          pll := false
          d34 := false }
        dev := { Dev.blank with
          f := s.dev.f.filter fun p => islandField p.1
          desk := ⟨[], [], s.dev.desk.trigs, 0⟩
          out := s.dev.out
          free := s.dev.free }.puts 0 [(CPX_START.BOOT_TRIES, 3), (CPX_START.BOOT_FAIL, 1)]
        mem := { s.mem with
          mboxCmd := []
          mboxReply := [] } }
  else s

/-- COMPLEX_RESET (R310, R360): the reset a CPX_RESET asked for. -/
def execComplexReset (s : State) : Out := s.core fun s =>
  match s.dev.cmp.resetDue with
  | some cause => s.complexReset cause
  | none => s

/-- IMAGE_LOAD_COMPLETE (Table 131 steps 5 and 6): steps 7 and 8 start. DEDUCED (log 17). -/
def execImageLoadComplete (failA failB : Option Nat) (s : State) : Out := s.core fun s =>
  if s.ctl.state = .imageLoad ∧ s.dev.get CPX_START.STEP 0 = 5 then
    let d := (s.dev.imageLoad s.cx failA failB).put CPX_START.STEP 0 7
    { s with dev := (d.powerUp 32).powerNext }
  else s

/-- The training of the galley has ended. -/
def Dev.trainEnded (d : Dev) : Bool := d.on GAL_STATUS.TRAINED 0 || d.galFailed

/-- GALLEY_TRAINING_DONE (R365, R367): `failed` has a bit for each channel that failed three attempts; their faults are of one
cycle (R340), and the GALLEY classes are held XOFF from then on (R367). -/
def execGalleyTrainingDone (failed : Nat) (s : State) : Out := s.onDev fun _ d =>
  if d.get CPX_START.STEP 0 = 7 ∧ d.pdOn 32 ∧ !d.trainEnded then
    if bitList failed 64 = [] then d.put GAL_STATUS.TRAINED 0 1 else (d.channelsFail (bitList failed 64)).each d.lanePorts Dev.galleyDerive
  else d

/-- GALLEY_CLEAR_DONE (R366). -/
def execGalleyClearDone (s : State) : Out := s.onDev fun _ d =>
  if d.get CPX_START.STEP 0 = 7 ∧ d.on GAL_STATUS.TRAINED 0 ∧ !d.on GAL_STATUS.CLEARED 0 then
    (d.puts 0 [(GAL_STATUS.CLEARED, 1), (GAL_CTL.SERVICE, 1), (GAL_STATUS.IN_SERVICE, 1)]).each d.lanePorts Dev.galleyDerive
  else d

/-- Step 7 has ended, in service or with a channel FAILED, and step 8 has powered every domain it powers. -/
def Dev.readyDue (d : Dev) : Bool :=
  (d.on GAL_STATUS.IN_SERVICE 0 || d.galFailed) && (d.nextDomain startDomains).isNone

/-- READY_ENTRY (Table 131 step 9, R348, R368, R374). -/
def execReadyEntry (ms : Nat) (s : State) : Out := s.core fun s =>
  if s.ctl.state = .imageLoad ∧ s.dev.get CPX_START.STEP 0 = 7 ∧ s.dev.readyDue then
    let d := s.dev
    let d := d.puts 0 [(X.CMP_READY, 1), (CPX_START.READY_MS, min ms 65535), (CPX_START.GAL_FAIL, flag !d.on GAL_STATUS.IN_SERVICE 0),
      (CPX_START.STEP, if d.cmp.startMode.isSome then 10 else 0)]
    let d := (List.range 128).foldl (fun d e => if d.on LN_EIGHT_STATUS.REF_OK e then d else d.put X.REF_HOLD e 1) d
    let d := d.each d.lanePorts Dev.tryLaunch
    let d := d.stateEvent 2 15
    let d := if d.cmp.safeHeld then
        ({ d with cmp := { d.cmp with safeHeld := false } } : Dev).put FLT_STATUS.ENTERING 0 1
      else d
    { s with
      ctl := { s.ctl with state := .ready }
      dev := d }
  else s

/-- FW_HEARTBEAT (R340): the island's 10 ms wait, which FW_WATCHDOG ends, starts again; nothing else changes. DESIGN CHOICE (log 22). -/
def execFwHeartbeat (s : State) : Out := s.core fun s => s

/-- FW_WATCHDOG (R340). -/
def execFwWatchdog (s : State) : Out := s.onDev fun _ d => d.fault 1 0 sevFatal 0

/-- Commands that waited for domain 33 commit and reply (R370). DEDUCED (log 39). -/
def State.domain33 (s : State) : State :=
  let ws := s.dev.cmp.waits.filterMap fun w => match w.why with
    | .domain33 f image => some (f, image)
    | _ => none
  let d := ws.foldl (fun d w => d.edit (imageEdits (cfgFlds .fn 0x200) w.1 w.2)) s.dev
  ({ s with dev := d }).replyWaits fun w => match w with
    | .domain33 _ _ => true
    | _ => false

/-- DOMAIN_ON (R35): domain 34 is the island's (Table 131 step 2). -/
def execDomainOn (k : Nat) (s : State) : Out :=
  if k = 34 then s.aclk fun s =>
    if s.ctl.state = .powered ∧ s.dev.get CPX_START.STEP 0 = 2 then
      { s with
        ctl := { s.ctl with d34 := true }
        dev := s.dev.put CPX_START.STEP 0 3 }
    else s
  else s.core fun s =>
    let n : State := { s with dev := s.dev.domainOn k }
    if k = 33 then (if n.dev.pdOn 33 then n.domain33 else n).ecoSettled else n

/-- DOMAIN_OFF (R35): a switch into ECONOMY completes with domain 33 OFF. -/
def execDomainOff (k : Nat) (s : State) : Out := s.core fun s =>
  let n : State := { s with dev := s.dev.domainOff k }
  if k = 33 then n.ecoSettled else n

/-- BANK_POWER (R340). -/
def execBankPower (k : Nat) (s : State) : Out := s.onDev fun _ d => d.bankLate k

/-- DOMAIN_IDLE_OFF (R369). -/
def execDomainIdleOff (k : Nat) (s : State) : Out := s.onDev fun c d => if c.serving then d.idleOff k else d

/-- REF_WINDOW_END (R31, R32): the checkers run on ACLK in every state. -/
def execRefWindowEnd (eight count : Nat) (s : State) : Out :=
  s.onIsland fun c d => if eight < 128 then d.refWindow c.live eight count else d

/-- TX_PLL_LOCKED (R48) and TX_PLL_UNLOCK (R49). -/
def execTxPllLocked (eight : Nat) (s : State) : Out := s.onDev fun _ d => if eight < 128 then d.pllLocked eight else d
def execTxPllUnlock (eight : Nat) (s : State) : Out := s.onDev fun _ d => if eight < 128 then d.pllLost eight else d

/-- RESET_COMPLETE (R372, R373): the reset in progress of a scope ends and the requests it took in are answered. -/
def execResetComplete (scope : Scope) (s : State) : Out := s.core fun s =>
  if scope ∈ s.dev.resets ∧ s.dev.scopeSettled scope then
    ({ s with dev := s.dev.resetDone scope }).replyWaits fun w => match w with
      | .reset r => scope.holds r
      | _ => false
  else s

/-- FUNCTION_RESET_DONE (R275): the waiting commands are answered. -/
def execFunctionResetDone (f : Nat) (s : State) : Out := s.core fun s =>
  if f < 64 ∧ s.dev.on HPE_FN_STATUS.RESET_BUSY f then ({ s with dev := s.dev.fnResetDone f }).replyWaits (· == Wait.fnReset f) else s

end Sys2Proof.Machine
end

