-- ==== Sys2Proof/Machine/Lockup.lean ====
section
/-!
DEFINITION. Fault reactions (R341 to R343), SAFE entry and exit (R336, R348 to R350), lock-up, the impression and the
release (R351 to R356).
-/
namespace Sys2Proof.Machine
open F

/-- The ports a fault affects (R342), and the scope its RESET resets (Table 122). -/
def Dev.reactPorts (d : Dev) (src cls : Nat) : List Nat :=
  if cls < 48 then []
  else if cls < 50 then d.eightPorts (faultUnit src / 8)
  else ((d.portOf (faultUnit src)).map fun p => [p]).getD []
def Dev.reactScope (d : Dev) (src cls : Nat) : Option Scope :=
  if cls < 32 then none
  else if cls < 48 then some (.bank (faultUnit src))
  else if cls < 50 then some (.eight (faultUnit src / 8))
  else (d.portOf (faultUnit src)).map .port

/-- Local reactions start (R343): RESET first; PORT_DOWN in place of RETRAIN. DEDUCED (log 31). -/
def Dev.reactDo (d : Dev) (r : React) : Dev :=
  match faultClass r.source with
  | none => d
  | some cls =>
    let d := match (if bitAt r.byte 3 then d.reactScope r.source cls else none) with
      | some s => d.resetAsk s
      | none => d
    d.each (d.reactPorts r.source cls) fun d p =>
      if bitAt r.byte 2 then (d.rxAbort p).portStop p
      else if bitAt r.byte 1 && pastDetect (d.laneState p) then d.interrupt p
      else d

/-- FAULT_REACTION (R343): the oldest reaction that has not started. DEDUCED (log 76). -/
def execFaultReaction (s : State) : Out := s.onDev fun _ d =>
  match d.desk.reacts with
  | [] => d
  | r :: l => ({ d with desk := { d.desk with reacts := l } } : Dev).reactDo r

/-- A mode switch short of its commit is abandoned (R333). -/
def State.modeAbandon (s : State) : State :=
  if s.ctl.switching.isSome then
    let c := s.cx.wrongState
    let s : State := { s with
      ctl := { s.ctl with switching := none }
      dev := s.dev.inc CMP_MODE_REFUSED.COUNT 0 }
    s.replyWaits (· == .modeSwitch) c.status c.detail fun _ => [c.arg0, c.arg1]
  else s

/-- SAFE without its overlay (R336). -/
def Dev.safeSkip (d : Dev) (e : Ref) : Dev :=
  ((d.put CMP_IMG_STATUS.SAFE_OVL_SKIP 0 1).inc CMP_SAFE_OVL_SKIP.COUNT 0).fault 6 0 sevNotice (e.detail % 2 ^ 16)

/-- The SAFE overlay committed, with the values to return; or SAFE without it. DEDUCED (log 38). -/
def Dev.safeApply (c : Cx) (d : Dev) (base : Option Mode) : Dev :=
  match d.safeBuild c base with
  | .error e => d.safeSkip e
  | .ok x => { x.dev with cmp := { x.dev.cmp with
      safeSaved := x.wrote.filterMap fun e => (fldById e.1).map fun F => (e.1, e.2, d.cfgVal F e.2) } }

/-- SAFE_ENTRY (Table 123 steps 2 to 4). -/
def execSafeEntry (s : State) : Out := s.core fun s =>
  if s.dev.on FLT_STATUS.ENTERING 0 ∧ (s.ctl.state = .ready ∨ s.ctl.state = .running) then
    let s := s.modeAbandon
    let d := s.dev.safeApply s.cx s.ctl.mode
    let d := (d.puts 0 [(FLT_STATUS.ENTERING, 0), (FLT_STATUS.SAFE, 1)]).quietLoad
    let d := ((d.seen srcDesk 2).inc FLT_SAFE_ENTRIES.COUNT 0).stateEvent 4 7
    { s with
      ctl := { s.ctl with state := .safe }
      dev := d }
  else s

/-- The recovery cap holds SAFE (R350). -/
def Dev.capHolds (d : Dev) : Bool :=
  let cap := d.get FLT_SAFE_CFG.RECOV_CAP 0
  cap != 0 && decide (cap ≤ d.exitsInWin)

/-- SAFE_EXIT (R349, R350): the quiet timer reaches 0. -/
def execSafeExit (s : State) : Out := s.core fun s =>
  if s.ctl.state = .safe ∧ !s.dev.on FLT_STATUS.HELD 0 then
    if s.dev.capHolds then
      { s with dev := ((s.dev.puts 0 [(FLT_STATUS.HELD, 1), (FLT_STATUS.QUIET_LEFT_MS, 0)]).seen srcDesk 4).inc FLT_SAFE_HELD.COUNT 0 }
    else
      let d := s.dev.safeReturn
      let d := d.puts 0 [(FLT_STATUS.SAFE, 0), (FLT_STATUS.QUIET_LEFT_MS, 0)]
      let d := (d.seen srcDesk 3).inc FLT_RECOVERIES.COUNT 0
      let d : Dev := { d with desk := { d.desk with exits := (d.tim.ticks :: d.desk.exits).take 15 } }
      { s with
        ctl := { s.ctl with state := if s.ctl.mode.isSome then .running else .ready }
        dev := match s.ctl.mode with
          | some m => d.stateEvent 3 m.code
          | none => d.stateEvent 2 15 }
  else s

/-- LOCKUP_ENTRY (Table 125 steps 1 to 6): the first accepted trigger reaches the controller. DEDUCED (log 29). -/
def execLockupEntry (s : State) : Out := s.aclk fun s =>
  match s.dev.desk.trigs with
  | [] => s
  | cause :: _ =>
    if s.ctl.state = .locked then s
    else
      let d : Dev := { s.dev with desk := { s.dev.desk with trigs := [] } }
      let d := (d.put LCK_STATUS.LOCKED 0 1).inc LCK_STATUS.LOCKUPS 0
      let d := if !d.on LCK_CFG.CAPTURE_EN 0 then d
        else if d.on LCK_CFG.KEEP_FIRST 0 && d.on LCK_STATUS.VALID 0 then d.put LCK_STATUS.DISCARD_SEEN 0 1
        else d.put LCK_STATUS.CAPTURING 0 1
      { s with
        ctl := { s.ctl with
          lockFrom := some (s.ctl.state.code, s.ctl.modeCode, cause)
          state := .locked }
        dev := d.each d.lanePorts fun d p => d.emit (.lanes p .idle) }

/-- The domains that are on, a bit each (R353). -/
def State.domainsOn (s : State) : Nat :=
  (List.range 34).foldl (fun n k => if s.dev.pdOn k then setBitAt n k else n) (flag s.ctl.d34 * 2 ^ 34)

/-- The words of the fault-desk section: offset in the global block. -/
def deskRegs : List Nat := [0x3400000, 0x3400008, 0x3400010, 0x3400018, 0x3400020, 0x3400028]

/-- Bytes 0x10 to 0xFFF of an impression (Table 126): header and fault desk. -/
def State.chainHead (s : State) : List Nat :=
  let (st, mode, _) := s.ctl.lockFrom.getD (0, 15, 0)
  let d := s.dev
  let zeros := fun n => List.replicate n 0
  leBytes d.now.bits 12 ++ leBytes (flag d.tsValid) 4 ++ leBytes s.domainsOn 8 ++ [st % 16 + mode % 16 * 16] ++ zeros 7 ++ zeros 0xD0 ++
    deskRegs.flatMap (fun o => leBytes (d.word s.ctl .glob o 0) 8) ++ zeros 0xD0 ++
    (List.range 64).flatMap (fun n => leBytes (d.word s.ctl .log 0 n) 8 ++ leBytes (d.word s.ctl .log 8 n) 8) ++ zeros 0xA00

/-- A byte of the chain sections, from 0x1000 on: a section of a domain that was off reads 0 (R353). DESIGN CHOICE (log 10). -/
def State.chainAt (s : State) (a : Nat) : Nat :=
  let on := s.domainsOn
  let live := if a < 0x10000 then on / 2 ^ 32 != 0
    else bitAt on ((a - 0x10000) / 0x3000 * 2 + flag (decide (0x1800 ≤ (a - 0x10000) % 0x3000)))
  if live then (Config.chainByte (s.dev.get LCK_STATUS.LOCKUPS 0) a).toNat else 0

/-- The whole impression (Table 126). -/
def State.impressionBytes (s : State) : List Nat :=
  let cause := (s.ctl.lockFrom.map (·.2.2)).getD 0
  let body := s.chainHead ++ (List.range (0x40000 - 0x1000)).map fun i => s.chainAt (0x1000 + i)
  leBytes 0x52504D49 4 ++ [1, cause % 256, 0, 0] ++ leBytes (s.dev.get LCK_STATUS.LOCKUPS 0) 4 ++ leBytes (crcOf crc32c body) 4 ++ body

/-- The cells of a list of bytes from an address on, in canonical form. -/
def cellsOf : Nat → List Byte → List Host.Cell
  | _, [] => []
  | a, b :: r => if b = 0 then cellsOf (a + 1) r else (a, b) :: cellsOf (a + 1) r

/-- CAPTURE_COMPLETE (Table 125 step 7, R353). -/
def execCaptureComplete (s : State) : Out := s.aclk fun s =>
  if s.ctl.state = .locked ∧ s.dev.on LCK_STATUS.CAPTURING 0 then
    { s with
      mem := { s.mem with impression := cellsOf 0 (byteList s.impressionBytes) }
      dev := s.dev.puts 0 [(LCK_STATUS.CAPTURING, 0), (LCK_STATUS.VALID, 1),
        (LCK_STATUS.CAUSE, (s.ctl.lockFrom.map (·.2.2)).getD 0)] }
  else s

/-- A trigger of the pin, the side path or the TAP (Table 124). -/
def State.trigger (s : State) (en : Fld) (cause : Nat) : State :=
  if s.ctl.state ≠ .locked ∧ s.dev.on en 0 then { s with dev := s.dev.askLockup cause } else s

/-- A release is requested (R355). DEDUCED (log 29). -/
def State.askRelease (s : State) : State :=
  if s.ctl.state = .locked then { s with ctl := { s.ctl with release := true } } else s

/-- AUTO_RELEASE (R355): AUTO_RELEASE_MS has elapsed since the capture. -/
def execAutoRelease (s : State) : Out := s.aclk fun s =>
  if s.dev.on LCK_STATUS.CAPTURING 0 ∨ s.dev.get LCK_CFG.AUTO_RELEASE_MS 0 = 0 then s else s.askRelease

/-- LOCKUP_RELEASE (R355): not before the capture is done, nor while an enabled LOCKUP_REQ is asserted. -/
def execLockupRelease (s : State) : Out := s.aclk fun s =>
  if s.ctl.state = .locked ∧ s.ctl.release ∧ !s.dev.on LCK_STATUS.CAPTURING 0 ∧
      !(s.dev.on LCK_CFG.PIN_EN 0 && s.dev.on EVC_SB_MISC.LOCKUP 0) then
    ({ s with dev := s.dev.unlock }).complexReset 3
  else s

/-- LCK_SIDE_TRIGGER, LCK_SIDE_RELEASE, LCK_SIDE_CLEAR: LCK_SIDE_CTL over the side path (R351, R355, R356). -/
def execLckSideTrigger (s : State) : Out := s.aclk fun s => s.trigger LCK_CFG.SIDE_EN 4
/-- DEDUCED (log 30). -/
def execLckSideRelease (s : State) : Out := s.aclk State.askRelease
/-- DEDUCED (log 30). -/
def execLckSideClear (s : State) : Out := s.onIsland fun _ d => d.put LCK_STATUS.VALID 0 0

/-- IMPR_TRIGGER, IMPR_RELEASE, IMPR_CLEAR: the IMPR instrument (R351, R354 to R356). -/
def execImprTrigger (s : State) : Out := s.aclk fun s => s.trigger LCK_CFG.TAP_EN 5
def execImprRelease (s : State) : Out := s.aclk State.askRelease
def execImprClear (s : State) : Out := s.onIsland fun _ d => d.put LCK_STATUS.VALID 0 0

/-- IMPR_DATA (R354): IMPR_ADDR may be shifted in first; a capture returns its word and increments it. What the buffer
returns while a capture writes it is a free value. -/
def execImprData (addr : Option Nat) (s : State) : Out := s.aclk fun s =>
  let a := match addr with
    | some a => a % 2 ^ 15
    | none => s.dev.get X.IMPR_ADDR 0
  let (w, d) := if s.dev.on LCK_STATUS.CAPTURING 0 then s.dev.fresh 64
    else (ofLeBytes (nats (getCells s.mem.impression (8 * a) 8 0)), s.dev)
  { s with dev := (d.put X.IMPR_ADDR 0 (a + 1)).emit (.readData (0x3640000 + 8 * a) w) }

end Sys2Proof.Machine
end

