-- ==== Sys2Proof/Machine/Send.lean ====
section
/-!
DEFINITION. What the lanes send in one TCLK period: test patterns (R75), training and roster frames (R88 to R96) and the
codewords of the coding layer (R61 to R64, R70), with the near-end loopbacks (R76). A tick is 2125/8 symbols of 106.25 GBd.
-/
namespace Sys2Proof.Machine
open F

/-- Pattern generators and checkers run in PROOF (R75). -/
def Ctl.proofing (c : Ctl) : Bool := c.state == .running && c.mode == some .proof

/-- The pattern checker, the pattern generator of a lane runs (R75). -/
def Dev.checking (d : Dev) (c : Ctl) (n : Nat) : Bool := c.proofing && d.get LN_PAT_CTL.RX_PAT n != 0
def Dev.generating (d : Dev) (c : Ctl) (n : Nat) : Bool := c.proofing && d.get LN_PAT_CTL.TX_PAT n != 0

/-- Bits reach the pattern checker of a lane (R75): counted while it is locked. -/
def Dev.chkFeed (d : Dev) (n : Nat) (bits : List Bool) : Dev :=
  let l := d.lane n
  let c := bits.foldl (chkStep (d.get LN_PAT_CTL.RX_PAT n) (d.get LN_PAT_USER.USER n))
    ⟨d.on LN_PAT_CTL.CHK_LOCK n, l.chk, l.hits, 0, 0, false⟩
  let d := d.setLane n { l with chk := c.ref, hits := c.hits }
  let d := (d.add LN_PAT_BITS.COUNT n c.bits).add LN_PAT_ERRS.COUNT n c.errs
  let d := d.put LN_PAT_CTL.CHK_LOCK n (flag c.locked)
  if c.lost then d.put LN_PAT_CTL.CHK_LOST n 1 else d

/-- Levels go to the serialiser of a lane: precoded, inverted and driven out, unless a parallel loopback keeps the pins
idle (R45, R76). What its own receive data path would see of them comes back. DESIGN CHOICE (log 97). -/
def Dev.sendLevels (d : Dev) (n : Nat) (coded : Bool) (raw : List Nat) : Dev × List Nat :=
  let l := d.lane n
  let x := if coded && d.on LN_CTL.TX_PRECODE n then precode l.prev raw else raw
  let tx := d.on LN_CTL.TX_INVERT n
  let rx := d.on LN_CTL.RX_INVERT n
  let y := invertLevels tx x
  let z := invertLevels rx y
  let prev := (invertLevels rx (invertLevels tx [l.prev])).headD 0
  let d := d.setLane n { l with prev := x.getLastD l.prev }
  let d := if d.get LN_CTL.LOOPBACK n = 1 then d else d.emit (.symbols n y)
  (d, if coded && d.on LN_CTL.RX_PRECODE n then unprecode prev z else z)

/-- The bits a pattern generator continues from, oldest first: its own last ones; at its start the configured pattern, or for
a PRBS any but zeros. DESIGN CHOICE (log 79). -/
def Dev.patSeed (d : Dev) (n code : Nat) : List Bool × Dev :=
  let g := (d.lane n).gen
  if g ≠ 0 then (toBits g (patSpan code), d)
  else match patFixed code (d.get LN_PAT_USER.USER n) with
    | some f => (f, d)
    | none =>
      let (x, d) := d.fresh (patSpan code)
      (toBits (1 + x % (2 ^ patSpan code - 1)) (patSpan code), d)

/-- A pattern generator sends for one tick (R75); a bit to be inverted is the first, and looped bits meet the lane's own
checker (R76). -/
def Dev.sendPattern (c : Ctl) (d : Dev) (n : Nat) : Dev :=
  let code := d.get LN_PAT_CTL.TX_PAT n
  let t := d.tim.ticks
  let (h, d) := d.patSeed n code
  let bits := patBits code (2 * (t * 2125 / 8 - (t - 1) * 2125 / 8)) h
  let d := d.setLane n { d.lane n with gen := ofBits (lastN (patSpan code) (h ++ bits)) + 2 ^ patSpan code }
  let bits := if d.on LN_PAT_CTL.INJECT n then bits.modifyHead (!·) else bits
  let (d, rx) := (d.put LN_PAT_CTL.INJECT n 0).sendLevels n true (levels false bits)
  if d.nearLoop n && d.checking c n then d.chkFeed n (unlevels rx) else d

/-- What a lane sends comes back to it: in a near-end loopback, where no generator replaces it (R75, R76). -/
def Dev.looped (c : Ctl) (d : Dev) (n : Nat) : Bool := d.nearLoop n && !d.generating c n

/-- The word of the next training or roster frame of a lane (R88, R91, R93, R96). -/
def Dev.trainWord (d : Dev) (p n : Nat) (roster : Bool) : Nat :=
  let l := d.lane n
  let r := d.port p
  let st := d.laneState n
  frameWord (if roster then 0xC2 else 0xC1) l.fseq l.preSts l.postSts (st == stLock || st == stRoster)
    (roster && rosterHeld r) r.sel (d.get LN_EQ_LIVE.EYE n) l.ridx (((d.localWords p)[l.ridx]?).getD 0)

/-- A lane sends one training or roster frame (R88); PRBS13Q starts from any state but zeros. DESIGN CHOICE (log 79). -/
def Dev.sendFrame (c : Ctl) (d : Dev) (n w : Nat) : Dev :=
  let (x, d) := if (d.lane n).gen = 0 then d.fresh 13 else ((d.lane n).gen - 1, d)
  let (bits, g) := prbs13 7584 (1 + x % 8191)
  let l := d.lane n
  let d := d.setLane n { l with fseq := (l.fseq + 1) % 256, ridx := (l.ridx + 1) % 8, gen := g }
  if d.generating c n then d else (d.sendLevels n false (frameSyms w bits)).1

/-- Every lane of a port sends a frame; those looped receive their own. -/
def Dev.sendFrames (c : Ctl) (d : Dev) (p : Nat) (roster : Bool) : Dev :=
  let ws := (d.portLanes p).map fun n => (n, d.trainWord p n roster)
  let d := ws.foldl (fun d x => d.sendFrame c x.1 x.2) d
  ws.foldl (fun d x => if d.looped c x.1 then d.trainingFrame x.1 (.celori x.2) else d) d

/-- The responses of IEEE 802.3 training, whose frames are that standard's (R92). PRESUMED (log 80). -/
def Dev.sendIeeeTraining (c : Ctl) (d : Dev) (p : Nat) : Dev :=
  d.each (d.portLanes p) fun d n =>
    let l := d.lane n
    if d.generating c n || d.get LN_CTL.LOOPBACK n == 1 then d
    else d.emit (.ieeeTraining n l.preSts l.postSts (d.laneState n == stLock))

/-- A lane sends a codeword (R61, R63). -/
def Dev.sendCoded (c : Ctl) (d : Dev) (n : Nat) (blocks : List Nat) : Dev :=
  if d.generating c n then d
  else (d.sendLevels n true (levels true ((codewordOf blocks).flatMap fun x => toBits x 10))).1

/-- The characters of a codeword time come back to a port whose every lane is looped: a codeword of each lane, without
errors (R76). DESIGN CHOICE (log 79). -/
def Dev.loopCode (c : Ctl) (d : Dev) (p : Nat) (sent : List Oct) : Dev :=
  let ls := d.portLanes p
  if ls.isEmpty || ls.any (fun n => !d.looped c n) then d
  else d.each (List.range ls.length) fun d i => d.codeword p [] false (if i + 1 = ls.length then [.octs sent] else [])

/-- A lane's own comma comes back to it (R76). -/
def Dev.loopComma (c : Ctl) (d : Dev) (p n w0 w2 bip : Nat) : Dev :=
  if d.looped c n && (d.port p).codingRx && d.on LN_STATUS.CDR_LOCK n then d.commaRx p n w0 w2 bip bip 0 1024 else d

/-- One codeword of every lane of a NATIVE port (R63, R64, R70): the comma leads the first of every 1024. -/
def Dev.sendNative (c : Ctl) (d : Dev) (p : Nat) : Dev :=
  let r := d.port p
  let w := (d.portWidth p).getD 1
  let lead := r.cw == 0
  let (bs, octs, owed, scr) := nextBlocks .idle (20 * w - if lead then w else 0) r.octs (r.owed + if lead then 32 * w else 0) r.scr
  let w2 := commaW2 (d.on PCS_STATUS.ALIGNED p) r.entering
  let cs := (d.portLanes p).zipIdx.map fun x =>
    (x.1, x.2, commaW0 x.2 (d.get (LN_EIGHT_PORTMAP.WIDTH (p % 8)) (p / 8)) r.commaSeq, (d.lane x.1).bip)
  let d := d.setPort p { r with
    octs := octs
    owed := owed
    scr := scr
    cw := (r.cw + 1) % 1024
    commaSeq := (r.commaSeq + flag lead) % 256 }
  let d := cs.foldl (fun d x =>
    let mine := dealt w x.2.1 bs
    let d := d.setLane x.1 { d.lane x.1 with bip := (if lead then 0 else x.2.2.2) ^^^ bip8 mine }
    d.sendCoded c x.1 (if lead then commaOf x.2.2.1 w2 x.2.2.2 :: mine else mine)) d
  let d := if lead then cs.foldl (fun d x => d.loopComma c p x.1 x.2.2.1 w2 x.2.2.2) d else d
  d.loopCode c p (r.octs.take (r.octs.length - octs.length))

/-- The blocks of an IEEE port for one codeword time (R61, R70, R110): while ALIGNED is 0 remote fault alone; four marker
blocks for each lane of width at the head of every 4096. PRESUMED (log 80). -/
def Dev.sendIeee (c : Ctl) (d : Dev) (p : Nat) : Dev :=
  let r := d.port p
  let w := (d.portWidth p).getD 1
  let lead := r.cw == 0
  let up := d.on PCS_STATUS.ALIGNED p
  let src := if up then r.octs else []
  let (bs, octs, owed, scr) := nextBlocks (if up then .idle else .remote) (20 * w - if lead then 4 * w else 0) src
    (r.owed + if lead then 128 * w else 0) r.scr
  let d := d.setPort p { r with octs := octs, owed := owed, scr := scr, cw := (r.cw + 1) % 4096 }
  let live := (d.portLanes p).any fun n => !d.generating c n && d.get LN_CTL.LOOPBACK n != 1
  let d := if live then
      d.emit (.ieeeBlocks p ((if lead then (List.range (4 * w)).map (Config.ieeeMarker w) else []) ++ bs))
    else d
  d.loopCode c p (src.take (src.length - octs.length))

/-- A port sends a unit of `len` eighths of a symbol once that many have passed since its last. DESIGN CHOICE (log 97). -/
def Dev.paced (d : Dev) (p len : Nat) (g : Dev → Dev) : Dev :=
  let a := (d.port p).acc + 2125
  if len ≤ a then g (d.setPort p { d.port p with acc := a - len }) else d.setPort p { d.port p with acc := a }

/-- What a port's lanes send in one tick: training frames of 4096 symbols, codewords of 2720. DESIGN CHOICE (log 97). -/
def Dev.sendPort (c : Ctl) (d : Dev) (p : Nat) : Dev :=
  match (d.port p).drive with
  | .training false => d.paced p 32768 fun d => d.sendFrames c p false
  | .training true => d.paced p 32768 fun d => d.sendIeeeTraining c p
  | .roster => d.paced p 32768 fun d => d.sendFrames c p true
  | .coding => d.paced p 21760 fun d => if d.get PCS_STATUS.PROFILE_LIVE p = 1 then d.sendIeee c p else d.sendNative c p
  | .idle => d
  | .pages _ _ _ _ _ => d
  | .attention _ => d

/-- All lanes send for one tick; a generator needs its bank's domain and the eight's PLL (R48). -/
def Dev.sendAll (d : Dev) (c : Ctl) : Dev :=
  let d := (d.keys LN_PAT_CTL.TX_PAT).foldl (fun d n =>
    if d.generating c n && d.pdOn (txDomain n) && d.on LN_EIGHT_STATUS.TX_PLL_LOCK (n / 8) then d.sendPattern c n else d) d
  (d.ports.map (·.1)).foldl (fun d p => d.sendPort c p) d

/-- A tick of the clocks with no command waiting (R188): the timebase advances and the lanes send. In LOCKED, and in POWERED
before the PLL locks, no clock but ACLK runs. DESIGN CHOICE (log 3). -/
def State.idle (s : State) : Out :=
  .next (if s.ctl.supply && !s.ctl.refLost && s.ctl.clocked then { s with dev := s.dev.tick.sendAll s.ctl } else s)

end Sys2Proof.Machine
end

