-- ==== Sys2Proof/Machine/Link.lean ====
section
/-!
DEFINITION. What happens on lanes, to launches and on sideband lines: the events of the lane array and the launch sequence
(02_lane_array.md, 03_launch_sequence.md) and the sideband filters (R282, R283).
-/
namespace Sys2Proof.Machine
open F

/-- An event of a lane, of a configured lane port, of an eight: no other number names one. DESIGN CHOICE (log 4). -/
def State.onLane (s : State) (n : Nat) (g : Dev → Dev) : Out := s.onDev fun _ d => if n < 1024 then g d else d
/-- DESIGN CHOICE (log 4). -/
def State.onPort (s : State) (p : Nat) (g : Dev → Dev) : Out := s.onDev fun _ d => if d.isLanePort p then g d else d

/-- LOS_ASSERT, LOS_DEASSERT, CDR_LOCK, CDR_UNLOCK (R46). -/
def execLosAssert (lane : Nat) (s : State) : Out := s.onLane lane fun d => d.losAssert lane
def execLosDeassert (lane : Nat) (s : State) : Out := s.onLane lane fun d => d.losDeassert lane
def execCdrLock (lane : Nat) (s : State) : Out := s.onLane lane fun d => d.cdrLock lane
def execCdrUnlock (lane : Nat) (s : State) : Out := s.onLane lane fun d => d.cdrUnlock lane

/-- RX_PPM_UPDATE (R71). -/
def execRxPpmUpdate (lane ppm : Nat) (s : State) : Out := s.onLane lane fun d => d.ppmUpdate lane ppm

/-- close_run of R59: a run of `cycles` ACLK cycles at a level joins the slots, of which the last 32 are kept. -/
def closeRun (slots : List Bool) (run : Bool × Nat) : List Bool :=
  let k := (run.2 + 32) / 64
  if k < 1 ∨ 4 < k ∨ run.2 + 12 < 64 * k ∨ 64 * k + 12 < run.2 then []
  else
    let l := slots ++ List.replicate k run.1
    l.drop (l.length - 32)

/-- The runs end in two consecutive words (R59); a last off run closes at 140 cycles with no edge after it. DEDUCED (log 67). -/
def attnDecodes (runs : List (Bool × Nat)) : Bool := runs.foldl closeRun [] == attnWord ++ attnWord

/-- Attention is declared on an armed lane (R60, R102): the whole receive direction of its port wakes. -/
def Dev.attention (d : Dev) (n : Nat) : Dev :=
  if d.on LN_EASY.ATTN_ARMED n then
    let d := ((d.seen (srcEight (n / 8) 12) (n % 8)).inc LN_EASY.ATTN_COUNT n).put LN_EASY.ATTN_ARMED n 0
    match d.portOf n with
    | none => d
    | some p =>
      if d.on LN_EASY.RX_EASY p then
        let d := d.setPort p { d.port p with wakeT := true }
        if d.pdOn (rxDomain p) then d.wakeRx p
        else (d.setPort p { d.port p with rxWakePend := true }).powerUp (rxDomain p)
      else d
  else d

/-- ATTENTION_DECLARED (R59, R60): the closed runs of the envelope, oldest first, as the detector saw them. -/
def execAttentionDeclared (lane : Nat) (runs : List (Bool × Nat)) (s : State) : Out :=
  s.onLane lane fun d => if attnDecodes runs then d.attention lane else d

/-- The last attention word has been sent (R101 steps 2 to 4). -/
def Dev.attnSent (d : Dev) (p : Nat) : Dev :=
  if d.on LN_ATTN.BUSY p then
    let d := ((d.portPut p LN_ATTN.BUSY 0).portPut p LN_ATTN.SENT 1).portPut p LN_EASY.TX_EASY 0
    ((d.txStart p).easyState p).macSync p
  else d

/-- ATTN_SEND_DONE (R101). -/
def execAttnSendDone (port : Nat) (s : State) : Out := s.onPort port fun d => d.attnSent port

/-- WAKE_WAIT elapses while the local receive is EASY (R101 step 5). -/
def Dev.wakeWaited (d : Dev) (p : Nat) : Dev :=
  let r := d.port p
  if r.txWake ∧ r.codingTx ∧ !d.rxAwake p then (d.setPort p { r with wakeWait := true }).wakeDone p else d

/-- WAKE_WAIT_EXPIRY (R101). -/
def execWakeWaitExpiry (port : Nat) (s : State) : Out := s.onPort port fun d => d.wakeWaited port

/-- The quiet period ends and what DETECT sends begins (R81, R85, R87); an absent module keeps the transmitters idle (R84). -/
def Dev.quietEnd (d : Dev) (p : Nat) : Dev :=
  if d.laneState p = stDetect ∧ d.on LN_LAUNCH_STATUS.QUIET p then
    let d := d.portPut p LN_LAUNCH_STATUS.QUIET 0
    if d.on LN_LAUNCH_STATUS.PRS_ABSENT p then d else d.driveLanes p (d.detectDrive p)
  else d

/-- QUIET_PERIOD_END (R81). -/
def execQuietPeriodEnd (port : Nat) (s : State) : Out := s.onPort port fun d => d.quietEnd port

/-- The FAMILY of a Celori marker among the next pages received (R86, Table 31). -/
def markerFamily (pages : List Nat) : Option Nat :=
  (pages.find? fun w => bitsOf w 0 11 == 0x5C3 && bitsOf w 40 8 == 0xCE).map fun w => bitsOf w 24 8

/-- The Clause 73 exchange is complete (R86): 1 an IEEE partner, 2 a Celori one, 3 a P7. A marker recognised is acknowledged
in the page sent (Table 31). -/
def Dev.clause73 (d : Dev) (p : Nat) (pages : List Nat) : Dev :=
  if d.attempting p ∧ !d.on LN_LAUNCH_CTL.NEG p then
    match markerFamily pages with
    | none => d.toTrain p 1
    | some f => (d.driveLanes p (d.detectPages p true)).toTrain p (if f = 7 then 3 else 2)
  else d

/-- CLAUSE73_COMPLETE (R86). -/
def execClause73Complete (port : Nat) (pages : List Nat) (s : State) : Out := s.onPort port fun d => d.clause73 port pages

/-- The attempt timer expires (R83, Table 30): a failure, or a new attempt at once. -/
def Dev.detectTimeout (d : Dev) (p : Nat) : Dev :=
  if d.attempting p then
    if d.on LN_LAUNCH_CTL.DETECT_COUNT p then d.failure p 1
    else
      let d := d.forget p
      d.driveLanes p (d.detectDrive p)
  else d

/-- The timers of TRAIN and LOCK, of ROSTER and of a wake expire (Table 30, R83, R102). -/
def Dev.trainTimeout (d : Dev) (p : Nat) : Dev :=
  if (d.port p).trainT ∧ (d.laneState p = stTrain ∨ d.laneState p = stLock) then d.failure p 2 else d
def Dev.rosterTimeout (d : Dev) (p : Nat) : Dev :=
  if (d.port p).rosterT ∧ d.laneState p = stRoster then d.failure p 4 else d
def Dev.wakeTimeout (d : Dev) (p : Nat) : Dev :=
  if (d.port p).wakeT ∧ (d.laneState p = stActive ∨ d.laneState p = stEasy) then d.failure p 5 else d

/-- DETECT_TIMEOUT, TRAIN_TIMEOUT, ROSTER_TIMEOUT (R83) and WAKE_TIMEOUT (R102). -/
def execDetectTimeout (port : Nat) (s : State) : Out := s.onPort port fun d => d.detectTimeout port
def execTrainTimeout (port : Nat) (s : State) : Out := s.onPort port fun d => d.trainTimeout port
def execRosterTimeout (port : Nat) (s : State) : Out := s.onPort port fun d => d.rosterTimeout port
def execWakeTimeout (port : Nat) (s : State) : Out := s.onPort port fun d => d.wakeTimeout port

/-- TRAINING_FRAME, TRAINING_LOCK_LOSS (R89). -/
def execTrainingFrame (lane : Nat) (fr : TrainRx) (s : State) : Out := s.onLane lane fun d => d.trainingFrame lane fr
def execTrainingLockLoss (lane : Nat) (s : State) : Out := s.onLane lane fun d => d.trainingLost lane

/-- EYE_MEASUREMENT, PEAK_TRACK_STEP (R51). -/
def execEyeMeasurement (lane eye : Nat) (s : State) : Out := s.onLane lane fun d => d.eyeMeasured lane eye
def execPeakTrackStep (lane : Nat) (up : Bool) (s : State) : Out := s.onLane lane fun d => d.trackStep lane up

/-- The transmit coding layer starts after the last roster frames (R96). -/
def Dev.codingStart (d : Dev) (p : Nat) : Dev :=
  let r := d.port p
  if d.laneState p = stRoster ∧ r.gotDone ∧ r.sel ≠ 0 ∧ !r.codingTx then d.txStart p else d

/-- CODING_TX_START (R96). -/
def execCodingTxStart (port : Nat) (s : State) : Out := s.onPort port fun d => d.codingStart port

/-- CODEWORD_RECEIVED (R62), COMMA_BLOCK (R65), HISER_WINDOW_END (R68). -/
def execCodewordReceived (port : Nat) (corr : List Nat) (cw : CodewordRx) (s : State) : Out :=
  s.onPort port fun d => d.codeword port corr cw.bad cw.blocks
def execCommaBlock (lane : Nat) (c : CommaRx) (s : State) : Out := s.onLane lane fun d => d.commaBlock lane c
def execHiserWindowEnd (port : Nat) (s : State) : Out :=
  s.onPort port fun d =>
    if (d.port port).codingRx ∧ d.on PCS_CTL.HISER_EN port ∧ 8192 ≤ (d.port port).hiCw then d.hiserEnd port else d

/-- ALIGNED has been 0 for 1 ms in ACTIVE (R97). -/
def Dev.alignTimeout (d : Dev) (p : Nat) : Dev :=
  if d.laneState p = stActive ∧ !d.on PCS_STATUS.ALIGNED p ∧ d.rxAwake p ∧ !(d.port p).rxWake then d.interrupt p else d

/-- ALIGN_LOSS_TIMEOUT (R97). -/
def execAlignLossTimeout (port : Nat) (s : State) : Out := s.onPort port fun d => d.alignTimeout port

/-- The transmit direction enters EASY (Table 36 step 4): no frame is left in transmission. -/
def Dev.easyEnter (d : Dev) (p : Nat) : Dev :=
  let d := (d.setPort p { d.port p with entering := false }).portPut p LN_EASY.TX_EASY 1
  (((d.txIdle p).easyState p).pllCheck (p / 8)).macSync p
def Dev.easyMayEnter (d : Dev) (p : Nat) : Bool :=
  d.isLanePort p && (d.port p).entering && d.laneState p == stActive && (d.mac p).tx.isNone

/-- TX_EASY_ENTRY_DONE (R98). DESIGN CHOICE (log 94). -/
def execTxEasyEntryDone (port : Nat) (s : State) : Out := s.core fun s =>
  if s.dev.easyMayEnter port then ({ s with dev := s.dev.easyEnter port }).replyWaits (· == Wait.easy port) else s

/-- EASY_EXPECT_LAPSE (R99). -/
def execEasyExpectLapse (port : Nat) (s : State) : Out :=
  s.onPort port fun d => d.setPort port { d.port port with easyArmed := false }

/-- Sideband lines by number: MOD_INT_L and MOD_PRS_L of an eight, CPX_WAKE, LOCKUP_REQ. DEDUCED (log 66). -/
def lineInt (e : Nat) : Nat := e
def linePrs (e : Nat) : Nat := 128 + e
def lineWake : Nat := 256
def lineLockup : Nat := 257

/-- Write the filtered level of a line of an eight into its pair of registers. -/
def Dev.levelPut (d : Dev) (lo hi : Fld) (e : Nat) (b : Bool) : Dev :=
  if e < 64 then d.put lo 0 (putBitAt (d.get lo 0) e b) else d.put hi 0 (putBitAt (d.get hi 0) (e - 64) b)

/-- An accepted change of MOD_PRS_L, asserted or not (R84, R282, Table 93). PRESUMED (log 27). -/
def Dev.prsChange (d : Dev) (live : Bool) (e : Nat) (level : Bool) : Dev :=
  let d := (d.levelPut EVC_SB_PRS_0.LEVEL EVC_SB_PRS_1.LEVEL e level).put X.SB_STOP (linePrs e) 0
  if live then (d.presence e level).event (srcEight e 11) (flag level) else d

/-- MOD_PRS_CHANGE (R84). -/
def execModPrsChange (eight : Nat) (level : Bool) (s : State) : Out := s.onIsland fun c d =>
  if eight < 128 ∧ d.modPrs eight ≠ level then d.prsChange c.live eight level else d

/-- An accepted change of MOD_INT_L: its LINE source asserts or is withdrawn (R282). -/
def Dev.intChange (d : Dev) (live : Bool) (e : Nat) (level : Bool) : Dev :=
  let d := (d.levelPut EVC_SB_INT_0.LEVEL EVC_SB_INT_1.LEVEL e level).put X.SB_STOP (lineInt e) 0
  if live ∧ level then d.event (srcEight e 10) 1 else d

/-- MOD_INT_CHANGE (R282). -/
def execModIntChange (eight : Nat) (level : Bool) (s : State) : Out := s.onIsland fun c d =>
  if eight < 128 ∧ d.modInt eight ≠ level then d.intChange c.live eight level else d

/-- CPX_WAKE (R283): an assertion fires its source. -/
def execCpxWake (level : Bool) (s : State) : Out := s.onIsland fun c d =>
  if d.on EVC_SB_MISC.WAKE 0 ≠ level then
    let d := (d.put EVC_SB_MISC.WAKE 0 (flag level)).put X.SB_STOP lineWake 0
    if c.live ∧ level then d.event srcWake 0 else d
  else d

/-- LOCKUP_REQ (R351): an assertion starts lock-up with cause PIN where PIN_EN is 1. -/
def execLockupReq (level : Bool) (s : State) : Out := s.aclk fun s =>
  if s.dev.on EVC_SB_MISC.LOCKUP 0 ≠ level then
    let s := { s with dev := (s.dev.put EVC_SB_MISC.LOCKUP 0 (flag level)).put X.SB_STOP lineLockup 0 }
    if level then s.trigger LCK_CFG.PIN_EN 3 else s
  else s

/-- A glitch discarded: counted in every state in which domain 34 is on, and shown; in POWERED it makes no event (R282,
R298). DEDUCED (log 66). -/
def Dev.glitch (d : Dev) (c : Ctl) : Dev :=
  if c.live then (d.inc EVC_SB_GLITCH.COUNT 0).seen srcGlitch 0
  else if c.state = .powered ∧ c.d34 then (d.inc EVC_SB_GLITCH.COUNT 0).put EVC_SB_MISC.GLITCH_SEEN 0 1
  else d

/-- SIDEBAND_GLITCH (R282). -/
def execSidebandGlitch (line : Nat) (s : State) : Out := s.onIsland fun c d =>
  if line < 258 then (d.put X.SB_STOP line 0).glitch c else d

/-- SIDEBAND_LATCH_EDGE and FILTER_CLOCK_STOP (R283). -/
def execSidebandLatchEdge (line : Nat) (s : State) : Out :=
  s.onIsland fun _ d => if line < 258 then d.put X.SB_STOP line 0 else d
def execFilterClockStop (line : Nat) (s : State) : Out :=
  s.onIsland fun _ d => if line < 258 then d.put X.SB_STOP line 1 else d

/-- INJECT (R75): honoured while the lane's generator runs; the bit reads 1 until the pattern bit is sent. -/
def execInject (lane : Nat) (s : State) : Out := s.onLane lane fun d =>
  if d.get LN_PAT_CTL.TX_PAT lane = 0 then d else (d.put LN_PAT_CTL.INJECT lane 1).emit (.invertBit lane)

/-- PATTERN_CHECKER_LOCK and PATTERN_CHECKER_LOST (R75), with the bits the lane received since the last it was shown
(for a loss those before its 1024 and these): the comparison decides. Bits from pins that a loopback ignores count for nothing (R76). -/
def Dev.chkPins (d : Dev) (c : Ctl) (n : Nat) (bits : List Bool) : Dev :=
  if d.checking c n && !d.nearLoop n then d.chkFeed n bits else d
def execPatternCheckerLock (rx : PatternRx) (s : State) : Out := s.onDev fun c d =>
  if rx.lane < 1024 then d.chkPins c rx.lane rx.bits else d
def execPatternCheckerLost (lane : Nat) (bits window : List Bool) (s : State) : Out := s.onDev fun c d =>
  if lane < 1024 then d.chkPins c lane (bits ++ window) else d

end Sys2Proof.Machine
end

