-- ==== Sys2Proof/Machine/Frames.lean ====
section
/-!
DEFINITION. What happens to frames: the receive path of the MAC (04_frame_path.md), the galley and flow control
(05_galley_and_flow_control.md), the cox (06_egress_scheduling.md), transmission and its stamps, and the copy-elimination records (08_proof_units.md).
-/
namespace Sys2Proof.Machine
open F

/-- The complex runs in PROOF mode, where no receive check is made of the pattern's frames. -/
def Ctl.proof (c : Ctl) : Bool := c.state == .running && c.mode == some .proof

/-- An event of a configured port, a recirculation port included; of a class of a configured lane port. -/
def State.onAnyPort (s : State) (p : Nat) (g : Dev → Dev) : Out := s.onDev fun _ d => if d.isPort p then g d else d
def State.onClass (s : State) (p c : Nat) (g : Nat → Dev → Dev) : Out :=
  s.onDev fun _ d => if d.isLanePort p ∧ c < 16 then g (p * 16 + c) d else d

/-- RX_HEAD_DECISION (R114). -/
def execRxHeadDecision (h : HeadRx) (s : State) : Out := s.onDev fun c d => d.headDecision c.proof h

/-- HEAD_HANDOFF (R23): the ready levels of the four slices, and whether the head has waited 64 DCLK cycles. -/
def execHeadHandoff (port ready : Nat) (waited : Bool) (s : State) : Out := s.onDev fun _ d => d.headHandoff port ready waited

/-- RX_FRAME_END (R117). -/
def execRxFrameEnd (e : EndRx) (s : State) : Out := s.onDev fun c d => d.frameEnd c.proof e

/-- RX_RM_OVERFLOW (R72). -/
def execRxRmOverflow (port : Nat) (same : Bool) (s : State) : Out := s.onDev fun _ d => d.rmOverflow port same

/-- ALIVE_JUDGEMENT (R234): a qualifying frame of a partner's stream, its alive counter and check value, and its port. DEDUCED (log 51). -/
def execAliveJudgement (partner alive check port : Nat) (s : State) : Out := s.onDev fun _ d =>
  if partner < 16384 ∧ d.on PRF_RX_STREAM.ENABLE partner then
    (d.judge (d.get PRF_RX_STREAM.PROFILE partner) (d.get PRF_RX_STREAM.REC partner)
      (alive % 2 ^ acwBits (d.get PRF_PROF_CFG.ACW (d.get PRF_RX_STREAM.PROFILE partner))) check port).2
  else d

/-- RECORD_AGE_WALK (R235). -/
def execRecordAgeWalk (s : State) : Out := s.onDev fun _ d => d.recWalk

/-- RX_PAUSE_TIMER_LOAD (R149) and RX_PAUSE_TIMER_EXPIRY (R150): timers 0 to 7 of the priorities, 8 of the port. -/
def execRxPauseTimerLoad (port : Nat) (s : State) : Out := s.onPort port fun d => (d.pauseLoad port).coxRefresh port
def execRxPauseTimerExpiry (port timer : Nat) (s : State) : Out :=
  s.onPort port fun d => if timer < 9 then (d.pauseExpiry port timer).coxRefresh port else d

/-- RECIRC_LATE_DISCARD (R129). -/
def execRecircLateDiscard (port : Nat) (s : State) : Out := s.onDev fun _ d => d.recircLate port

/-- OCCUPANCY_REPORT and REPORT_STALE (R40): a class's occupancy at the core, in bytes. -/
def execOccupancyReport (port cls bytes : Nat) (s : State) : Out := s.onClass port cls fun pc d => d.coreReport pc bytes
def execReportStale (port cls : Nat) (s : State) : Out := s.onClass port cls fun pc d => d.coreStale pc

/-- XOFF_FALL_REPORT (R213). -/
def execXoffFallReport (port prio : Nat) (s : State) : Out := s.onPort port fun d => if prio < 8 then d.xoffFall port prio else d

/-- FC_REFRESH_EXPIRY (R148) and CONTROL_FRAME_SEND (R123). -/
def execFcRefreshExpiry (port : Nat) (s : State) : Out := s.onPort port fun d => d.fcRefresh port
def execControlFrameSend (port : Nat) (s : State) : Out := s.onPort port fun d => d.ctrlSend port

/-- GALLEY_RELEASE (R136): with the errors the galley read finds in the front frame and its record (byte, uncorrectable),
the slices' ready levels, and whether the port has waited 64 DCLK cycles for its slice. -/
def execGalleyRelease (port : Nat) (errs : List (Nat × Bool)) (slices : SliceLevels) (s : State) : Out :=
  s.onPort port fun d => d.galRelease port errs slices.ready slices.waited

/-- GALLEY_AGE_CHECK (R141). -/
def execGalleyAgeCheck (port cls : Nat) (s : State) : Out := s.onClass port cls fun pc d => d.galAgeAll pc

/-- SCRUB_VISIT, SCRUB_PASS_DONE (R143), EXTENT_SWAP (R144). -/
def execScrubVisit (extent cell : Nat) (corrected : Bool) (bad : Option Nat) (s : State) : Out :=
  s.onDev fun _ d => if extent < 65536 ∧ cell < 8192 then d.scrub extent cell corrected bad else d
def execScrubPassDone (s : State) : Out := s.onDev fun _ d => d.scrubPass
def execExtentSwap (extent : Nat) (s : State) : Out := s.onDev fun _ d => if extent < 65536 then d.extentSwap extent else d

/-- GALLEY_CHANNEL_ERROR (R144): during service, and once for a channel. -/
def execGalleyChannelError (channel : Nat) (s : State) : Out := s.onDev fun _ d =>
  if channel < 64 ∧ d.on GAL_STATUS.IN_SERVICE 0 ∧ !d.on GAL_CH_STATUS.FAILED channel then d.channelFail channel else d

/-- A notice names its queue by port, class and partner, none for the common queue: numbers outside their fields name
nothing. -/
def noticeNamed (cls : Nat) (partner : Option Nat) : Bool := decide (cls < 16) && (partner.map fun q => decide (q < 16384)).getD true

/-- QUEUE_ARRIVE, QUEUE_FRONT, QUEUE_DROP (R161). -/
def execQueueArrive (port cls : Nat) (partner : Option Nat) (len : Nat) (s : State) : Out :=
  s.onDev fun _ d => if noticeNamed cls partner then d.queueArrive port cls partner len else d
def execQueueFront (port cls : Nat) (partner : Option Nat) (x : FrontRx) (s : State) : Out := s.onDev fun _ d =>
  if noticeNamed cls partner then d.queueFront port cls partner ⟨x.len, x.fcsKeep, x.trailerEn, x.prof % 64, x.enqNs⟩ else d
def execQueueDrop (port cls : Nat) (partner : Option Nat) (len : Nat) (s : State) : Out :=
  s.onDev fun _ d => if noticeNamed cls partner then d.queueDrop port cls partner len else d

/-- COX_DECISION (R166). -/
def execCoxDecision (port : Nat) (s : State) : Out := s.onAnyPort port fun d => d.decide1 port

/-- SHAPER_REFILL (R172): of a port with its classes, or of a partner. DESIGN CHOICE (log 68). -/
def execShaperRefill (which : ShaperSel) (s : State) : Out := s.onDev fun _ d =>
  match which with
  | .port p => if d.isPort p then d.refillPort p else d
  | .partner q => if q < 16384 then d.refillPtn q else d

/-- POLICER_REFILL (R177). -/
def execPolicerRefill (partner : Nat) (s : State) : Out :=
  s.onDev fun _ d => if partner < 16384 ∧ d.on PTN_CFG.POLICE_EN partner then d.refillPolicer partner else d

/-- AGEING_WALK (R169) and TELEMETRY_WALK (R182). -/
def execAgeingWalk (s : State) : Out := s.onDev fun _ d => d.ageWalk
def execTelemetryWalk (s : State) : Out := s.onDev fun _ d => d.telemWalk

/-- TX_FRAME_START (R125), TX_FRAME_END (R127), TX_UNDERRUN (R73). -/
def execTxFrameStart (x : StartTx) (s : State) : Out := s.onAnyPort x.port fun d => d.frameStart x
def execTxFrameEnd (port : Nat) (rest : List Byte) (abort : Bool) (s : State) : Out :=
  s.onAnyPort port fun d => d.frameDone port rest abort
def execTxUnderrun (port : Nat) (s : State) : Out := s.onPort port fun d => d.underrun port

/-- STAMP_MOVE (R201). -/
def execStampMove (s : State) : Out := s.onDev fun _ d => d.stampMove

end Sys2Proof.Machine
end

