-- ==== Sys2Proof/Machine/Events.lean ====
section
/-!
DEFINITION. What happens in the time unit and the gate engine (07_time_and_gates.md), the host packet engine (09_host_packet_engine.md)
and the event controller (10_event_controller.md), and the mirrors of the eights (R29).
-/
namespace Sys2Proof.Machine
open F

/-- The gate engine's part of a step on one port (R210). -/
def Dev.gateMoved (d : Dev) (p : Nat) : Dev :=
  if d.listLive p ∨ d.on X.GATE_STOP_PEND p then ((d.gateStep p).sinceClear p).coxRefresh p else d

/-- TIMEBASE_STEP (R192, R210): the step requested is applied at the TCLK tick. -/
def execTimebaseStep (s : State) : Out := s.onDev fun _ d =>
  if d.tim.step.isSome then (d.stepApply).each d.lanePorts Dev.gateMoved else d

/-- STEP_GO (R192): a write of TIM_STEP_CTL with GO, MODE (1 ADD) and NEG. -/
def execStepGo (add neg : Bool) (s : State) : Out := s.onDev fun _ d =>
  (d.puts 0 [(TIM_STEP_CTL.MODE, flag add), (TIM_STEP_CTL.NEG, flag neg)]).stepGo add neg

/-- SLEW_GO, SLEW_DONE (R193), SNAP_GO (R194). -/
def execSlewGo (s : State) : Out := s.onDev fun _ d => d.slewGo
def execSlewDone (s : State) : Out := s.onDev fun _ d => d.slewDone
def execSnapGo (s : State) : Out := s.onDev fun _ d => d.snapGo

/-- GATE_ENTRY_BOUNDARY (R209), SWITCH_GUARD_START (R206), GATE_SWITCH (R205): the gates in force change. -/
def execGateEntryBoundary (port : Nat) (s : State) : Out := s.onPort port fun d => (d.entryBoundary port).coxRefresh port
def execSwitchGuardStart (port : Nat) (s : State) : Out := s.onPort port fun d => (d.guardStart port).coxRefresh port
def execGateSwitch (port : Nat) (s : State) : Out := s.onPort port fun d => (d.gateSwitch port).coxRefresh port

/-- WINDOW_CUTOFF (R216): counted where the candidate of a scheduled class with an open gate still waits. -/
def Dev.windowCut (d : Dev) (pc : Nat) : Dev :=
  if d.on GATE_CLASS_CFG.SCHED pc ∧ (d.candidate pc).isSome ∧ bitAt (d.get GATE_PORT_STATUS.GATES (pc / 16)) (pc % 16) then
    d.inc GATE_C_CUTOFF.COUNT pc
  else d
def execWindowCutoff (port cls : Nat) (s : State) : Out := s.onClass port cls fun pc d => d.windowCut pc

/-- The host engine serves its rings: the complex has been READY and domain 33 is on (R243, R364). DEDUCED (log 26). -/
def State.onHost (s : State) (g : Dev → Dev) : Out := s.onDev fun c d => if c.serving ∧ d.pdOn 33 then g d else d

/-- An event of a ring of the host engine, by number: transmit queues, receive queues, rings of functions. -/
def State.onRing (s : State) (r : Nat) (g : Dev → Dev) : Out := s.onHost fun d => if r < 8448 then g d else d

/-- INDEX_LINE_READ_DONE (R249): the 32-bit TAIL or RD read. -/
def execIndexLineReadDone (ring value : Nat) (s : State) : Out := s.onRing ring fun d => d.lineDone ring (value % 2 ^ 32)

/-- DESCRIPTOR_FETCH_DONE (R254), DESCRIPTOR_RETRY (R255). -/
def execDescriptorFetchDone (ring : Nat) (words : List Nat) (s : State) : Out := s.onRing ring fun d => d.fetchDone ring words
def execDescriptorRetry (ring word : Nat) (s : State) : Out := s.onRing ring fun d => d.fetchRetry ring word

/-- TX_QUEUE_SERVICE (R257), with the data read for the descriptors of the visit; HOST_TX_HANDOFF (R259). -/
def execTxQueueService (bufs : List (List Byte)) (s : State) : Out := s.onHost fun d => d.txService bufs
def execHostTxHandoff (s : State) : Out := s.onHost fun d => d.txHandoff

/-- HOST_RX_FRAME (R261), HOST_RX_DELIVER (R263), STARVE_TIMEOUT (R264): receive queues by number. -/
def execHostRxFrame (queue : Nat) (x : HostRxIn) (s : State) : Out := s.onHost fun d =>
  d.rxFrame queue ⟨x.port, x.tag, ⟨x.sec, x.ns, x.frac⟩, x.tsValid, x.verdict, x.keep, x.lenMis, x.trailer, x.bytes⟩
def execHostRxDeliver (queue : Nat) (s : State) : Out := s.onHost fun d => if queue < 4096 then d.rxDeliver (ringRx queue) else d
def execStarveTimeout (queue : Nat) (s : State) : Out := s.onHost fun d => if queue < 4096 then d.starve (ringRx queue) else d

/-- PUBLISH_TIMER (R265), RECORD_POST (R271), RECORD_RING_POLL (R270), HOST_READ_FAULT (R274). -/
def execPublishTimer (ring : Nat) (s : State) : Out := s.onRing ring fun d => d.pubTimer ring
def execRecordPost (ring : Nat) (s : State) : Out := s.onRing ring fun d => d.recordPost ring
def execRecordRingPoll (ring : Nat) (s : State) : Out := s.onRing ring fun d => d.ringPoll ring
def execHostReadFault (ring : Nat) (s : State) : Out := s.onRing ring fun d => d.readFault ring

/-- The power domain a source belongs to is not off (R280): the host engine's, the galley's, or a bank domain for what the
coding of a port or a transmit PLL shows. DEDUCED (log 69). -/
def Dev.srcPowered (d : Dev) (s : Nat) : Bool :=
  if s < 8192 then
    (if s % 8 = 1 ∨ s % 8 = 2 then d.pdRuns (rxDomain (s / 8))
     else if s % 8 = 7 then d.pdRuns (rxDomain (s / 8)) || d.pdRuns (txDomain (s / 8))
     else if s % 8 = 4 then d.pdRuns 32 else true)
  else if 0x2400 ≤ s ∧ s < 0x2C00 ∧ s % 16 = 9 then d.pdRuns ((s - 0x2400) / 16 / 8 * 2)
  else if s = srcGalley then d.pdRuns 32
  else !decide (0x8000 ≤ s ∧ s < 0xA200) || d.pdRuns 33

/-- A source fires or asserts (R281): a PULSE with its detail, a FLAG with the cause bits that rise, a LINE; not a source
whose domain is off, nor a software source, which only EVC_PEND_SET fires (R280). DEDUCED (log 69). -/
def Dev.sourceEvent (d : Dev) (src detail : Nat) : Dev :=
  if !d.srcPowered src || decide (0xF000 ≤ src) then d
  else match srcKind src with
  | none => d
  | some .pulse => d.event src detail
  | some .flag => (bitList detail 16).foldl (fun d b => d.seen src b) d
  | some .line => if d.modInt ((src - 0x2400) / 16) then d else d.intChange true ((src - 0x2400) / 16) true

/-- SOURCE_EVENT (R281). -/
def execSourceEvent (source detail : Nat) (s : State) : Out := s.onDev fun _ d => d.sourceEvent source detail

/-- COAL_TIMER_EXPIRY (R285, Table 94): a gathering vector becomes READY. -/
def execCoalTimerExpiry (vector : Nat) (s : State) : Out := s.onDev fun _ d =>
  if d.get EVC_VEC_STATUS.STATE vector = 1 then d.puts vector [(EVC_VEC_STATUS.STATE, 2), (EVC_VEC_STATUS.COUNT, 0)] else d

/-- ROUTE_COMMIT (R287): one routing cycle. DESIGN CHOICE (log 68). -/
def execRouteCommit (s : State) : Out := s.onDev fun _ d => d.routeCycle

/-- EVC_PEND_SET, EVC_PEND_CLR (R286). -/
def execEvcPendSet (source : Nat) (s : State) : Out := s.onDev fun _ d => d.pendSet (source % 65536)
def execEvcPendClr (source : Nat) (s : State) : Out := s.onDev fun _ d => d.pendClr (source % 65536)

/-- EVC_TGT_CLAIM (R289): a read of the whole claim register of a target. -/
def execEvcTgtClaim (target : Nat) (s : State) : Out := s.onDev fun _ d =>
  if target < 256 then (d.claim target).2.emit (.readData (0x3010010 + target * 0x40) (d.claim target).1) else d

/-- EVC_TGT_EOI (R291). -/
def execEvcTgtEoi (target vector : Nat) (idle : Bool) (s : State) : Out :=
  s.onDev fun _ d => if target < 256 then d.eoi target (vector % 1024) idle else d

/-- EVC_VEC_MASK (R293). -/
def execEvcVecMask (vector : Nat) (mask : Bool) (s : State) : Out :=
  s.onDev fun _ d => if vector < 1024 then (d.put EVC_VEC_MASK.MASK vector (flag mask)).runsEnd else d

/-- ACKED_WRITE (R347). -/
def execAckedWrite (s : State) : Out := s.onDev fun _ d => d.ackRecord

/-- Engine registers written: each write enters the engine's FIFO (R223). -/
def State.onEngine (s : State) (e : Nat) (x : EngOp) : Out := s.onDev fun _ d => if e < 16 then d.engPush e x else d

/-- The entry a write of a parameter register makes (Table 71). -/
def engEntry (r : EngReg) (value : Nat) : EngOp :=
  match r with
  | .cfg => .cfg (value % 2 ^ 12)
  | .poly => .poly (value % 2 ^ 64)
  | .init => .init (value % 2 ^ 64)
  | .xorout => .xorout (value % 2 ^ 64)

/-- PRF_ENG_CFG (R223): a write of a parameter register. DEDUCED (log 71). -/
def execPrfEngCfg (engine : Nat) (reg : EngReg) (value : Nat) (s : State) : Out := s.onEngine engine (engEntry reg value)

/-- PRESET (R223): a write of PRF_ENG_CFG whose PRESET is 1 (CRC-32) or 2 (CRC-32C). -/
def execPreset (engine value : Nat) (castagnoli : Bool) (s : State) : Out :=
  s.onEngine engine (.cfg (value % 2 ^ 10 + (if castagnoli then 2 else 1) * 2 ^ 10))

/-- START, PRF_ENG_FEED_B, PRF_ENG_FEED_H, PRF_ENG_FEED_W (R223, Table 71). -/
def execStart (engine : Nat) (s : State) : Out := s.onEngine engine .start
def execPrfEngFeedB (engine data : Nat) (s : State) : Out := s.onEngine engine (.feed 1 (data % 2 ^ 8))
def execPrfEngFeedH (engine data : Nat) (s : State) : Out := s.onEngine engine (.feed 2 (data % 2 ^ 16))
def execPrfEngFeedW (engine data : Nat) (s : State) : Out := s.onEngine engine (.feed 4 (data % 2 ^ 32))

/-- ENGINE_FIFO_ENTRY (R223). -/
def execEngineFifoEntry (engine : Nat) (s : State) : Out := s.onDev fun _ d => if engine < 16 then d.engStep engine else d

/-- PRF_ENG_RESULT_READ (R224): the state or the result, once the FIFO is empty. -/
def execPrfEngResultRead (engine : Nat) (result : Bool) (s : State) : Out := s.onDev fun _ d =>
  if engine < 16 then
    let d := d.engSettle engine
    d.emit (.readData (0x2601000 + engine * 0x100 + if result then 0x30 else 0x28)
      (if result then d.engResult engine else d.engState engine))
  else d

/-- MIRROR_REFRESH (R29): of an eight, whose own clock runs or not, with the bits each lane received since the last, which
meet its pattern checker (R75); copies only while the eight runs. DEDUCED (log 14). -/
def Dev.mirrorRefresh (d : Dev) (c : Ctl) (e : Nat) (clock : Bool) (pats : List (List Bool)) : Dev :=
  if clock && d.eightRuns e then
    let d := (pats.take 8).zipIdx.foldl (fun d x => d.chkPins c (e * 8 + x.2) x.1) d
    (d.put LN_EIGHT_STATUS.MIRROR_STALE e 0).mirrorEight e
  else d.put LN_EIGHT_STATUS.MIRROR_STALE e 1
def execMirrorRefresh (eight : Nat) (clock : Bool) (pats : List (List Bool)) (s : State) : Out :=
  s.onDev fun c d => if eight < 128 then d.mirrorRefresh c eight clock pats else d

end Sys2Proof.Machine
end

