-- ==== Sys2Proof/Machine/Access.lean ====
section
/-!
DEFINITION. Register accesses (15_register_map.md): who is served where and when (R361, R381, R382), access errors (R377,
R385, R386), reads with their clears and claims (R12, R30, R378), writes field by field (R12, R378), direct writes of
configuration (R9, R389 and the rules of the fields), the mailbox (R313) and the doorbell pages (R250, R386).
-/
namespace Sys2Proof.Machine
open F

/-- One register of an access: bits [chi − 1 : clo] of it stand at bit `shift` of the data (R378). -/
structure Part where
  place : Place
  i : Nat
  reg : RegDef
  clo : Nat
  chi : Nat
  shift : Nat

/-- The register whose 32-bit word lies at an offset, and which half of it that is. -/
def Dev.wordAt (d : Dev) (o : Nat) : Option (Place × Nat × RegDef × Nat) :=
  match d.slotOf o with
  | .reg p i off => (regsAt p).findSome? fun r =>
    if r.off = off then some (p, i, r, 0) else if r.width = 64 ∧ r.off + 4 = off then some (p, i, r, 1) else none
  | _ => none

/-- The part of an access that one 32-bit word makes. -/
def Dev.partAt (d : Dev) (o shift : Nat) : List Part :=
  match d.wordAt o with
  | some (p, i, r, h) => [⟨p, i, r, 32 * h, 32 * h + 32, shift⟩]
  | none => []

/-- The registers an access of 4 or 8 bytes acts on (R378). -/
def Dev.parts (d : Dev) (o size : Nat) : List Part :=
  if size = 8 then
    match d.wordAt o with
    | some (p, i, r, 0) => if r.width = 64 then [⟨p, i, r, 0, 64, 0⟩] else d.partAt o 0 ++ d.partAt (o + 4) 32
    | _ => d.partAt o 0 ++ d.partAt (o + 4) 32
  else d.partAt o 0

/-- The access carries every bit of a field. -/
def Part.covers (x : Part) (F : Fld) : Bool := decide (x.clo ≤ F.lo) && decide (F.lo + F.w ≤ x.chi)

/-- An access of neither 4 nor 8 bytes, or not aligned to its width (R377); a 64-bit doorbell write (R386). -/
def badShape (o size : Nat) : Bool := (size != 4 && size != 8) || o % size != 0
def badDoorbell64 (o size : Nat) (write : Bool) : Bool :=
  write && size == 8 && decide (0x2C00000 ≤ o) && decide (o < 0x2C40000) && o % 0x1000 == 0

/-- SIZE of CPX_ACCESS_ERR. -/
def sizeCode (size : Nat) : Nat :=
  match size with
  | 1 => 0 | 2 => 1 | 4 => 2 | 8 => 3 | _ => 4

/-- An access error is counted and latched (R385). -/
def Dev.accessError (d : Dev) (mgmt : Bool) (o size : Nat) (write : Bool) : Dev :=
  let d := d.inc CPX_BAD_ACCESS.COUNT 0
  if d.on CPX_ACCESS_ERR.VALID 0 then d.put CPX_ACCESS_ERR.MORE 0 1
  else d.puts 0 [(CPX_ACCESS_ERR.OFFSET, o), (CPX_ACCESS_ERR.SIZE, sizeCode size), (CPX_ACCESS_ERR.WRITE, flag write),
    (CPX_ACCESS_ERR.CAUSE, flag !(badShape o size)), (CPX_ACCESS_ERR.AGENT, flag mgmt), (CPX_ACCESS_ERR.VALID, 1)]

/-- Offsets of the mailbox registers and buffers of R361. -/
def mboxOffset (o : Nat) : Bool :=
  (decide (0x3200008 ≤ o) && decide (o < 0x3200014)) || (decide (0x3202000 ≤ o) && decide (o < 0x3204000)) ||
    (decide (0x3210000 ≤ o) && decide (o < 0x3220000))

/-- The complex serves an offset to an agent (R361, R381, R382, R386). -/
def State.served (s : State) (a : Agent) (o : Nat) : Bool :=
  let start := decide (0x200 ≤ o) && decide (o < 0x208)
  match a with
  | .side => start || (decide (0x3600000 ≤ o) && decide (o < 0x3680000))
  | _ => match s.ctl.state with
    | .locked => false
    | .powered => start || (mboxOffset o && s.ctl.pll && s.ctl.d34)
    | _ => !(decide (0x2C00000 ≤ o) && decide (o < 0x2C40000)) || s.dev.pdOn 33

/-- The fields of a part that a read clears: RC fields it returns whole (R378), and a selected counter under CLEAR
(R186). -/
def readClears (x : Part) : List Fld := x.reg.flds.filter fun F => x.covers F && F.acc == .rc

/-- The counter a COX_CNT field shows, where a read of it clears. -/
def Dev.cntClears (d : Dev) (x : Part) : Option (Fld × Nat) :=
  match x.reg.flds with
  | [F] => if (COX_CNT.COUNT 0).id ≤ F.id ∧ F.id ≤ (COX_CNT.COUNT 7).id ∧ x.covers F ∧ d.on COX_CNT_SEL.CLEAR 0 then
      d.cntField (F.id - (COX_CNT.COUNT 0).id) else none
  | _ => none

/-- Read one part of an access (R12, R30, R224, R289). -/
def Dev.partRead (c : Ctl) (d : Dev) (x : Part) : Nat × Dev :=
  if x.place = .tgt ∧ x.reg.off = 0x10 then
    if x.clo = 0 then ((d.claim x.i).1 * 2 ^ x.shift, (d.claim x.i).2) else (0, d)
  else
    let d := if x.place = .eng ∧ (x.reg.off = 0x28 ∨ x.reg.off = 0x30) then d.engSettle x.i else d
    let v := bitsOf (d.viewWord c x.reg.flds x.i) x.clo (x.chi - x.clo) * 2 ^ x.shift
    let n := (readClears x).foldl (fun d F => d.rcClear F x.i) d
    (v, match d.cntClears x with
      | some (F, i) => n.put F i 0
      | none => n)

/-- Read every part of an access. -/
def Dev.partsRead (c : Ctl) : List Part → Dev → Nat × Dev
  | [], d => (0, d)
  | x :: l, d =>
    let (v, d) := d.partRead c x
    let (w, d) := Dev.partsRead c l d
    (v + w, d)

/-- Bytes of a buffer as the data of a read. -/
def bufRead (t : List Host.Cell) (a size : Nat) : Nat := ofLeBytes (nats (getCells t a size 0))

/-- A read that is served (R354, R378). -/
def State.readAt (s : State) (o size : Nat) : Nat × State :=
  match s.dev.slotOf o with
  | .mboxCmd a => (bufRead s.mem.mboxCmd a size, s)
  | .mboxReply a => (bufRead s.mem.mboxReply a size, s)
  | .impression a => (if s.dev.on LCK_STATUS.CAPTURING 0 then 0 else bufRead s.mem.impression a size, s)
  | _ =>
    let (v, d) := Dev.partsRead s.ctl (s.dev.parts o size) s.dev
    (v, { s with dev := d })

/-- The agent is the management processor; the agent's errors are detected (R385). -/
def isMgmt (a : Agent) : Bool := a == .mgmt
def State.detects (s : State) (a : Agent) : Bool := a != .side && s.ctl.live

/-- A read of the window. DEDUCED (log 71). -/
def State.read (s : State) (a : Agent) (o size : Nat) : State :=
  let bad := badShape o size
  let s := if bad ∧ s.detects a then { s with dev := s.dev.accessError (isMgmt a) o size false } else s
  let (v, s) := if !bad ∧ s.served a o then s.readAt o size else (0, s)
  { s with dev := s.dev.emit (.readData o v) }

/-- One field an access writes whole, with the value written. -/
structure FldWrite where
  fld : Fld
  i : Nat
  v : Nat

/-- The fields a write carries (R378). The engines' registers are written through their FIFOs. -/
def partWrites (data : Nat) (x : Part) : List FldWrite :=
  if x.place = .eng then []
  else
    let image := bitsOf data x.shift (x.chi - x.clo) * 2 ^ x.clo
    (x.reg.flds.filter x.covers).map fun F => ⟨F, x.i, F.of image⟩

/-- A value of a field held to its range: below it the lowest, above it the value its chapter names. -/
def Fld.clip (F : Fld) (v : Nat) : Nat := if v < F.mn then F.mn else if F.mx < v then F.above else v

/-- Status and run-time fields, but for those that only act (Table 13, R75, R191, R347). -/
def Dev.statusWrite (d : Dev) (w : FldWrite) : Dev :=
  let old := d.get w.fld w.i
  match w.fld.acc with
  | .rw =>
    let d := d.put w.fld w.i (if w.fld.id = TIM_FREQ_ADJ.FREQ_ADJ.id then clipFreq w.v else w.fld.clip w.v)
    if w.fld.id = EVC_VEC_MASK.MASK.id then d.runsEnd else d
  | .w1c =>
    if w.fld.id = HPE_PAGE_STATUS.RESET_DONE.id then
      (if w.v = 1 then d.put HPE_FN_STATUS.RESET_DONE w.i 0 else d)
    else d.put w.fld w.i (old ^^^ (old &&& w.v))
  | .w1s =>
    if w.v = 0 then d
    else if w.fld.id = FLT_REC_STATUS.ACKED.id then d.ackRecord
    else if d.get LN_PAT_CTL.TX_PAT w.i = 0 then d
    else (d.put LN_PAT_CTL.INJECT w.i 1).emit (.invertBit w.i)
  | _ => d

/-- A mailbox GO (R313). DEDUCED (log 23). -/
def State.mboxGo (s : State) : State :=
  match s.dev.get CMP_MBOX_STATUS.STATE 0 with
  | 0 | 3 =>
    { s with
      dev := s.dev.puts 0 [(CMP_MBOX_STATUS.STATE, if s.ctl.state = .powered then 1 else 2), (CMP_MBOX_STATUS.REPLY_LEN, 0)]
      mem := { s.mem with mboxReply := [] } }
  | _ => { s with dev := s.dev.put CMP_MBOX_STATUS.GO_IGNORED 0 1 }

/-- A field that acts when written (WO): `ws` is all the access writes. -/
def State.actWrite (a : Agent) (ws : List FldWrite) (s : State) (w : FldWrite) : State :=
  let onD := fun (d : Dev) => ({ s with dev := d } : State)
  let one := w.v = 1
  if w.fld.id = TIM_STEP_CTL.GO.id ∧ one then onD (s.dev.stepGo (s.dev.on TIM_STEP_CTL.MODE 0) (s.dev.on TIM_STEP_CTL.NEG 0))
  else if w.fld.id = TIM_SLEW_CTL.GO.id ∧ one then onD s.dev.slewGo
  else if w.fld.id = TIM_SNAP.GO.id ∧ one then onD s.dev.snapGo
  else if w.fld.id = EVC_PEND_SET.SOURCE.id then onD (s.dev.pendSet w.v)
  else if w.fld.id = EVC_PEND_CLR.SOURCE.id then onD (s.dev.pendClr w.v)
  else if w.fld.id = EVC_TGT_EOI.VECTOR.id then
    onD (s.dev.eoi w.i w.v (ws.any fun u => u.fld.id == EVC_TGT_EOI.IDLE.id && u.v == 1))
  else if w.fld.id = CMP_MBOX_CTL.GO.id ∧ one then s.mboxGo
  else if w.fld.id = HPE_DOORBELL.VALUE.id then onD (s.dev.doorbell w.i w.v)
  else if w.fld.id = HPE_PAGE_RESET.RESET.id ∧ one then onD (s.dev.fnResetAsk w.i)
  else if w.fld.id = LCK_SIDE_CTL.TRIGGER.id ∧ one ∧ a = .side then s.trigger LCK_CFG.SIDE_EN 4
  else if w.fld.id = LCK_SIDE_CTL.RELEASE.id ∧ one then s.askRelease
  else if w.fld.id = LCK_SIDE_CTL.CLEAR.id ∧ one then onD (s.dev.put LCK_STATUS.VALID 0 0)
  else s

/-- The entry a write to an engine's register makes in its FIFO (R223, Table 71). DEDUCED (log 56). -/
def engWrite (data : Nat) (x : Part) : EngOp :=
  let image := bitsOf data x.shift (x.chi - x.clo)
  let whole := x.clo == 0 && x.chi == x.reg.width
  if !whole then .none
  else match x.reg.off with
  | 0x00 => engEntry .cfg image
  | 0x08 => engEntry .poly image
  | 0x10 => engEntry .init image
  | 0x18 => engEntry .xorout image
  | 0x20 => if image % 2 = 1 then .start else .none
  | 0x38 => .feed 1 (image % 2 ^ 8)
  | 0x40 => .feed 2 (image % 2 ^ 16)
  | 0x48 => .feed 4 image
  | _ => .none
def Dev.engWrites (d : Dev) (data : Nat) (x : Part) : Dev := if x.place = .eng then d.engPush x.i (engWrite data x) else d

/-- Direct writes of configuration are honoured (R9, R389). -/
def Ctl.honours (c : Ctl) : Bool := c.state == .imageLoad || (c.state == .running && c.mode == some .service)

/-- Fields a direct write leaves alone without a log, in any mode: those a recirculation port has not (R132), FLT_REACT_0
(R358), the owner of a function's own ring (R243), fields that do not apply to a ring's kind (R278), and the configuration
of a source number that no source has (R280). DEDUCED (log 72). -/
def fldFixed (F : Fld) (i : Nat) : Bool :=
  notOnRecirc F i ||
  (i == 0 && [FLT_REACT.R_NOTICE, FLT_REACT.R_DEGRADED, FLT_REACT.R_SERIOUS, FLT_REACT.R_FATAL].any fun G => G.id == F.id) ||
  (decide (8192 ≤ i) && [RING_CFG.FUNC, RING_CFG.ASSIGNED].any fun G => G.id == F.id) ||
  (decide (4096 ≤ i) && [RING_CFG.WEIGHT, RING_CFG.BURST].any fun G => G.id == F.id) ||
  (decide (i < 4096 ∨ 8192 ≤ i) && [RING_CFG.KEEP_FCS, RING_CFG.STARVE_US, RING_RX_HOLD.HOLD_KIB].any fun G => G.id == F.id) ||
  ((srcKind i).isNone && (cfgFlds .srccfg 0).any fun G => G.id == F.id)

/-- The ring fields that change only while the ring is STOPPED (R278). -/
def ringFixed : List Fld := [RING_BASE.ADDR, RING_LINE.ADDR, RING_CFG.LOG2_SIZE, RING_CFG.FUNC, RING_CFG.ASSIGNED, RING_CFG.KEEP_FCS,
  RING_CFG.STARVE_US, RING_RX_HOLD.HOLD_KIB]

/-- A field's own rule turns its direct write away, to be logged as R9 states: RX_EN and TX_EN under the quiesce (R334),
polarity and precoding of a lane that is not OFF (R45), the profile of a port that is not OFF (R61), no slice enabled
(R25), the timebase stopped under a list (R189), a ring that is not STOPPED (R278). -/
def Dev.turnsAway (d : Dev) (w : FldWrite) : Bool :=
  let is := fun (l : List Fld) => l.any fun G => G.id == w.fld.id
  (d.cmp.quiesce && isMacEn w.fld.id) ||
  (is [LN_CTL.TX_INVERT, LN_CTL.RX_INVERT, LN_CTL.TX_PRECODE, LN_CTL.RX_PRECODE] && d.laneState w.i != stOff) ||
  (is [PCS_CTL.PROFILE] && !d.portOff w.i) ||
  (is [MAC_BANK_DEAL.SLICE_EN, MAC_GLOBAL_DEAL.SLICE_EN] && w.v == 0) ||
  (is [TIM_CTL.EN] && w.v == 0 && d.lanePorts.any d.listLive) ||
  (is ringFixed && d.ringState w.i != 0)

/-- Changed power-domain requests, carried out or returned bit by bit (R384): whether one was returned. DEDUCED (log 72). -/
def Dev.pdWrite (d : Dev) (v : Nat) : Dev × Bool :=
  let old := d.get CPX_PD_CTL.REQ 0
  (List.range 35).foldl (fun x k =>
    if bitAt v k = bitAt old k then x
    else if bitAt v k then (x.1.powerUp k, x.2)
    else if k < 32 ∧ x.1.bankIdle k then ((x.1.powerDown k).pllsStop k, x.2)
    else (x.1, true)) (d, false)

/-- The rules that join fields of one register: taps (R53, R91), pause modes (R132), rates (R186), the window, history and
span of a profile (R226, R241), reactions (R341, R358). -/
def Dev.joinFields (d : Dev) (w : FldWrite) : Dev :=
  let i := w.i
  let is := fun (l : List Fld) => l.any fun G => G.id == w.fld.id
  let top := fun (d : Dev) (A B : Fld) => if 40 < d.get A i + d.get B i then d.put B i (40 - d.get A i) else d
  if is [LN_TX_EQ.C_PRE, LN_TX_EQ.C_POST] then top d LN_TX_EQ.C_PRE LN_TX_EQ.C_POST
  else if is [LN_LAUNCH_CTL.IEEE_PRE, LN_LAUNCH_CTL.IEEE_POST] then top d LN_LAUNCH_CTL.IEEE_PRE LN_LAUNCH_CTL.IEEE_POST
  else if is [MAC_PORT_CFG.PAUSE_EN, MAC_PORT_CFG.PFC_EN] then
    if d.on MAC_PORT_CFG.PFC_EN i then d.put MAC_PORT_CFG.PAUSE_EN i 0 else d
  else if is [PTN_POL_RATE.CIR_KBPS, PTN_POL_RATE.PIR_KBPS] then
    d.put PTN_POL_RATE.PIR_KBPS i (max (d.get PTN_POL_RATE.PIR_KBPS i) (d.get PTN_POL_RATE.CIR_KBPS i))
  else if is [PRF_PROF_CFG.CW, PRF_PROF_CFG.ACW, PRF_PROF_SPAN.SPAN_OFF, PRF_PROF_SPAN.SPAN_LEN, PRF_PROF_SEQ.WINDOW,
      PRF_PROF_SEQ.HIST] then
    let half := 2 ^ (acwBits (d.get PRF_PROF_CFG.ACW i) - 1)
    d.puts i [(PRF_PROF_SEQ.WINDOW, clampTo (d.get PRF_PROF_SEQ.WINDOW i) 1 (half - 1)),
      (PRF_PROF_SEQ.HIST, min (d.get PRF_PROF_SEQ.HIST i) (min 32 half)),
      (PRF_PROF_SPAN.SPAN_LEN, min (d.get PRF_PROF_SPAN.SPAN_LEN i)
        (max 1 (15996 - d.get PRF_PROF_SPAN.SPAN_OFF i - d.trailerLen i)))]
  else if is [FLT_REACT.R_NOTICE, FLT_REACT.R_DEGRADED, FLT_REACT.R_SERIOUS, FLT_REACT.R_FATAL] then
    let v := d.get w.fld i &&& allowedBits i
    d.put w.fld i (if w.fld.id = FLT_REACT.R_FATAL.id ∧ v &&& 0x30 = 0 then v ||| 0x20 else v)
  else d

/-- What a direct write of ENABLE does to a port (Table 30, R369), and of a source's ENABLE to its pending state (R284). -/
def Dev.enableAfter (d old : Dev) (w : FldWrite) : Dev :=
  if w.fld.id = LN_LAUNCH_CTL.ENABLE.id then
    if d.on LN_LAUNCH_CTL.ENABLE w.i then d.tryLaunch w.i
    else if old.on LN_LAUNCH_CTL.ENABLE w.i then (d.rxAbort w.i).portStop w.i else d
  else if w.fld.id = EVC_SRC_CFG.ENABLE.id ∧ w.v = 0 then d.srcClear w.i
  else d

/-- The configuration fields of an access (R9, R389): those that change are honoured, or ignored and logged once. -/
def Dev.cfgWrites (c : Ctl) (d : Dev) (o : Nat) (ws : List FldWrite) : Dev :=
  let ch := ws.filter fun w => w.fld.cfg && !fldFixed w.fld w.i && w.v != d.get w.fld w.i
  if ch.isEmpty then d
  else if !c.honours then (if c.live then d.cfgIgnored o else d)
  else
    let pd := ch.filter fun w => w.fld.id == CPX_PD_CTL.REQ.id
    let rest := ch.filter fun w => w.fld.id != CPX_PD_CTL.REQ.id
    let ok := rest.filter fun w => !d.turnsAway w
    let (n, back) := match pd with
      | w :: _ => d.pdWrite w.v
      | [] => (d, false)
    let n := ok.foldl (fun n w => n.put w.fld w.i (w.fld.clip w.v)) n
    let n := ok.foldl Dev.joinFields n
    let n := if ok.isEmpty then n else (n.settle d (ok.map fun w => (w.fld.id, w.i))).guarKept d
    let n := ok.foldl (fun n w => n.enableAfter d w) n
    let n := if c.state = .running ∧ (!ok.isEmpty || n.get CPX_PD_CTL.REQ 0 != d.get CPX_PD_CTL.REQ 0) then
        n.put CMP_IMG_STATUS.DIRECT_WRITES 0 1 else n
    if back ∨ ok.length < rest.length then n.cfgIgnored o else n

/-- A write that is served (R378): run-time and status fields, then what acts, then configuration. -/
def State.writeAt (s : State) (a : Agent) (o size data : Nat) : State :=
  match s.dev.slotOf o with
  | .mboxCmd k =>
    if s.dev.get CMP_MBOX_STATUS.STATE 0 = 1 ∨ s.dev.get CMP_MBOX_STATUS.STATE 0 = 2 then s
    else { s with mem := { s.mem with mboxCmd := putCells s.mem.mboxCmd k 0 (byteList (leBytes data size)) } }
  | .mboxReply _ | .impression _ => s
  | _ =>
    let ps := s.dev.parts o size
    let ws := ps.flatMap (partWrites data)
    let st := ws.filter fun w => !w.fld.cfg
    let s := { s with dev := ps.foldl (fun d x => d.engWrites data x) (st.foldl Dev.statusWrite s.dev) }
    let s := (st.filter fun w => w.fld.acc == .wo).foldl (State.actWrite a st) s
    { s with dev := s.dev.cfgWrites s.ctl o ws }

/-- A write of the window. DEDUCED (log 71). -/
def State.write (s : State) (a : Agent) (o size data : Nat) : State :=
  if badShape o size || badDoorbell64 o size true then
    if s.detects a then { s with dev := s.dev.accessError (isMgmt a) o size true } else s
  else if s.served a o then s.writeAt a o size data else s

/-- REGISTER_WRITE (R389): the window is 64 MiB. -/
def execRegisterWrite (agent : Agent) (offset size data : Nat) (s : State) : Out := s.aclk fun s =>
  if offset < 0x4000000 then s.write agent offset size (data % 2 ^ (8 * size)) else s

/-- RC_READ (R30): a read of the window, of whatever field lies there. -/
def execRcRead (agent : Agent) (offset size : Nat) (s : State) : Out := s.aclk fun s =>
  if offset < 0x4000000 then s.read agent offset size else s

/-- ACCESS_ERROR (R377, R385, R386): an access of a bad width or alignment. A read returns 0. -/
def execAccessError (agent : Agent) (offset size : Nat) (write : Bool) (s : State) : Out := s.aclk fun s =>
  if offset < 0x4000000 ∧ (badShape offset size || badDoorbell64 offset size write) then
    let s := if s.detects agent then { s with dev := s.dev.accessError (isMgmt agent) offset size write } else s
    if write then s else { s with dev := s.dev.emit (.readData offset 0) }
  else s

/-- CPX_PD_CTL_WRITE (R384): a 64-bit direct write. -/
def execCpxPdCtlWrite (value : Nat) (s : State) : Out := s.onDev fun c d =>
  d.cfgWrites c 0x110 [⟨CPX_PD_CTL.REQ, 0, value % 2 ^ 35⟩]

/-- The mailbox is served (R313, R361). -/
def Ctl.mboxServed (c : Ctl) : Bool := c.live || (c.state == .powered && c.pll && c.d34)

/-- MBOX_GO (R313): a write of CMP_MBOX_CTL with GO. -/
def execMboxGo (len : Nat) (s : State) : Out := s.aclk fun s =>
  if s.ctl.mboxServed then ({ s with dev := s.dev.put CMP_MBOX_CTL.CMD_LEN 0 len } : State).mboxGo else s

/-- The doorbell pages are served (R251, R278). DEDUCED (log 26). -/
def State.onPage (s : State) (f : Nat) (g : Dev → Dev) : Out := s.onDev fun _ d => if f < 64 ∧ d.pdOn 33 then g d else d

/-- DOORBELL (R250): the 32-bit word written in a function's page. -/
def execDoorbell (function word : Nat) (s : State) : Out := s.onPage function fun d => d.doorbell function (word % 2 ^ 32)

/-- DOORBELL_FENCE (R269): a doorbell with FENCE = 1. -/
def execDoorbellFence (function kind queue : Nat) (s : State) : Out :=
  s.onPage function fun d => d.doorbell function (queue % 2 ^ 12 + kind % 2 ^ 3 * 2 ^ 12 + 2 ^ 15)

/-- HPE_PAGE_RESET and FUNCTION_LEVEL_RESET (R275). -/
def execHpePageReset (function : Nat) (s : State) : Out := s.onPage function fun d => d.fnResetAsk function
def execFunctionLevelReset (function : Nat) (s : State) : Out := s.onPage function fun d => d.fnResetAsk function

end Sys2Proof.Machine
end

