-- ==== Sys2Proof/Machine/Dispatch.lean ====
section
/-!
DEFINITION. The dispatch: one arm for each command, in the opcode table's order, each a direct call of its meaning.
-/
namespace Sys2Proof.Machine

def exec (i : Instr) (s : State) : Host.Outcome State Fault Refusal :=
  match i with
  | .sessionInfo p => Sys2Proof.Machine.execSessionInfo p s
  | .stateGet p => Sys2Proof.Machine.execStateGet p s
  | .cpxReset p => Sys2Proof.Machine.execCpxReset p s
  | .complexReset => Sys2Proof.Machine.execComplexReset s
  | .bankReset p => Sys2Proof.Machine.execBankReset p s
  | .eightReset p => Sys2Proof.Machine.execEightReset p s
  | .portReset p => Sys2Proof.Machine.execPortReset p s
  | .resetComplete scope => Sys2Proof.Machine.execResetComplete scope s
  | .modeSet p => Sys2Proof.Machine.execModeSet p s
  | .modeSwitchCommit => Sys2Proof.Machine.execModeSwitchCommit s
  | .startModeSwitch => Sys2Proof.Machine.execStartModeSwitch s
  | .imageInfo p => Sys2Proof.Machine.execImageInfo p s
  | .imageWriteBegin p => Sys2Proof.Machine.execImageWriteBegin p s
  | .imageWriteData p => Sys2Proof.Machine.execImageWriteData p s
  | .imageWriteEnd p => Sys2Proof.Machine.execImageWriteEnd p s
  | .imageRead p => Sys2Proof.Machine.execImageRead p s
  | .imageAbort p => Sys2Proof.Machine.execImageAbort p s
  | .commandWaitEnd issuer => Sys2Proof.Machine.execCommandWaitEnd issuer s
  | .kilLen issuer => Sys2Proof.Machine.execKilLen issuer s
  | .commandPacketRefused issuer bytes => Sys2Proof.Machine.execCommandPacketRefused issuer bytes s
  | .laneLaunch p => Sys2Proof.Machine.execLaneLaunch p s
  | .laneStop p => Sys2Proof.Machine.execLaneStop p s
  | .laneEasy p => Sys2Proof.Machine.execLaneEasy p s
  | .laneWake p => Sys2Proof.Machine.execLaneWake p s
  | .laneLaunchCfg p => Sys2Proof.Machine.execLaneLaunchCfg p s
  | .laneEqSet p => Sys2Proof.Machine.execLaneEqSet p s
  | .lanePolarity p => Sys2Proof.Machine.execLanePolarity p s
  | .lanePattern p => Sys2Proof.Machine.execLanePattern p s
  | .laneRosterGet p => Sys2Proof.Machine.execLaneRosterGet p s
  | .portLayout p => Sys2Proof.Machine.execPortLayout p s
  | .portMacCfg p => Sys2Proof.Machine.execPortMacCfg p s
  | .portSaSet p => Sys2Proof.Machine.execPortSaSet p s
  | .portDeal p => Sys2Proof.Machine.execPortDeal p s
  | .portCountersGet p => Sys2Proof.Machine.execPortCountersGet p s
  | .galPortCfg p => Sys2Proof.Machine.execGalPortCfg p s
  | .galClassCfg p => Sys2Proof.Machine.execGalClassCfg p s
  | .galMap p => Sys2Proof.Machine.execGalMap p s
  | .galHeadroom p => Sys2Proof.Machine.execGalHeadroom p s
  | .galStatusGet p => Sys2Proof.Machine.execGalStatusGet p s
  | .galScrubCfg p => Sys2Proof.Machine.execGalScrubCfg p s
  | .galFlush p => Sys2Proof.Machine.execGalFlush p s
  | .galCountersGet p => Sys2Proof.Machine.execGalCountersGet p s
  | .coxPortShape p => Sys2Proof.Machine.execCoxPortShape p s
  | .coxClassCfg p => Sys2Proof.Machine.execCoxClassCfg p s
  | .ptnSet p => Sys2Proof.Machine.execPtnSet p s
  | .ptnPolice p => Sys2Proof.Machine.execPtnPolice p s
  | .coxTelem p => Sys2Proof.Machine.execCoxTelem p s
  | .coxCountersGet p => Sys2Proof.Machine.execCoxCountersGet p s
  | .coxGuarQuery p => Sys2Proof.Machine.execCoxGuarQuery p s
  | .timStep p => Sys2Proof.Machine.execTimStep p s
  | .timFreq p => Sys2Proof.Machine.execTimFreq p s
  | .timSlew p => Sys2Proof.Machine.execTimSlew p s
  | .timGet p => Sys2Proof.Machine.execTimGet p s
  | .timLaneLat p => Sys2Proof.Machine.execTimLaneLat p s
  | .timPortCfg p => Sys2Proof.Machine.execTimPortCfg p s
  | .gateClassCfg p => Sys2Proof.Machine.execGateClassCfg p s
  | .gatePortCfg p => Sys2Proof.Machine.execGatePortCfg p s
  | .gateListLoad p => Sys2Proof.Machine.execGateListLoad p s
  | .gateListCommit p => Sys2Proof.Machine.execGateListCommit p s
  | .gateStop p => Sys2Proof.Machine.execGateStop p s
  | .gateCountersGet p => Sys2Proof.Machine.execGateCountersGet p s
  | .timEnable p => Sys2Proof.Machine.execTimEnable p s
  | .prfProfileSet p => Sys2Proof.Machine.execPrfProfileSet p s
  | .prfStreamSet p => Sys2Proof.Machine.execPrfStreamSet p s
  | .prfRecReset p => Sys2Proof.Machine.execPrfRecReset p s
  | .prfTxAliveSet p => Sys2Proof.Machine.execPrfTxAliveSet p s
  | .prfStatusGet p => Sys2Proof.Machine.execPrfStatusGet p s
  | .hpeFnCfg p => Sys2Proof.Machine.execHpeFnCfg p s
  | .hpeQueueAssign p => Sys2Proof.Machine.execHpeQueueAssign p s
  | .hpeQueueCfg p => Sys2Proof.Machine.execHpeQueueCfg p s
  | .hpeQueueStart p => Sys2Proof.Machine.execHpeQueueStart p s
  | .hpeFnReset p => Sys2Proof.Machine.execHpeFnReset p s
  | .hpeStatusGet p => Sys2Proof.Machine.execHpeStatusGet p s
  | .evcSrcCfg p => Sys2Proof.Machine.execEvcSrcCfg p s
  | .evcVecCfg p => Sys2Proof.Machine.execEvcVecCfg p s
  | .evcTgtCfg p => Sys2Proof.Machine.execEvcTgtCfg p s
  | .evcTsetSet p => Sys2Proof.Machine.execEvcTsetSet p s
  | .evcSbCfg p => Sys2Proof.Machine.execEvcSbCfg p s
  | .evcStatusGet p => Sys2Proof.Machine.execEvcStatusGet p s
  | .fltStatusGet p => Sys2Proof.Machine.execFltStatusGet p s
  | .fltAck p => Sys2Proof.Machine.execFltAck p s
  | .fltReactionSet p => Sys2Proof.Machine.execFltReactionSet p s
  | .fltSafeCfg p => Sys2Proof.Machine.execFltSafeCfg p s
  | .fltInject p => Sys2Proof.Machine.execFltInject p s
  | .lckCfg p => Sys2Proof.Machine.execLckCfg p s
  | .lckTrigger p => Sys2Proof.Machine.execLckTrigger p s
  | .lckImpressionRead p => Sys2Proof.Machine.execLckImpressionRead p s
  | .lckImpressionClear p => Sys2Proof.Machine.execLckImpressionClear p s
  | .fence p => Sys2Proof.Machine.execFence p s
  | .barrier p => Sys2Proof.Machine.execBarrier p s
  | .registerWrite agent offset size data => Sys2Proof.Machine.execRegisterWrite agent offset size data s
  | .rcRead agent offset size => Sys2Proof.Machine.execRcRead agent offset size s
  | .accessError agent offset size write => Sys2Proof.Machine.execAccessError agent offset size write s
  | .cpxPdCtlWrite value => Sys2Proof.Machine.execCpxPdCtlWrite value s
  | .mboxGo len => Sys2Proof.Machine.execMboxGo len s
  | .doorbell function word => Sys2Proof.Machine.execDoorbell function word s
  | .doorbellFence function kind queue => Sys2Proof.Machine.execDoorbellFence function kind queue s
  | .hpePageReset function => Sys2Proof.Machine.execHpePageReset function s
  | .functionLevelReset function => Sys2Proof.Machine.execFunctionLevelReset function s
  | .functionResetDone f => Sys2Proof.Machine.execFunctionResetDone f s
  | .stepGo add neg => Sys2Proof.Machine.execStepGo add neg s
  | .timebaseStep => Sys2Proof.Machine.execTimebaseStep s
  | .slewGo => Sys2Proof.Machine.execSlewGo s
  | .slewDone => Sys2Proof.Machine.execSlewDone s
  | .snapGo => Sys2Proof.Machine.execSnapGo s
  | .prfEngCfg engine reg value => Sys2Proof.Machine.execPrfEngCfg engine reg value s
  | .preset engine value castagnoli => Sys2Proof.Machine.execPreset engine value castagnoli s
  | .start engine => Sys2Proof.Machine.execStart engine s
  | .prfEngFeedB engine data => Sys2Proof.Machine.execPrfEngFeedB engine data s
  | .prfEngFeedH engine data => Sys2Proof.Machine.execPrfEngFeedH engine data s
  | .prfEngFeedW engine data => Sys2Proof.Machine.execPrfEngFeedW engine data s
  | .engineFifoEntry engine => Sys2Proof.Machine.execEngineFifoEntry engine s
  | .prfEngResultRead engine result => Sys2Proof.Machine.execPrfEngResultRead engine result s
  | .inject lane => Sys2Proof.Machine.execInject lane s
  | .evcPendSet source => Sys2Proof.Machine.execEvcPendSet source s
  | .evcPendClr source => Sys2Proof.Machine.execEvcPendClr source s
  | .evcTgtClaim target => Sys2Proof.Machine.execEvcTgtClaim target s
  | .evcTgtEoi target vector idle => Sys2Proof.Machine.execEvcTgtEoi target vector idle s
  | .evcVecMask vector mask => Sys2Proof.Machine.execEvcVecMask vector mask s
  | .ackedWrite => Sys2Proof.Machine.execAckedWrite s
  | .lckSideTrigger => Sys2Proof.Machine.execLckSideTrigger s
  | .lckSideRelease => Sys2Proof.Machine.execLckSideRelease s
  | .lckSideClear => Sys2Proof.Machine.execLckSideClear s
  | .imprTrigger => Sys2Proof.Machine.execImprTrigger s
  | .imprRelease => Sys2Proof.Machine.execImprRelease s
  | .imprClear => Sys2Proof.Machine.execImprClear s
  | .imprData addr => Sys2Proof.Machine.execImprData addr s
  | .islandPowerOn => Sys2Proof.Machine.execIslandPowerOn s
  | .p9ChipReset => Sys2Proof.Machine.execP9ChipReset s
  | .chipRefLoss => Sys2Proof.Machine.execChipRefLoss s
  | .pllLock => Sys2Proof.Machine.execPllLock s
  | .pllUnlock => Sys2Proof.Machine.execPllUnlock s
  | .compositorBoot => Sys2Proof.Machine.execCompositorBoot s
  | .bootRetry => Sys2Proof.Machine.execBootRetry s
  | .imageLoadComplete failA failB => Sys2Proof.Machine.execImageLoadComplete failA failB s
  | .galleyTrainingDone failed => Sys2Proof.Machine.execGalleyTrainingDone failed s
  | .galleyClearDone => Sys2Proof.Machine.execGalleyClearDone s
  | .readyEntry ms => Sys2Proof.Machine.execReadyEntry ms s
  | .fwHeartbeat => Sys2Proof.Machine.execFwHeartbeat s
  | .fwWatchdog => Sys2Proof.Machine.execFwWatchdog s
  | .domainOn k => Sys2Proof.Machine.execDomainOn k s
  | .domainOff k => Sys2Proof.Machine.execDomainOff k s
  | .bankPower k => Sys2Proof.Machine.execBankPower k s
  | .domainIdleOff k => Sys2Proof.Machine.execDomainIdleOff k s
  | .refWindowEnd eight count => Sys2Proof.Machine.execRefWindowEnd eight count s
  | .txPllLocked eight => Sys2Proof.Machine.execTxPllLocked eight s
  | .txPllUnlock eight => Sys2Proof.Machine.execTxPllUnlock eight s
  | .losAssert lane => Sys2Proof.Machine.execLosAssert lane s
  | .losDeassert lane => Sys2Proof.Machine.execLosDeassert lane s
  | .cdrLock lane => Sys2Proof.Machine.execCdrLock lane s
  | .cdrUnlock lane => Sys2Proof.Machine.execCdrUnlock lane s
  | .rxPpmUpdate lane ppm => Sys2Proof.Machine.execRxPpmUpdate lane ppm s
  | .attentionDeclared lane runs => Sys2Proof.Machine.execAttentionDeclared lane runs s
  | .attnSendDone port => Sys2Proof.Machine.execAttnSendDone port s
  | .wakeWaitExpiry port => Sys2Proof.Machine.execWakeWaitExpiry port s
  | .quietPeriodEnd port => Sys2Proof.Machine.execQuietPeriodEnd port s
  | .clause73Complete port pages => Sys2Proof.Machine.execClause73Complete port pages s
  | .detectTimeout port => Sys2Proof.Machine.execDetectTimeout port s
  | .trainingFrame lane fr => Sys2Proof.Machine.execTrainingFrame lane fr s
  | .trainingLockLoss lane => Sys2Proof.Machine.execTrainingLockLoss lane s
  | .eyeMeasurement lane eye => Sys2Proof.Machine.execEyeMeasurement lane eye s
  | .peakTrackStep lane up => Sys2Proof.Machine.execPeakTrackStep lane up s
  | .trainTimeout port => Sys2Proof.Machine.execTrainTimeout port s
  | .codingTxStart port => Sys2Proof.Machine.execCodingTxStart port s
  | .rosterTimeout port => Sys2Proof.Machine.execRosterTimeout port s
  | .codewordReceived port corr cw => Sys2Proof.Machine.execCodewordReceived port corr cw s
  | .commaBlock lane c => Sys2Proof.Machine.execCommaBlock lane c s
  | .alignLossTimeout port => Sys2Proof.Machine.execAlignLossTimeout port s
  | .hiserWindowEnd port => Sys2Proof.Machine.execHiserWindowEnd port s
  | .txEasyEntryDone port => Sys2Proof.Machine.execTxEasyEntryDone port s
  | .easyExpectLapse port => Sys2Proof.Machine.execEasyExpectLapse port s
  | .wakeTimeout port => Sys2Proof.Machine.execWakeTimeout port s
  | .modPrsChange eight level => Sys2Proof.Machine.execModPrsChange eight level s
  | .modIntChange eight level => Sys2Proof.Machine.execModIntChange eight level s
  | .cpxWake level => Sys2Proof.Machine.execCpxWake level s
  | .lockupReq level => Sys2Proof.Machine.execLockupReq level s
  | .sidebandGlitch line => Sys2Proof.Machine.execSidebandGlitch line s
  | .sidebandLatchEdge line => Sys2Proof.Machine.execSidebandLatchEdge line s
  | .filterClockStop line => Sys2Proof.Machine.execFilterClockStop line s
  | .rxHeadDecision h => Sys2Proof.Machine.execRxHeadDecision h s
  | .headHandoff port ready waited => Sys2Proof.Machine.execHeadHandoff port ready waited s
  | .rxFrameEnd e => Sys2Proof.Machine.execRxFrameEnd e s
  | .rxRmOverflow port same => Sys2Proof.Machine.execRxRmOverflow port same s
  | .aliveJudgement partner alive check port => Sys2Proof.Machine.execAliveJudgement partner alive check port s
  | .recordAgeWalk => Sys2Proof.Machine.execRecordAgeWalk s
  | .rxPauseTimerLoad port => Sys2Proof.Machine.execRxPauseTimerLoad port s
  | .rxPauseTimerExpiry port timer => Sys2Proof.Machine.execRxPauseTimerExpiry port timer s
  | .recircLateDiscard port => Sys2Proof.Machine.execRecircLateDiscard port s
  | .occupancyReport port cls bytes => Sys2Proof.Machine.execOccupancyReport port cls bytes s
  | .reportStale port cls => Sys2Proof.Machine.execReportStale port cls s
  | .xoffFallReport port prio => Sys2Proof.Machine.execXoffFallReport port prio s
  | .fcRefreshExpiry port => Sys2Proof.Machine.execFcRefreshExpiry port s
  | .controlFrameSend port => Sys2Proof.Machine.execControlFrameSend port s
  | .galleyRelease port errs slices => Sys2Proof.Machine.execGalleyRelease port errs slices s
  | .galleyAgeCheck port cls => Sys2Proof.Machine.execGalleyAgeCheck port cls s
  | .scrubVisit extent cell corrected bad => Sys2Proof.Machine.execScrubVisit extent cell corrected bad s
  | .scrubPassDone => Sys2Proof.Machine.execScrubPassDone s
  | .extentSwap extent => Sys2Proof.Machine.execExtentSwap extent s
  | .queueArrive port cls partner len => Sys2Proof.Machine.execQueueArrive port cls partner len s
  | .queueFront port cls partner x => Sys2Proof.Machine.execQueueFront port cls partner x s
  | .queueDrop port cls partner len => Sys2Proof.Machine.execQueueDrop port cls partner len s
  | .coxDecision port => Sys2Proof.Machine.execCoxDecision port s
  | .shaperRefill which => Sys2Proof.Machine.execShaperRefill which s
  | .policerRefill partner => Sys2Proof.Machine.execPolicerRefill partner s
  | .ageingWalk => Sys2Proof.Machine.execAgeingWalk s
  | .telemetryWalk => Sys2Proof.Machine.execTelemetryWalk s
  | .txFrameStart x => Sys2Proof.Machine.execTxFrameStart x s
  | .txFrameEnd port rest abort => Sys2Proof.Machine.execTxFrameEnd port rest abort s
  | .txUnderrun port => Sys2Proof.Machine.execTxUnderrun port s
  | .stampMove => Sys2Proof.Machine.execStampMove s
  | .gateEntryBoundary port => Sys2Proof.Machine.execGateEntryBoundary port s
  | .switchGuardStart port => Sys2Proof.Machine.execSwitchGuardStart port s
  | .gateSwitch port => Sys2Proof.Machine.execGateSwitch port s
  | .windowCutoff port cls => Sys2Proof.Machine.execWindowCutoff port cls s
  | .indexLineReadDone ring value => Sys2Proof.Machine.execIndexLineReadDone ring value s
  | .descriptorFetchDone ring words => Sys2Proof.Machine.execDescriptorFetchDone ring words s
  | .descriptorRetry ring word => Sys2Proof.Machine.execDescriptorRetry ring word s
  | .txQueueService bufs => Sys2Proof.Machine.execTxQueueService bufs s
  | .hostTxHandoff => Sys2Proof.Machine.execHostTxHandoff s
  | .hostRxFrame queue x => Sys2Proof.Machine.execHostRxFrame queue x s
  | .hostRxDeliver queue => Sys2Proof.Machine.execHostRxDeliver queue s
  | .starveTimeout queue => Sys2Proof.Machine.execStarveTimeout queue s
  | .publishTimer ring => Sys2Proof.Machine.execPublishTimer ring s
  | .recordPost ring => Sys2Proof.Machine.execRecordPost ring s
  | .recordRingPoll ring => Sys2Proof.Machine.execRecordRingPoll ring s
  | .hostReadFault ring => Sys2Proof.Machine.execHostReadFault ring s
  | .sourceEvent source detail => Sys2Proof.Machine.execSourceEvent source detail s
  | .coalTimerExpiry vector => Sys2Proof.Machine.execCoalTimerExpiry vector s
  | .routeCommit => Sys2Proof.Machine.execRouteCommit s
  | .faultReaction => Sys2Proof.Machine.execFaultReaction s
  | .safeEntry => Sys2Proof.Machine.execSafeEntry s
  | .safeExit => Sys2Proof.Machine.execSafeExit s
  | .lockupEntry => Sys2Proof.Machine.execLockupEntry s
  | .captureComplete => Sys2Proof.Machine.execCaptureComplete s
  | .autoRelease => Sys2Proof.Machine.execAutoRelease s
  | .lockupRelease => Sys2Proof.Machine.execLockupRelease s
  | .islandSupplyLoss => Sys2Proof.Machine.execIslandSupplyLoss s
  | .chipRefReturn => Sys2Proof.Machine.execChipRefReturn s
  | .mirrorRefresh eight clock pats => Sys2Proof.Machine.execMirrorRefresh eight clock pats s
  | .galleyChannelError channel => Sys2Proof.Machine.execGalleyChannelError channel s
  | .patternCheckerLock rx => Sys2Proof.Machine.execPatternCheckerLock rx s
  | .patternCheckerLost lane bits window => Sys2Proof.Machine.execPatternCheckerLost lane bits window s

end Sys2Proof.Machine
end

