-- ==== Sys2Proof/Safety.lean ====
section
/-!
DEFINITION. The terms claims are made in: which clocks run, what a device keeps, the canonical form of the buffers, and
what always holds of the complex state.
-/
namespace Sys2Proof.Machine
open F

/-- ACLK runs (R360, R388): the island is supplied and CHIP_REF has not been lost since the last chip reset. -/
def State.awake (s : State) : Bool := s.ctl.supply && !s.ctl.refLost

/-- The core clocks run too and the complex acts on commands (Table 16): not in POWERED and not in LOCKED. -/
def State.clocked (s : State) : Bool := s.awake && s.ctl.live

/-- The complex serves ports and rings, and the host engine's domain is on (R243, R364). -/
def State.hosting (s : State) : Bool := s.clocked && s.ctl.serving && s.dev.pdOn 33

/-- A Kiland command is taken from its issuer and passes steps 1 to 7 of R304: `s1` is the state with the command taken, `t`
what its reply needs. It is no dry run. -/
structure State.Passes (s : State) (k : KSpec) (p : Pkt) (s1 : State) (t : Ticket) : Prop where
  clocked : s.clocked = true
  taken : s.take k.opcode p = (s1, some t)
  going : s1.dev.ending = false
  checks : k.preCheck s1.cx p s1.dev = none
  real : p.dryRun = false

/-- The configuration a command would leave is admitted (R304 step 11, R146, R180, R217). -/
def State.admits (s : State) (k : KSpec) (d : Dev) : Prop := d.admitRef s.ctl s.cx.cfgMode k.admits = none

/-- A command's reply, OK with a body, is formed (R302), and published where a reset now follows (R310). -/
def State.replied (s : State) (t : Ticket) (body : List Nat) : State := (s.reply t 0 0 body).lastReply t

/-- A command's reply waits (R306). -/
def State.held (s : State) (t : Ticket) (w : Wait) : State :=
  ({ s with dev := { s.dev with cmp := { s.dev.cmp with waits := s.dev.cmp.waits ++ [⟨t, w⟩] } } } : State).lastReply t

/-- Commands that waited are answered by the effect of another (R100). -/
def State.released (s : State) (l : List Wait) : State := if l.isEmpty then s else s.replyWaits l.contains

/-- The state in which a command's effect on the device stands and its reply is formed. -/
def State.answered (s : State) (d : Dev) (t : Ticket) (body : List Nat) : State := ({ s with dev := d } : State).replied t body

/-- The state in which a command's effect stands and its reply waits. -/
def State.waiting (s : State) (d : Dev) (t : Ticket) (w : Wait) : State := ({ s with dev := d } : State).held t w

/-- A buffer is in the canonical form: addresses strictly rising, no cell that an unlisted address reads as. The mailbox
buffers and the impression read 0 where nothing is listed, erased flash 0xFF. -/
def Memory.wf (m : Mems) : Bool :=
  Tab.wf m.mboxCmd 0 && Tab.wf m.mboxReply 0 && Tab.wf m.flash 0xFF && Tab.wf m.impression 0

/-- What the complex state and the mode say of each other (R8): RUNNING is in a mode; before READY and in it there is none;
LOCKED, and only LOCKED, remembers the state it was entered from;
a mode switch has wakes under way only while RUNNING (R332), or where a lock-up caught it. -/
def Ctl.coherent (c : Ctl) : Bool :=
  (match c.state with
    | .running => c.mode.isSome
    | .powered | .imageLoad | .ready => c.mode.isNone
    | _ => true) &&
  ((c.state == .locked) == c.lockFrom.isSome) && (c.switching.isNone || c.state == .running || c.state == .locked)

/-- The changes of complex state there are (R8, R310, R332, R348, R349, R352, R355, R360, R362). -/
def CpxState.moves (a b : CpxState) : Bool :=
  a == b || match a, b with
    | .powered, .imageLoad => true
    | .imageLoad, .ready => true
    | .ready, .running => true
    | .ready, .safe | .running, .safe => true
    | .safe, .ready | .safe, .running => true
    | _, .locked => true
    | _, .powered => true
    | _, _ => false

/-- Every field outside `S` reads the same. -/
def Dev.keeps (S : List Nat) (d e : Dev) : Prop := ∀ G j, G.id ∉ S → e.get G j = d.get G j

/-- The fields an event may change (R281, R284, R285). -/
def eventIds : List Nat := [EVC_SRC_STATUS.PENDING.id, EVC_SRC_STATUS.LATCH.id, EVC_SRC_STATUS.EVENTS.id, X.EVC_SRC_SW.id,
  X.EVC_HALT.id, X.EVC_COAL.id, EVC_V_EVENTS.COUNT.id, EVC_VEC_STATUS.COUNT.id, EVC_VEC_STATUS.STATE.id]

/-- The flags hardware sets as causes of FLAG sources (Table 93). -/
def causeIds : List Nat := [LN_LAUNCH_STATUS.ACTIVE_SEEN.id, PCS_STATUS.ALIGN_LOST.id, PCS_STATUS.LAYOUT_MISMATCH.id,
  PCS_STATUS.SKEW_FAULT.id, PCS_STATUS.HI_SER_SEEN.id, MAC_PORT_STATUS.FCS_ERR_SEEN.id, MAC_PORT_STATUS.OVERSIZE_SEEN.id,
  MAC_PORT_STATUS.LEN_MISMATCH_SEEN.id, MAC_PORT_STATUS.FC_MISMATCH.id, MAC_PORT_STATUS.RECIRC_LATE_SEEN.id,
  MAC_PORT_STATUS.TX_ABORT_SEEN.id, GAL_PC_STATUS.DROP_SEEN.id, TIM_PORT_STATUS.OVF_SEEN.id, GATE_PORT_STATUS.SWITCH_SEEN.id,
  GATE_PORT_STATUS.STEP_RESTART_SEEN.id, GATE_PORT_STATUS.LATE_SEEN.id, PCS_STATUS.RX_RM_OVF.id, PCS_STATUS.TX_UNDERRUN.id,
  LN_LAUNCH_STATUS.STALL_SEEN.id, LN_EIGHT_STATUS.REF_FAULT.id, LN_EIGHT_STATUS.TX_PLL_UNLOCK.id, LN_EASY.ATTN_SEEN.id,
  MAC_BANK_DEAL.SLICE_WAIT.id, GAL_STATUS.CH_FAIL.id, GAL_STATUS.SPARE_OUT.id, GAL_STATUS.UE_SEEN.id,
  GAL_STATUS.OVERRUN_SEEN.id, TIM_STATUS.STEP_SEEN.id, TIM_STATUS.STEP_ERR.id, PRF_DIS_INFO.VALID.id, PRF_DIS_INFO.MORE.id,
  COX_TELEM_STATUS.LATE_SEEN.id, MAC_GLOBAL_DEAL.SLICE_WAIT.id, EVC_SB_MISC.GLITCH_SEEN.id, FLT_STATUS.FAULT_SEEN.id,
  FLT_STATUS.MERGE_SEEN.id, FLT_STATUS.SAFE_IN_SEEN.id, FLT_STATUS.SAFE_OUT_SEEN.id, FLT_STATUS.SAFE_HELD_SEEN.id,
  EVC_STATUS.NO_TARGET_SEEN.id, HPE_FN_STATUS.RESET_DONE.id, HPE_FN_STATUS.BAD_DB_SEEN.id]

/-- The fields a set cause bit may change. -/
def seenIds : List Nat := causeIds ++ eventIds

/-- The fields a fault may change (R340 to R348). -/
def faultIds : List Nat := [FLT_CNT.COUNT.id, FLT_LOG_HEAD.HEAD.id, FLT_LOG_HI.NANOSECONDS.id, FLT_LOG_HI.SECONDS.id,
  FLT_LOG_LO.INFO.id, FLT_LOG_LO.INJECTED.id, FLT_LOG_LO.MERGED.id, FLT_LOG_LO.SEV.id, FLT_LOG_LO.SOURCE.id,
  FLT_LOG_LO.TS_VALID.id, FLT_REC_INFO.INFO.id, FLT_REC_MERGE_MAP.MAP.id, FLT_REC_STATUS.ACKED.id,
  FLT_REC_STATUS.INJECTED.id, FLT_REC_STATUS.MERGE_COUNT.id, FLT_REC_STATUS.PEAK_SEV.id, FLT_REC_STATUS.SEV.id,
  FLT_REC_STATUS.SOURCE.id, FLT_REC_STATUS.VALID.id, FLT_REC_TIME_NS.FRAC_NS.id, FLT_REC_TIME_NS.NANOSECONDS.id,
  FLT_REC_TIME_NS.TS_VALID.id, FLT_REC_TIME_SEC.SECONDS.id, FLT_MERGED.COUNT.id, FLT_STATUS.ENTERING.id,
  FLT_STATUS.QUIET_LEFT_MS.id] ++ seenIds


/-- The fields a reply may change (R272, R302, R313, Table 110). -/
def replyIds : List Nat := [CMP_CMDS.COUNT.id, CMP_BUSY.COUNT.id, CMP_CHECK_ERR.COUNT.id, CMP_REFUSED.COUNT.id,
  CMP_MBOX_STATUS.STATE.id, CMP_MBOX_STATUS.DONE_SEEN.id, CMP_MBOX_STATUS.REPLY_LEN.id, HPE_F_REPLY_DISCARD.COUNT.id,
  RING_PROGRESS.NEXT.id, (RING_CNT.COUNT 0).id, (RING_CNT.COUNT 5).id, (RING_CNT.COUNT 7).id, RING_STATE.HW_INDEX.id] ++ eventIds

/-- The fields the commands of the event controller may change beyond those of a fault (R284 to R294). -/
def evcIds : List Nat := [EVC_BAD_PEND_SET.COUNT.id, EVC_T_EMPTY_CLAIM.COUNT.id, EVC_T_BAD_EOI.COUNT.id, EVC_T_MSGS.COUNT.id,
  X.EVC_MSEQ.id, X.EVC_PRIO.id, X.EVC_RR.id, X.EVC_NO_TGT_RUN.id, X.EVC_CLAIM_PRIO.id, EVC_NO_TARGET.COUNT.id, EVC_VEC_STATUS.TARGET.id,
  EVC_VEC_STATUS.SOURCE.id, EVC_VEC_STATUS.VANISHED.id, EVC_VEC_STATUS.VANISHED_SEEN.id, EVC_V_VANISHED.COUNT.id,
  EVC_V_CLAIMS.COUNT.id, EVC_VEC_MASK.MASK.id, EVC_VEC_CAUSE.CAUSE.id, EVC_VEC_CAUSE.EVENTS.id, EVC_VEC_CAUSE.SW.id,
  EVC_VEC_CAUSE.LIVE.id, EVC_TGT_CLAIM_CAUSE.CAUSE.id, EVC_TGT_CLAIM_CAUSE.EVENTS.id, EVC_TGT_CLAIM_CAUSE.SW.id,
  EVC_TGT_CLAIM_CAUSE.LIVE.id] ++ faultIds

/-- The commands of the event controller. -/
def evcCommand : Instr → Bool
  | .evcPendSet _ | .evcPendClr _ | .evcTgtClaim _ | .evcTgtEoi _ _ _ | .evcVecMask _ _ | .coalTimerExpiry _ | .routeCommit => true
  | _ => false

/-- The commands that can still change something while the complex is LOCKED (R31, R36, R282, R352 to R356, R360, R388). -/
def actsLocked : Instr → Bool
  | .islandSupplyLoss | .p9ChipReset | .chipRefLoss | .refWindowEnd _ _ | .modPrsChange _ _ | .modIntChange _ _ | .cpxWake _
  | .lockupReq _ | .sidebandGlitch _ | .sidebandLatchEdge _ | .filterClockStop _ | .captureComplete | .autoRelease
  | .lockupRelease | .lckSideRelease | .lckSideClear | .imprRelease | .imprClear | .imprData _ | .registerWrite _ _ _ _
  | .rcRead _ _ _ | .accessError _ _ _ _ => true
  | _ => false

/-- The commands that write flash (R325 to R327). -/
def writesFlash : Instr → Bool
  | .imageWriteBegin _ | .imageWriteData _ | .imageWriteEnd _ => true
  | _ => false

/-- The commands that write the impression buffer, or lose it with the island's supply (R353, R36). -/
def writesImpression : Instr → Bool
  | .captureComplete | .islandSupplyLoss | .islandPowerOn => true
  | _ => false

/-- Two reset scopes neither of which contains the other. -/
def Scope.apart (a b : Scope) : Prop := a.holds b = false ∧ b.holds a = false

end Sys2Proof.Machine
end

