-- ==== Sys2Proof/Certificates/Slice0/Obligations.lean ====
section
/-!
DEFINITION. The statements about the model, each a rule of the spec or a consequence of several. `s.Passes k p s1 t` (Safety)
says that a Kiland command is taken and passes steps 1 to 7 of R304; `s1.answered d t body` is the state whose device is `d`
and whose reply is formed. Every other term is the model's own.
-/
open Sys2Proof Sys2Proof.Machine Sys2Proof.Machine.F

/-- Table 107: the opcode of every Kiland command. -/
def Obligations.KilandOpcodes : Prop :=
  [kSessionInfo, kStateGet, kCpxReset, kBankReset, kEightReset, kModeSet, kImageInfo, kImageWriteBegin, kImageWriteData,
    kImageWriteEnd, kImageRead, kImageAbort, kLaneLaunch, kLaneStop, kLaneEasy, kLaneWake, kLaneLaunchCfg, kLaneEqSet,
    kLanePolarity, kLanePattern, kLaneRosterGet, kPortLayout, kPortMacCfg, kPortSaSet, kPortDeal, kPortReset,
    kPortCountersGet].map (·.opcode) =
    [0x0101, 0x0102, 0x0103, 0x0104, 0x0105, 0x0201, 0x0202, 0x0203, 0x0204, 0x0205, 0x0206, 0x0207, 0x0301, 0x0302, 0x0303,
      0x0304, 0x0305, 0x0306, 0x0307, 0x0308, 0x0309, 0x0401, 0x0402, 0x0403, 0x0404, 0x0405, 0x0406] ∧
  [kGalPortCfg, kGalClassCfg, kGalMap, kGalHeadroom, kGalStatusGet, kGalScrubCfg, kGalFlush, kGalCountersGet, kCoxPortShape,
    kCoxClassCfg, kPtnSet, kPtnPolice, kCoxTelem, kCoxCountersGet, kCoxGuarQuery, kTimStep, kTimFreq, kTimSlew, kTimGet,
    kTimLaneLat, kTimPortCfg, kGateClassCfg, kGatePortCfg, kGateListLoad, kGateListCommit, kGateStop, kGateCountersGet,
    kTimEnable].map (·.opcode) =
    [0x0501, 0x0502, 0x0503, 0x0504, 0x0505, 0x0506, 0x0507, 0x0508, 0x0601, 0x0602, 0x0603, 0x0604, 0x0605, 0x0606, 0x0607,
      0x0701, 0x0702, 0x0703, 0x0704, 0x0705, 0x0706, 0x0707, 0x0708, 0x0709, 0x070A, 0x070B, 0x070C, 0x070D] ∧
  [kPrfProfileSet, kPrfStreamSet, kPrfRecReset, kPrfTxAliveSet, kPrfStatusGet, kHpeFnCfg, kHpeQueueAssign, kHpeQueueCfg,
    kHpeQueueStart, kHpeFnReset, kHpeStatusGet, kEvcSrcCfg, kEvcVecCfg, kEvcTgtCfg, kEvcTsetSet, kEvcSbCfg, kEvcStatusGet,
    kFltStatusGet, kFltAck, kFltReactionSet, kFltSafeCfg, kFltInject, kLckCfg, kLckTrigger, kLckImpressionRead,
    kLckImpressionClear, kFence, kBarrier].map (·.opcode) =
    [0x0801, 0x0802, 0x0803, 0x0804, 0x0805, 0x0901, 0x0902, 0x0903, 0x0904, 0x0905, 0x0906, 0x0A01, 0x0A02, 0x0A03, 0x0A04,
      0x0A05, 0x0A06, 0x0B01, 0x0B02, 0x0B03, 0x0B04, 0x0B05, 0x0C01, 0x0C02, 0x0C03, 0x0C04, 0x0D01, 0x0D02]

/-- R310, R312, R36 to R38: session and reset commands that pass their checks. SESSION_INFO and STATE_GET answer and leave
the device alone; CPX_RESET replies and leaves a complex reset due, with no narrower reset in progress; BANK_RESET,
EIGHT_RESET and PORT_RESET start their reset and wait for its end. -/
def Obligations.SessionCommandsRun : Prop :=
  ∀ s p s1 t,
    (s.Passes kSessionInfo p s1 t → ∃ w0 w1 w2 w3, exec (.sessionInfo p) s = .next (s1.answered s1.dev t [w0, w1, w2, w3]) ∧
      w0 % 2 ^ 8 = 1 ∧ bitsOf w0 8 8 = p.issuer % 128 ∧ w1 = Config.serial % 2 ^ 64 ∧ w2 % 2 ^ 32 = 8160) ∧
    (s.Passes kStateGet p s1 t → p.clear = false →
      exec (.stateGet p) s = .next (s1.answered s1.dev t [s1.dev.viewWord s1.ctl (flds .glob 0x3200000) 0])) ∧
    (s.Passes kCpxReset p s1 t → s1.dev.resetting = false →
      exec (.cpxReset p) s = .next (s1.answered { s1.dev with cmp := { s1.dev.cmp with resetDue := some 2 } } t [])) ∧
    (s.Passes kBankReset p s1 t → p.target < 16 →
      exec (.bankReset p) s = .next (s1.waiting (s1.dev.resetAsk (.bank p.target)) t (.reset (.bank p.target)))) ∧
    (s.Passes kEightReset p s1 t → p.target < 128 →
      exec (.eightReset p) s = .next (s1.waiting (s1.dev.resetAsk (.eight p.target)) t (.reset (.eight p.target)))) ∧
    (s.Passes kPortReset p s1 t → s1.dev.isPort p.target = true →
      exec (.portReset p) s = .next (s1.waiting (s1.dev.resetAsk (.port p.target)) t (.reset (.port p.target))))

/-- R332, R325 to R329: MODE_SET to the mode in force only replies; with its combined configuration built and admitted it
puts that configuration and the mode in force, cancelling the EASY entries of ECONOMY, and replies, on entry to ECONOMY not
before domain 33 has settled; from ECONOMY with a wake to do it starts the wakes and waits. The commands of an image copy
open, fill, close, read and give up a session. Choices of the model in it: log entries 33, 34 and 36. -/
def Obligations.ModeAndImageCommandsRun : Prop :=
  ∀ s p s1 t,
    (∀ m cur rel, s.Passes kModeSet p s1 t → modeOf p.target = some m →
      cur = (if s1.ctl.state = .running then s1.ctl.mode else none) →
      rel = (if cur = some .economy then s1.dev.enteringTx else []) →
      (cur = some m → exec (.modeSet p) s = .next (s1.answered s1.dev t [])) ∧
      (∀ x n s2, cur ≠ some m → s1.dev.modeBuild s1.cx cur m = .ok x →
        (cur = some .economy → s1.dev.easyTx = [] ∧ s1.dev.pdOn 33 = true) → n = (Dev.modeEnter x m).each rel Dev.easyCancel →
        s2 = ({ s1 with
          ctl := { s1.ctl with mode := some m, state := .running, switching := none }
          dev := n } : State).released (rel.map .easy) →
        exec (.modeSet p) s = .next (if n.get X.CMP_ECO 0 = 1 then s2.held t .ecoOff else s2.replied t [])) ∧
      (∀ x d, cur = some .economy → m ≠ .economy → s1.dev.modeBuild s1.cx cur m = .ok x →
        (s1.dev.easyTx ≠ [] ∨ s1.dev.pdOn 33 = false) →
        d = (s1.dev.each rel Dev.easyCancel).each (s1.dev.easyTx.filter fun q => !(s1.dev.port q).txWake) Dev.wakeTx →
        exec (.modeSet p) s = .next ((({ s1 with
          ctl := { s1.ctl with switching := some m }
          dev := if d.pdOn 33 then d else d.powerUp 33 } : State).released (rel.map .easy)).held t .modeSwitch))) ∧
    (s.Passes kImageInfo p s1 t → p.clear = false → exec (.imageInfo p) s = .next (s1.answered s1.dev t
      ([0x3220000, 0x3220010, 0x3220018, 0x3220020, 0x3220028].map fun o => s1.dev.viewWord s1.ctl (flds .glob o) 0))) ∧
    (∀ c len gen d e, s.Passes kImageWriteBegin p s1 t → c = p.target → c < 2 → len = p.word 0 % 2 ^ 32 →
      gen = p.word 0 / 2 ^ 32 → 112 ≤ len → len ≤ 16777216 → len % 8 = 0 → 1 ≤ gen → gen ≤ 0xFFFFFFFE →
      (s1.dev.get (copyStatus (1 - c)) 0 = 1 → s1.dev.get (copyGen (1 - c)) 0 < gen) →
      (s1.dev.cmp.inUse = some c → s1.dev.get (copyStatus (1 - c)) 0 = 1) →
      d = (if s1.dev.cmp.session.isSome then s1.dev.sessionEnd else s1.dev) →
      e = ((d.copyShow c 3 (d.get (copyResult c) 0) (d.get (copyFail c) 0) []).puts 0 [(CMP_IMG_WRITE.ACTIVE, 1),
        (CMP_IMG_WRITE.COPY, c), (CMP_IMG_WRITE.ISSUER, p.issuer), (CMP_IMG_WRITE.NEXT_OFFSET, 0)]).emit (.flashErase c) →
      exec (.imageWriteBegin p) s = .next (({ s1 with
        mem := { s1.mem with flash := clearCells s1.mem.flash (copyBase c) (copyBase c + 0x1000000) } } : State).waiting
          { e with cmp := { e.cmp with session := some ⟨gen, len, []⟩ } } t (.flash []))) ∧
    (∀ x off data late e, s.Passes kImageWriteData p s1 t → late = byteList (data.drop (64 - off)) → p.target < 2 →
      s1.dev.holds p = some x → off = p.word 0 → data = wordBytes (p.words.drop 1) →
      off = s1.dev.get CMP_IMG_WRITE.NEXT_OFFSET 0 → off + data.length ≤ x.length →
      e = ({ s1.dev.put CMP_IMG_WRITE.NEXT_OFFSET 0 (off + data.length) with
        cmp := { s1.dev.cmp with session := some { x with header := x.header ++ byteList (data.take (64 - off)) } } } : Dev) →
      (late = [] → exec (.imageWriteData p) s = .next (s1.answered e t [])) ∧
      (late ≠ [] → exec (.imageWriteData p) s = .next (({ s1 with
        mem := { s1.mem with flash := putCells s1.mem.flash (copyBase p.target + max off 64) 0xFF late } } : State).waiting
          e t (.flash [])))) ∧
    (∀ x r d, s.Passes kImageWriteEnd p s1 t → p.target < 2 → s1.dev.holds p = some x →
      x.length ≤ s1.dev.get CMP_IMG_WRITE.NEXT_OFFSET 0 →
      r = (if (checkCopy s1.mem.flash (nats x.header) p.target).1 ≠ 0 then
          ((checkCopy s1.mem.flash (nats x.header) p.target).1, (checkCopy s1.mem.flash (nats x.header) p.target).2.1)
        else if leField (nats x.header) 8 4 ≠ x.generation then (10, 8)
        else if leField (nats x.header) 12 4 ≠ x.length then (10, 12) else (0, 0)) →
      d = s1.dev.copyShow p.target (if r.1 = 0 then 1 else 0) r.1 r.2 (nats x.header) →
      (r.1 = 0 → exec (.imageWriteEnd p) s = .next (({ s1 with
        mem := { s1.mem with flash := putCells s1.mem.flash (copyBase p.target) 0xFF x.header } } : State).waiting
          (d.inc CMP_IMG_WRITES.COUNT 0) t (.flash [r.1 + r.2 * 2 ^ 32]))) ∧
      (r.1 ≠ 0 → exec (.imageWriteEnd p) s = .next (s1.waiting d t (.flash [r.1 + r.2 * 2 ^ 32])))) ∧
    (s.Passes kImageRead p s1 t → p.target < 2 →
      (s1.dev.cmp.session.isSome = true → s1.dev.get CMP_IMG_WRITE.COPY 0 ≠ p.target) →
      p.word 0 % 2 ^ 32 % 8 = 0 → p.word 0 / 2 ^ 32 % 8 = 0 → 8 ≤ p.word 0 / 2 ^ 32 → p.word 0 / 2 ^ 32 ≤ 32768 →
      p.word 0 % 2 ^ 32 + p.word 0 / 2 ^ 32 ≤ 16777216 →
      exec (.imageRead p) s = .next (s1.waiting s1.dev t (.flash
        (bytesWords s1.mem.flash (copyBase p.target + p.word 0 % 2 ^ 32) (p.word 0 / 2 ^ 32) 0xFF)))) ∧
    (∀ x, s.Passes kImageAbort p s1 t → p.target < 2 → s1.dev.holds p = some x →
      exec (.imageAbort p) s = .next (s1.answered s1.dev.sessionEnd t []))

/-- R98, R101, R104: launch commands of a lane port. Choices of the model in it: log entries 44, 50 and 79. -/
def Obligations.LaneCommandsRun : Prop :=
  ∀ s p s1 t,
    (s.Passes kLaneLaunch p s1 t → s1.dev.isLanePort p.target = true → s1.cx.mode ≠ 5 →
      exec (.laneLaunch p) s = .next (s1.answered (s1.dev.portLaunch p.target) t [])) ∧
    (s.Passes kLaneStop p s1 t → s1.dev.isLanePort p.target = true →
      exec (.laneStop p) s = .next (s1.answered ((s1.dev.rxAbort p.target).portStop p.target) t [])) ∧
    (s.Passes kLaneEasy p s1 t → s1.dev.isLanePort p.target = true → s1.cx.mode = 4 → s1.dev.laneState p.target = 5 →
      s1.dev.get PCS_STATUS.PROFILE_LIVE p.target = 2 → s1.dev.get LN_EASY.TX_EASY p.target = 0 →
      (s1.dev.port p.target).txWake = false → (s1.dev.port p.target).entering = false →
      bitAt ((((s1.dev.port p.target).words[1]?).join).getD 0) 3 = true →
      exec (.laneEasy p) s = .next (s1.waiting
        (s1.dev.setPort p.target { s1.dev.port p.target with entering := true, coxHold := true }) t (.easy p.target))) ∧
    (s.Passes kLaneWake p s1 t → s1.dev.isLanePort p.target = true → (s1.dev.port p.target).entering = false →
      s1.dev.get LN_EASY.TX_EASY p.target = 1 →
      exec (.laneWake p) s = .next (s1.answered (s1.dev.wakeTx p.target) t [])) ∧
    (s.Passes kLaneWake p s1 t → s1.dev.isLanePort p.target = true → (s1.dev.port p.target).entering = true →
      exec (.laneWake p) s =
        .next ((({ s1 with dev := s1.dev.easyCancel p.target } : State).released [.easy p.target]).replied t [])) ∧
    (s.Passes kLaneLaunchCfg p s1 t → s1.dev.isLanePort p.target = true →
      (s1.dev.laneState p.target = 0 ∨ s1.dev.laneState p.target = 6) → fieldsOk launchCfg (p.word 0) = true →
      LN_LAUNCH_CTL.IEEE_PRE.of (p.word 0) + LN_LAUNCH_CTL.IEEE_POST.of (p.word 0) ≤ 40 →
      exec (.laneLaunchCfg p) s = .next (s1.answered (s1.dev.edit (imageEdits launchCfg p.target (p.word 0))) t [])) ∧
    (s.Passes kLaneEqSet p s1 t → p.target < 1024 → (s1.dev.portOf p.target).isSome = true →
      fieldsOk (cfgFlds .lane 0x10) (p.word 0) = true → fieldsOk (cfgFlds .lane 0x18) (p.word 1) = true →
      LN_TX_EQ.C_PRE.of (p.word 0) + LN_TX_EQ.C_POST.of (p.word 0) ≤ 40 →
      exec (.laneEqSet p) s = .next (s1.answered (((s1.dev.edit (imageEdits (cfgFlds .lane 0x10) p.target (p.word 0) ++
        imageEdits (cfgFlds .lane 0x18) p.target (p.word 1))).eqLive p.target).tapsFollow s1.dev p.target) t [])) ∧
    (s.Passes kLanePolarity p s1 t → p.target < 1024 → (s1.dev.portOf p.target).isSome = true →
      s1.dev.laneState p.target = 0 → exec (.lanePolarity p) s = .next (s1.answered
        (s1.dev.edit (imageEdits [LN_CTL.TX_INVERT, LN_CTL.RX_INVERT] p.target (p.word 0))) t [])) ∧
    (s.Passes kLanePattern p s1 t → s1.dev.isLanePort p.target = true → (s1.dev.portOf p.target).isSome = true →
      s1.cx.mode = 5 → fieldsOk [LN_PAT_CTL.TX_PAT, LN_PAT_CTL.RX_PAT] (p.word 0) = true →
      fieldsOk [LN_CTL.LOOPBACK] (p.word 2) = true →
      exec (.lanePattern p) s = .next (s1.answered ((s1.dev.edit (imageEdits [LN_PAT_CTL.TX_PAT, LN_PAT_CTL.RX_PAT]
        p.target (p.word 0) ++ [(LN_PAT_USER.USER, p.target, p.word 1)] ++ imageEdits [LN_CTL.LOOPBACK] p.target (p.word 2) ++
        [(PCS_CTL.FAR_LOOP, p.target, PCS_CTL.FAR_LOOP.of (p.word 3))])).testFollow s1.dev p.target) t [])) ∧
    (s.Passes kLaneRosterGet p s1 t → s1.dev.isLanePort p.target = true →
      exec (.laneRosterGet p) s = .next (s1.answered s1.dev t (pairWords (s1.dev.localWords p.target) ++
        pairWords ((s1.dev.port p.target).words.map (·.getD 0)) ++
        (s1.dev.portLanes p.target).map fun n => s1.dev.word s1.ctl .launch 8 n)))

/-- R17, R25, R132: port commands. Choices of the model in it: log entry 44. -/
def Obligations.PortCommandsRun : Prop :=
  ∀ s p s1 t,
    (∀ new d, s.Passes kPortLayout p s1 t → p.target < 128 → layoutPorts (p.word 0) 8 0 = some new →
      (∀ o ∈ s1.dev.layoutNow p.target, o.1 + 2 ^ o.2 ≤ 8) → (∀ n, n / 8 = p.target → s1.dev.laneState n = 0) →
      (∀ q, s1.dev.ptnDepth q = 0) →
      d = (s1.dev.edit ((List.range 8).flatMap fun i => [(LN_EIGHT_PORTMAP.WIDTH i, p.target, bitsOf (p.word 0) (4 * i) 2),
        (LN_EIGHT_PORTMAP.FIRST i, p.target, bitsOf (p.word 0) (4 * i + 3) 1)])).layoutAfter p.target (p.word 0)
          (s1.dev.layoutNow p.target) new → s1.admits kPortLayout d →
      exec (.portLayout p) s = .next (s1.answered d t [])) ∧
    (∀ d, s.Passes kPortMacCfg p s1 t → s1.dev.isPort p.target = true → fieldsOk (macCfg p.target) (p.word 0) = true →
      (p.target < 1024 → MAC_PORT_CFG.PAUSE_EN.of (p.word 0) = 0 ∨ MAC_PORT_CFG.PFC_EN.of (p.word 0) = 0) →
      d = ((s1.dev.edit (imageEdits (macCfg p.target) p.target (p.word 0))).pauseModes s1.dev p.target).derivePort p.target →
      s1.admits kPortMacCfg d →
      exec (.portMacCfg p) s = .next (s1.answered d t [])) ∧
    (s.Passes kPortSaSet p s1 t → s1.dev.isPort p.target = true →
      exec (.portSaSet p) s = .next (s1.answered (s1.dev.edit (imageEdits (cfgFlds .mac 8) p.target (p.word 0))) t [])) ∧
    (s.Passes kPortDeal p s1 t → p.target < 16 → MAC_BANK_DEAL.SLICE_EN.of (p.word 0) ≠ 0 →
      exec (.portDeal p) s = .next (s1.answered
        (s1.dev.edit [(MAC_BANK_DEAL.SLICE_EN, p.target, MAC_BANK_DEAL.SLICE_EN.of (p.word 0))]) t [])) ∧
    (s.Passes kPortDeal p s1 t → p.target = 16 → MAC_BANK_DEAL.SLICE_EN.of (p.word 0) ≠ 0 →
      exec (.portDeal p) s = .next (s1.answered
        (s1.dev.edit [(MAC_GLOBAL_DEAL.SLICE_EN, 0, MAC_BANK_DEAL.SLICE_EN.of (p.word 0))]) t [])) ∧
    (s.Passes kPortCountersGet p s1 t → s1.dev.isPort p.target = true → p.clear = false →
      exec (.portCountersGet p) s = .next (s1.answered s1.dev t (((0x10 :: offsIn .mac 0x100 0x2B8)).map fun o =>
        s1.dev.viewWord s1.ctl (flds .mac o) p.target)))

/-- R145, R151 to R156: galley commands. -/
def Obligations.GalleyCommandsRun : Prop :=
  ∀ s p s1 t,
    (∀ d, s.Passes kGalPortCfg p s1 t → s1.dev.isLanePort p.target = true → fieldsOk (cfgFlds .galport 0) (p.word 0) = true →
      d = (s1.dev.edit (imageEdits (cfgFlds .galport 0) p.target (p.word 0))).derivePort p.target → s1.admits kGalPortCfg d →
      exec (.galPortCfg p) s = .next (s1.answered d t [])) ∧
    (∀ pc d, s.Passes kGalClassCfg p s1 t → s1.dev.isLanePort p.target = true → p.word 0 < 16 → pc = p.target * 16 + p.word 0 →
      fieldsOk (cfgFlds .galclass 0) (p.word 1) = true → fieldsOk (cfgFlds .galclass 8) (p.word 2) = true →
      s1.dev.get GAL_PC_STATUS.OCCUPANCY pc = 0 →
      d = ((s1.dev.edit (imageEdits (cfgFlds .galclass 0) pc (p.word 1) ++
        imageEdits (cfgFlds .galclass 8) pc (p.word 2))).derivePort p.target).galleyTotals → s1.admits kGalClassCfg d →
      exec (.galClassCfg p) s = .next (s1.answered d t [])) ∧
    (∀ d, s.Passes kGalMap p s1 t → s1.dev.isLanePort p.target = true →
      d = ((s1.dev.edit (imageEdits (cfgFlds .galport 8) p.target (p.word 0) ++
        imageEdits (cfgFlds .galport 0x10) p.target (p.word 1))).fcRemap p.target).derivePort p.target → s1.admits kGalMap d →
      exec (.galMap p) s = .next (s1.answered d t [])) ∧
    (∀ h, s.Passes kGalHeadroom p s1 t → s1.dev.isLanePort p.target = true → p.word 0 = 0 → h = s1.dev.headroom p.target →
      exec (.galHeadroom p) s = .next (s1.answered s1.dev t
        [h % 2 ^ 32, ceilDiv (h + 1024 * s1.dev.get GAL_PC_CFG.XON_GAP_KIB (p.target * 16)) extBytes])) ∧
    (s.Passes kGalStatusGet p s1 t → p.clear = false → exec (.galStatusGet p) s = .next (s1.answered s1.dev t
      ([s1.dev.viewWord s1.ctl (flds .glob 0x2000008) 0, s1.dev.viewWord s1.ctl (flds .glob 0x2000018) 0] ++
        (List.range 64).map fun i => s1.dev.viewWord s1.ctl (flds .galch 0) i))) ∧
    (s.Passes kGalScrubCfg p s1 t → fieldsOk (cfgFlds .glob 0x2000010) (p.word 0) = true →
      fieldsOk [GAL_CTL.CE_THRESH, GAL_CTL.AGE_MAX] (p.word 1) = true →
      exec (.galScrubCfg p) s = .next (s1.answered (s1.dev.edit (imageEdits (cfgFlds .glob 0x2000010) 0 (p.word 0) ++
        imageEdits [GAL_CTL.CE_THRESH, GAL_CTL.AGE_MAX] 0 (p.word 1))) t [])) ∧
    (s.Passes kGalFlush p s1 t → s1.dev.isLanePort p.target = true → p.word 0 < 16 →
      (s1.cx.mode = 6 ∨ s1.dev.laneState p.target ≠ 5) →
      exec (.galFlush p) s = .next (s1.answered (s1.dev.galFlush (p.target * 16 + p.word 0)) t [])) ∧
    (s.Passes kGalFlush p s1 t → s1.dev.isLanePort p.target = true → p.word 0 = 16 →
      (s1.cx.mode = 6 ∨ s1.dev.laneState p.target ≠ 5) →
      exec (.galFlush p) s = .next (s1.answered (s1.dev.each (classesOf p.target) Dev.galFlush) t [])) ∧
    (s.Passes kGalCountersGet p s1 t → s1.dev.isLanePort p.target = true → p.clear = false →
      ∃ body, exec (.galCountersGet p) s = .next (s1.answered s1.dev t body) ∧
        body.take (offsIn .galport 0x20 0xF8).length =
          (offsIn .galport 0x20 0xF8).map fun o => s1.dev.viewWord s1.ctl (flds .galport o) p.target)

/-- R170 to R182: cox and partner commands. Choices of the model in it: log entries 44 and 48. -/
def Obligations.CoxCommandsRun : Prop :=
  ∀ s p s1 t,
    (∀ n d, s.Passes kCoxPortShape p s1 t → s1.dev.isPort p.target = true → fieldsOk (cfgFlds .coxport 0) (p.word 0) = true →
      n = s1.dev.edit (imageEdits (cfgFlds .coxport 0) p.target (p.word 0)) →
      d = ((n.bucketClip (bkPort p.target) (n.get COX_PORT_SHAPER.BURST p.target)).coxDerive p.target).coxRefresh p.target →
      s1.admits kCoxPortShape d →
      exec (.coxPortShape p) s = .next (s1.answered d t [])) ∧
    (∀ pc n d, s.Passes kCoxClassCfg p s1 t → s1.dev.isPort p.target = true → p.word 0 < 16 → pc = p.target * 16 + p.word 0 →
      fieldsOk (cfgFlds .coxclass 0) (p.word 1) = true → fieldsOk (cfgFlds .coxclass 8) (p.word 2) = true →
      n = s1.dev.edit (coxClassEdits pc p) →
      d = (n.bucketClip (bkClass pc) (n.get COX_CLASS_SHAPER.BURST pc)).derivePort p.target → s1.admits kCoxClassCfg d →
      exec (.coxClassCfg p) s = .next (s1.answered d t [])) ∧
    (∀ d, s.Passes kPtnSet p s1 t → p.target < 16384 → fieldsOk (cfgFlds .ptn 0) (p.word 0) = true →
      fieldsOk (cfgFlds .ptn 8) (p.word 1) = true → fieldsOk (cfgFlds .ptn 0x10) (p.word 2) = true →
      (PTN_CFG.ENABLE.of (p.word 0) = 1 → s1.dev.isLanePort (PTN_CFG.PORT.of (p.word 0)) = true ∧
        (s1.dev.edit (ptnEdits p)).ptnDup (PTN_CFG.PORT.of (p.word 0)) = false ∧
        (s1.dev.edit (ptnEdits p)).ptnFull (PTN_CFG.PORT.of (p.word 0)) = false) → s1.dev.ptnDepth p.target = 0 →
      d = (s1.dev.edit (ptnEdits p)).ptnAfter p.target (s1.dev.ptnKey p.target) (s1.dev.get PTN_CFG.POLICE_EN p.target) →
      s1.admits kPtnSet d → exec (.ptnSet p) s = .next (s1.answered d t [])) ∧
    (∀ x y d, s.Passes kPtnPolice p s1 t → p.target < 16384 → fieldsOk (cfgFlds .ptn 0x18) (p.word 1) = true →
      fieldsOk (cfgFlds .ptn 0x20) (p.word 2) = true → fieldsOk [PTN_GUAR.TEST_B] (p.word 3) = true →
      PTN_POL_RATE.CIR_KBPS.of (p.word 1) ≤ PTN_POL_RATE.PIR_KBPS.of (p.word 1) →
      x = s1.dev.edit (imageEdits [PTN_CFG.POLICE_EN, PTN_CFG.COLOUR_AWARE] p.target (p.word 0) ++
        imageEdits (cfgFlds .ptn 0x18) p.target (p.word 1) ++ imageEdits (cfgFlds .ptn 0x20) p.target (p.word 2) ++
        imageEdits [PTN_GUAR.TEST_B] p.target (p.word 3)) →
      y = ((x.bucketClip (bkTc p.target) (x.get PTN_POL_BURST.CBS p.target)).bucketClip (bkTp p.target)
        (x.get PTN_POL_BURST.PBS p.target)).policerFill p.target (s1.dev.get PTN_CFG.POLICE_EN p.target) →
      d = (if y.isPort (y.get PTN_CFG.PORT p.target) then y.coxDerive (y.get PTN_CFG.PORT p.target) else y) →
      s1.admits kPtnPolice d → exec (.ptnPolice p) s = .next (s1.answered d t [])) ∧
    (s.Passes kCoxTelem p s1 t → fieldsOk (cfgFlds .glob 0x2200000) (p.word 0) = true →
      (COX_TELEM_CFG.EN.of (p.word 0) = 1 → s1.dev.get HPE_FN_CFG.ENABLE (COX_TELEM_CFG.FUNC.of (p.word 0)) = 1) →
      exec (.coxTelem p) s = .next (s1.answered (s1.dev.edit (imageEdits (cfgFlds .glob 0x2200000) 0 (p.word 0))) t [])) ∧
    (s.Passes kCoxCountersGet p s1 t → p.word 0 = 0 → s1.dev.isPort (p.target / 16) = true → p.clear = false →
      exec (.coxCountersGet p) s = .next (s1.answered s1.dev t
        (((List.range 8).map fun k => s1.dev.get (COX_C_CNT.COUNT k) p.target) ++ [s1.dev.word s1.ctl .coxclass 0x18 p.target]))) ∧
    (s.Passes kCoxCountersGet p s1 t → p.word 0 = 1 → p.target < 16384 → p.clear = false →
      exec (.coxCountersGet p) s = .next (s1.answered s1.dev t
        (((List.range 8).map fun k => s1.dev.get (COX_P_CNT.COUNT k) p.target) ++ [s1.dev.word s1.ctl .ptn 0x28 p.target]))) ∧
    (s.Passes kCoxGuarQuery p s1 t → s1.dev.isPort p.target = true →
      exec (.coxGuarQuery p) s = .next (s1.answered s1.dev t (s1.dev.word s1.ctl .coxport 0x18 p.target ::
        (classesOf p.target).map fun pc =>
          if s1.dev.fair pc then (s1.dev.fairShare pc).num / (s1.dev.fairShare pc).den % 2 ^ 32 else 0)))

/-- R189 to R208, R214, R217: time and gate commands. TIM_STEP, TIM_FREQ and TIM_SLEW write their run-time registers; the
gate commands change configuration that is admitted; a list is loaded into the staging slot, committed, or stopped. Choices
of the model in it: log entries 44 and 45. -/
def Obligations.TimeAndGateCommandsRun : Prop :=
  ∀ s p s1 t,
    (s.Passes kTimStep p s1 t → TIM_STEP_NS.NANOSECONDS.of (p.word 1) ≤ 999999999 → ∃ d,
      exec (.timStep p) s = .next (s1.answered d t []) ∧ d.get TIM_STEP_CTL.BUSY 0 = 1 ∧
      d.tim.step = some (TIM_STEP_SEC.SECONDS.of (p.word 0), TIM_STEP_NS.NANOSECONDS.of (p.word 1),
        TIM_STEP_NS.FRAC_NS.of (p.word 1), TIM_STEP_CTL.MODE.of (p.word 2) == 1, TIM_STEP_CTL.NEG.of (p.word 2) == 1)) ∧
    (∀ v, s.Passes kTimFreq p s1 t → v = TIM_FREQ_ADJ.FREQ_ADJ.of (p.word 0) → clipFreq v = v →
      exec (.timFreq p) s = .next (s1.answered (s1.dev.put TIM_FREQ_ADJ.FREQ_ADJ 0 v) t [])) ∧
    (∀ r, s.Passes kTimSlew p s1 t → r = TIM_SLEW.RATE_PPM.of (p.word 0) → 1 ≤ r → r ≤ 500 → ∃ d,
      exec (.timSlew p) s = .next (s1.answered d t []) ∧ d.get TIM_SLEW.RATE_PPM 0 = r ∧
      d.tim.slew = signedOf (TIM_SLEW.OFFSET.of (p.word 0)) 48 * 2 ^ 34) ∧
    (s.Passes kTimGet p s1 t → p.clear = false → ∃ rest, exec (.timGet p) s = .next (s1.answered s1.dev t
      (s1.dev.now.sec % 2 ^ 48 :: (s1.dev.now.ns % 2 ^ 32 + s1.dev.now.frac % 2 ^ 16 * 2 ^ 32) :: rest)) ∧ rest.length = 2) ∧
    (s.Passes kTimLaneLat p s1 t → p.target < 1024 → exec (.timLaneLat p) s = .next (s1.answered (s1.dev.edit
      (imageEdits [TIM_LANE_LAT.RX_USER_PS, TIM_LANE_LAT.TX_USER_PS] p.target (p.word 0))) t [])) ∧
    (s.Passes kTimPortCfg p s1 t → s1.dev.isPort p.target = true → (TIM_PORT_CFG.STAMP_EN.of (p.word 0) = 1 →
      s1.dev.get HPE_FN_CFG.ENABLE (TIM_PORT_CFG.STAMP_FUNC.of (p.word 0)) = 1) →
      exec (.timPortCfg p) s = .next (s1.answered (s1.dev.edit (imageEdits (cfgFlds .timport 0) p.target (p.word 0))) t [])) ∧
    (∀ pc n d, s.Passes kGateClassCfg p s1 t → s1.dev.isLanePort p.target = true → p.word 0 < 16 → pc = p.target * 16 + p.word 0 →
      fieldsOk (cfgFlds .gateclass 0) (p.word 1) = true →
      (GATE_CLASS_CFG.SCHED.of (p.word 1) = 1 → s1.dev.get GATE_CLASS_CFG.SCHED pc = 1 ∨
        s1.dev.get GATE_PORT_STATUS.STATE p.target ≠ gsNone ∨ s1.dev.get GATE_PORT_STATUS.PENDING p.target = 1) →
      n = s1.dev.edit (imageEdits (cfgFlds .gateclass 0) pc (p.word 1)) →
      d = (if n.get GATE_CLASS_CFG.SCHED pc = 1 ∧ s1.dev.get GATE_CLASS_CFG.SCHED pc ≠ 1 then n.put X.GATE_FRESH p.target 0
        else n).derivePort p.target → s1.admits kGateClassCfg d →
      exec (.gateClassCfg p) s = .next (s1.answered d t [])) ∧
    (∀ d, s.Passes kGatePortCfg p s1 t → s1.dev.isLanePort p.target = true →
      d = (s1.dev.edit (imageEdits (cfgFlds .gateport 0) p.target (p.word 0))).derivePort p.target → s1.admits kGatePortCfg d →
      exec (.gatePortCfg p) s = .next (s1.answered d t [])) ∧
    (∀ n, s.Passes kGateListLoad p s1 t → s1.dev.isLanePort p.target = true → p.word 0 = n * 2 ^ 16 → 1 ≤ n → n ≤ 1024 →
      p.words.length ≤ n + 1 → (∀ e ∈ p.words.drop 1, 10 ≤ bitsOf e 32 32) →
      (s1.dev.stagingPends p.target = true → s1.dev.imminent p.target = none) →
      s1.dev.storeUsed - s1.dev.get (slotCount (s1.dev.staging p.target)) p.target + n ≤ 131072 →
      exec (.gateListLoad p) s =
        .next (s1.answered ((s1.dev.listLoad p.target 0 n (p.words.drop 1)).coxRefresh p.target) t [])) ∧
    (∀ off, s.Passes kGateListLoad p s1 t → s1.dev.isLanePort p.target = true → p.word 0 = off → 1 ≤ off → off ≤ 1023 →
      off + (p.words.drop 1).length ≤ s1.dev.get (slotCount (s1.dev.staging p.target)) p.target →
      (∀ e ∈ p.words.drop 1, 10 ≤ bitsOf e 32 32) → s1.dev.stagingPends p.target = false →
      exec (.gateListLoad p) s =
        .next (s1.answered ((s1.dev.listLoad p.target off 0 (p.words.drop 1)).coxRefresh p.target) t [])) ∧
    (∀ cycle ns d, s.Passes kGateListCommit p s1 t → s1.dev.isLanePort p.target = true → cycle = p.word 0 % 2 ^ 32 →
      ns = p.word 0 / 2 ^ 32 → 1000 ≤ cycle → cycle ≤ 4000000000 → ns ≤ 999999999 →
      ((s1.dev.heat p.target (s1.dev.staging p.target)).entries.map (·.2)).foldl (· + ·) 0 = cycle →
      s1.dev.imminent p.target = none → d = (s1.dev.listCommit p.target cycle (p.word 1) ns).derivePort p.target →
      s1.admits kGateListCommit d →
      exec (.gateListCommit p) s = .next (s1.answered d t (d.commitReport p.target))) ∧
    (∀ d, s.Passes kGateStop p s1 t → s1.dev.isLanePort p.target = true → s1.dev.get GATE_PORT_STATUS.STATE p.target = gsRun →
      s1.dev.imminent p.target = none → d = (s1.dev.gateStop p.target).derivePort p.target → s1.admits kGateStop d →
      exec (.gateStop p) s = .next (s1.answered d t [])) ∧
    (s.Passes kGateCountersGet p s1 t → s1.dev.isLanePort p.target = true → p.clear = false → ∃ rest,
      exec (.gateCountersGet p) s = .next (s1.answered s1.dev t
        (([0x10, 0x18, 0x20].map fun o => s1.dev.viewWord s1.ctl (flds .timport o) p.target) ++
          ([0x58, 0x60, 0x68, 0x70].map fun o => s1.dev.viewWord s1.ctl (flds .gateport o) p.target) ++ rest)) ∧
      rest.length = 34) ∧
    (s.Passes kGateCountersGet p s1 t → 1024 ≤ p.target → p.target < 1032 → p.clear = false →
      exec (.gateCountersGet p) s = .next (s1.answered s1.dev t
        (([0x10, 0x18, 0x20].map fun o => s1.dev.viewWord s1.ctl (flds .timport o) p.target) ++ List.replicate 21 0 ++
          [s1.dev.viewWord s1.ctl (flds .timport 8) p.target] ++ List.replicate 16 0))) ∧
    (s.Passes kTimEnable p s1 t → TIM_CTL.EN.of (p.word 0) = 1 →
      exec (.timEnable p) s = .next (s1.answered (s1.dev.edit [(TIM_CTL.EN, 0, 1)]) t [])) ∧
    (s.Passes kTimEnable p s1 t → TIM_CTL.EN.of (p.word 0) = 0 → (∀ q, s1.dev.listLive q = false) →
      exec (.timEnable p) s = .next (s1.answered (s1.dev.edit [(TIM_CTL.EN, 0, 0)]) t []))

/-- R226, R231, R235, R238 to R240: proof commands. -/
def Obligations.ProofCommandsRun : Prop :=
  ∀ s p s1 t,
    (s.Passes kPrfProfileSet p s1 t → p.target < 64 →
      (∀ i, i < 5 → fieldsOk (cfgFlds .prof (8 * i)) (p.word i) = true) → (s1.dev.edit (profEdits p)).spanOk p.target = true →
      s1.dev.profInUse p.target = false → exec (.prfProfileSet p) s = .next (s1.answered (s1.dev.edit (profEdits p)) t [])) ∧
    (∀ d, s.Passes kPrfStreamSet p s1 t → p.target < 16384 →
      d = s1.dev.edit (imageEdits (cfgFlds .stream 0) p.target (p.word 0)) → d.recMixed = false →
      (PRF_RX_STREAM.ENABLE.of (p.word 0) = 1 → s1.dev.get PRF_PROF_CFG.ENABLE (PRF_RX_STREAM.PROFILE.of (p.word 0)) = 1) →
      exec (.prfStreamSet p) s = .next (s1.answered d t [])) ∧
    (s.Passes kPrfRecReset p s1 t → p.target < 16384 →
      exec (.prfRecReset p) s = .next (s1.answered (s1.dev.recReset p.target) t [])) ∧
    (s.Passes kPrfRecReset p s1 t → p.target = 16384 → exec (.prfRecReset p) s = .next (s1.answered
      (s1.dev.each (s1.dev.keys PRF_REC_STATUS.FRESH) Dev.recReset) t [])) ∧
    (s.Passes kPrfTxAliveSet p s1 t → s1.dev.isPort p.target = true → p.word 0 < 64 → ∃ d,
      exec (.prfTxAliveSet p) s = .next (s1.answered d t []) ∧
      d = s1.dev.put PRF_TX_ALIVE.ALIVE (p.target * 64 + p.word 0) (PRF_TX_ALIVE.ALIVE.of (p.word 1))) ∧
    (s.Passes kPrfStatusGet p s1 t → p.target < 16384 → p.clear = false →
      exec (.prfStatusGet p) s = .next (s1.answered s1.dev t
        (((offsIn .record 0 0x38).map fun o => s1.dev.viewWord s1.ctl (flds .record o) p.target) ++
          [s1.dev.viewWord s1.ctl (flds .glob 0x2600000) 0, s1.dev.viewWord s1.ctl (flds .glob 0x2600008) 0])))

/-- R243 to R246, R275 to R277, R370: host engine commands. Choices of the model in it: log entry 46. -/
def Obligations.HostCommandsRun : Prop :=
  ∀ s p s1 t,
    (s.Passes kHpeFnCfg p s1 t → p.target < 64 → HPE_FN_CFG.ENABLE.of (p.word 0) = 1 → s1.dev.pdOn 33 = true →
      exec (.hpeFnCfg p) s = .next (s1.answered (s1.dev.edit (imageEdits (cfgFlds .fn 0x200) p.target (p.word 0))) t [])) ∧
    (s.Passes kHpeFnCfg p s1 t → p.target < 64 → HPE_FN_CFG.ENABLE.of (p.word 0) = 1 → s1.dev.pdOn 33 = false →
      exec (.hpeFnCfg p) s = .next (s1.waiting (s1.dev.powerUp 33) t (.domain33 p.target (p.word 0)))) ∧
    (s.Passes kHpeFnCfg p s1 t → p.target < 64 → HPE_FN_CFG.ENABLE.of (p.word 0) = 0 →
      (∀ r ∈ s1.dev.fnRings p.target, s1.dev.ringState r = 0) →
      exec (.hpeFnCfg p) s = .next (s1.answered (s1.dev.edit (imageEdits (cfgFlds .fn 0x200) p.target (p.word 0))) t [])) ∧
    (∀ kind f r, s.Passes kHpeQueueAssign p s1 t → p.word 0 = kind + f * 2 ^ 16 → kind < 2 → p.target < 4096 → f < 64 →
      r = ringOf kind p.target 0 → s1.dev.ringState r = 0 → s1.dev.get HPE_FN_CFG.ENABLE f = 1 →
      exec (.hpeQueueAssign p) s = .next (s1.answered (s1.dev.edit [(RING_CFG.FUNC, r, f), (RING_CFG.ASSIGNED, r, 1)]) t [])) ∧
    (∀ kind r, s.Passes kHpeQueueAssign p s1 t → p.word 0 = kind + 0xFFFF0000 → kind < 2 → p.target < 4096 →
      r = ringOf kind p.target 0 → s1.dev.ringState r = 0 →
      exec (.hpeQueueAssign p) s = .next (s1.answered (s1.dev.edit [(RING_CFG.FUNC, r, 0), (RING_CFG.ASSIGNED, r, 0)]) t [])) ∧
    (∀ r, s.Passes kHpeQueueCfg p s1 t → kindOk (p.word 0) p.target = true → r = ringOf (p.word 0) p.target p.target →
      fieldsOk (ringCfg (p.word 0)) (p.word 3) = true → (p.word 0 = 1 → fieldsOk [RING_RX_HOLD.HOLD_KIB] (p.word 4) = true) →
      s1.dev.ringState r = 0 →
      exec (.hpeQueueCfg p) s = .next (s1.answered (s1.dev.edit (ringEdits (p.word 0) r p)) t [])) ∧
    (∀ r f, s.Passes kHpeQueueStart p s1 t → kindOk (p.word 0) p.target = true → r = ringOf (p.word 0) p.target p.target →
      s1.dev.ringState r = 0 → s1.dev.ringOwner r = some f → s1.dev.get HPE_FN_CFG.ENABLE f = 1 →
      (p.word 0 = 2 → s1.dev.ringRuns (ringReply f) = true) →
      exec (.hpeQueueStart p) s = .next (s1.answered (s1.dev.ringStart r (p.word 1)) t [])) ∧
    (s.Passes kHpeFnReset p s1 t → p.target < 64 →
      exec (.hpeFnReset p) s = .next (s1.waiting (s1.dev.fnResetAsk p.target) t (.fnReset p.target))) ∧
    (s.Passes kHpeStatusGet p s1 t → p.word 0 = 7 → p.target < 64 → p.clear = false →
      exec (.hpeStatusGet p) s = .next (s1.answered s1.dev t
        ([0x200, 0x208, 0x240, 0x248, 0x250].map fun o => s1.dev.viewWord s1.ctl (flds .fn o) p.target))) ∧
    (s.Passes kHpeStatusGet p s1 t → kindOk (p.word 0) p.target = true → p.clear = false →
      exec (.hpeStatusGet p) s = .next (s1.answered s1.dev t ((offsIn .ring 0 0x78).map fun o =>
        s1.dev.viewWord s1.ctl (flds .ring o) (ringOf (p.word 0) p.target p.target))))

/-- R282, R284, R287, R294, R296: event controller commands. Choices of the model in it: log entry 47. -/
def Obligations.EventCommandsRun : Prop :=
  ∀ s p s1 t,
    (∀ vec en l, s.Passes kEvcSrcCfg p s1 t → 1 ≤ p.word 0 → p.word 0 ≤ 4096 → p.target + p.word 0 ≤ 65536 →
      vec = EVC_SRC_CFG.VECTOR.of (p.word 1) → en = EVC_SRC_CFG.ENABLE.of (p.word 1) →
      l = (List.range (p.word 0)).map (p.target + ·) → (∀ x ∈ l, (srcKind x).isSome = true ∧ s1.dev.srcBusy x vec en = false) →
      exec (.evcSrcCfg p) s = .next (s1.answered (l.foldl (fun d x => d.srcCfg x vec en) s1.dev) t [])) ∧
    (s.Passes kEvcVecCfg p s1 t → p.target < 1024 → fieldsOk (cfgFlds .vec 0) (p.word 0) = true →
      exec (.evcVecCfg p) s =
        .next (s1.answered (s1.dev.edit (imageEdits (cfgFlds .vec 0) p.target (p.word 0))).runsEnd t [])) ∧
    (∀ d, s.Passes kEvcTgtCfg p s1 t → p.target < 256 → p.word 1 % 4 = 0 →
      d = s1.dev.edit (imageEdits (cfgFlds .tgt 0) p.target (p.word 0) ++ imageEdits (cfgFlds .tgt 8) p.target (p.word 1)) →
      exec (.evcTgtCfg p) s = .next (s1.answered
        (if s1.dev.get EVC_TGT_CFG.ENABLE p.target = 1 ∧ EVC_TGT_CFG.ENABLE.of (p.word 0) = 0 then d.targetOff p.target
          else d.runsEnd)
        t [])) ∧
    (s.Passes kEvcTsetSet p s1 t → p.target < 64 → exec (.evcTsetSet p) s = .next (s1.answered
      (s1.dev.edit [(EVC_TSET.MASK 0, p.target, p.word 0), (EVC_TSET.MASK 1, p.target, p.word 1),
        (EVC_TSET.MASK 2, p.target, p.word 2), (EVC_TSET.MASK 3, p.target, p.word 3)]).runsEnd t [])) ∧
    (s.Passes kEvcSbCfg p s1 t → fieldsOk (cfgFlds .glob 0x3001000) (p.word 0) = true →
      exec (.evcSbCfg p) s = .next (s1.answered (s1.dev.edit (imageEdits (cfgFlds .glob 0x3001000) 0 (p.word 0))) t [])) ∧
    (s.Passes kEvcStatusGet p s1 t → p.word 0 = 0 → p.target < 1024 → p.clear = false →
      exec (.evcStatusGet p) s = .next (s1.answered s1.dev t ((offsIn .vec 0 0x38).map fun o =>
        s1.dev.viewWord s1.ctl (flds .vec o) p.target))) ∧
    (s.Passes kEvcStatusGet p s1 t → p.word 0 = 1 → p.target < 256 → p.clear = false →
      exec (.evcStatusGet p) s = .next (s1.answered s1.dev t
        (([0, 8, 0x18, 0x28, 0x30].map fun o => s1.dev.viewWord s1.ctl (flds .tgt o) p.target) ++
          [s1.dev.viewWord s1.ctl (flds .tgt 0x38) p.target % 2 ^ 32 +
            s1.dev.viewWord s1.ctl (flds .tgt 0x3C) p.target % 2 ^ 32 * 2 ^ 32])))

/-- R307, R308, R339 to R341, R347, R351, R355 to R357: fault desk and lock-up commands, FENCE and BARRIER. -/
def Obligations.FaultAndLockupCommandsRun : Prop :=
  ∀ s p s1 t,
    (s.Passes kFltStatusGet p s1 t → p.clear = false → exec (.fltStatusGet p) s = .next (s1.answered s1.dev t
      ([0x3400000, 0x3400008, 0x3400010, 0x3400018, 0x3400020, 0x3400028, 0x3400030, 0x3400038, 0x3400100, 0x3400108, 0x3400110,
        0x3400118].map fun o => s1.dev.viewWord s1.ctl (flds .glob o) 0))) ∧
    (s.Passes kFltAck p s1 t → ∃ d, exec (.fltAck p) s = .next (s1.answered d t []) ∧
      (s1.dev.get FLT_REC_STATUS.VALID 0 = 1 → d.get FLT_REC_STATUS.ACKED 0 = 1) ∧
      (s1.dev.get FLT_STATUS.HELD 0 = 1 → d.get FLT_STATUS.HELD 0 = 0 ∧ d.desk.exits = [] ∧
        d.get FLT_STATUS.QUIET_LEFT_MS 0 = s1.dev.get FLT_SAFE_CFG.QUIET_MS 0 % 2 ^ FLT_STATUS.QUIET_LEFT_MS.w)) ∧
    (s.Passes kFltReactionSet p s1 t → p.target ∈ faultClasses → p.target ≠ 0 → reactOk p.target (p.word 0) = true →
      exec (.fltReactionSet p) s = .next (s1.answered (s1.dev.edit (imageEdits (cfgFlds .react 0) p.target (p.word 0))) t [])) ∧
    (s.Passes kFltSafeCfg p s1 t → fieldsOk (cfgFlds .glob 0x3400030) (p.word 0) = true →
      exec (.fltSafeCfg p) s = .next (s1.answered (s1.dev.edit (imageEdits (cfgFlds .glob 0x3400030) 0 (p.word 0))) t [])) ∧
    (∀ cls, s.Passes kFltInject p s1 t → faultClass p.target = some cls →
      (portClass cls = true → s1.dev.isLanePort (faultUnit p.target) = true) →
      exec (.fltInject p) s = .next (s1.answered (s1.dev.faults [⟨p.target, p.word 0, 0, true⟩]) t [])) ∧
    (s.Passes kLckCfg p s1 t →
      exec (.lckCfg p) s = .next (s1.answered (s1.dev.edit (imageEdits (cfgFlds .glob 0x3600000) 0 (p.word 0))) t [])) ∧
    (s.Passes kLckTrigger p s1 t → s1.dev.get LCK_CFG.CMD_EN 0 = 1 → ∃ d,
      exec (.lckTrigger p) s = .next (s1.answered d t []) ∧ 2 ∈ d.desk.trigs) ∧
    (∀ off len, s.Passes kLckImpressionRead p s1 t → off = bitsOf (p.word 0) 0 18 → len = bitsOf (p.word 0) 32 14 →
      off % 8 = 0 → len % 8 = 0 → 8 ≤ len → len ≤ 8192 → off + len ≤ 262144 → s1.dev.get LCK_STATUS.VALID 0 = 1 →
      exec (.lckImpressionRead p) s = .next (s1.answered s1.dev t (bytesWords s1.mem.impression off len 0))) ∧
    (s.Passes kLckImpressionClear p s1 t → ∃ d, exec (.lckImpressionClear p) s = .next (s1.answered d t []) ∧
      d = s1.dev.put LCK_STATUS.VALID 0 0) ∧
    (s.Passes kFence p s1 t → exec (.fence p) s = .next (s1.answered
      (if p.issuer < 64 then s1.dev.emit (.fence p.issuer) else s1.dev) t [])) ∧
    (s.Passes kBarrier p s1 t → s1.dev.cmp.waits = [] → ∃ s2, exec (.barrier p) s = .next s2 ∧ s2.dev.cmp.barrier = none ∧
      s2 = ({ s1 with dev := { s1.dev with cmp := { s1.dev.cmp with barrier := none } } } : State).replyOne t 0 0 []) ∧
    (s.Passes kBarrier p s1 t → s1.dev.cmp.waits ≠ [] → exec (.barrier p) s =
      .next { s1 with dev := { s1.dev with cmp := { s1.dev.cmp with barrier := some t } } })

/-- R360, R362, R388, Table 131: the island's supply, chip reset and CHIP_REF. Power-on supplies the island and begins step
2 as the first start-up; the loss of the supply leaves nothing but flash; a chip reset with CHIP_REF present starts up with
cause 1, the impression kept, and ends the undefined time after a loss of CHIP_REF. Choices of the model in it: log entries
15 and 19. -/
def Obligations.SupplyAndClockEventsRun : Prop :=
  ∀ s : State,
    (s.ctl.supply = false → ∃ t, exec .islandPowerOn s = .next t ∧
      t.ctl = ⟨.powered, none, true, true, false, false, false, none, false, none⟩ ∧ t.dev.get CPX_START.STEP 0 = 2 ∧
      t.dev.get CPX_START.STARTS 0 = 1 ∧ t.dev.get CPX_START.CAUSE 0 = 0 ∧ t.dev.get LCK_STATUS.LOCKED 0 = 0 ∧
      t.mem.flash = s.mem.flash ∧ t.mem.impression = []) ∧
    (s.ctl.supply = true → ∃ t, exec .islandSupplyLoss s = .next t ∧ t.ctl.supply = false ∧ t.ctl.state = .powered ∧
      t.dev.f = [] ∧ t.mem.flash = s.mem.flash ∧ t.mem.impression = []) ∧
    (s.ctl.supply = true → s.ctl.chipRef = true → ∃ t, exec .p9ChipReset s = .next t ∧
      t.ctl = ⟨.powered, none, true, true, false, false, s.ctl.d34, none, false, none⟩ ∧ t.dev.get CPX_START.STEP 0 = 2 ∧
      t.dev.get CPX_START.CAUSE 0 = 1 ∧ t.dev.get CPX_START.BOOT_TRIES 0 = 0 ∧ t.dev.get CPX_START.BOOT_FAIL 0 = 0 ∧
      t.dev.get LCK_STATUS.LOCKED 0 = 0 ∧ t.dev.get LCK_STATUS.CAPTURING 0 = 0 ∧
      t.dev.get CPX_START.STARTS 0 = min (s.dev.get CPX_START.STARTS 0 + 1) 0xFFFFFFFF ∧
      t.dev.get LCK_STATUS.VALID 0 = s.dev.get LCK_STATUS.VALID 0 ∧ t.mem.impression = s.mem.impression ∧
      t.mem.flash = s.mem.flash ∧ t.mem.mboxCmd = [] ∧ t.mem.mboxReply = []) ∧
    (s.ctl.supply = true → exec .chipRefLoss s = .next { s with ctl := { s.ctl with chipRef := false, refLost := true } }) ∧
    (s.ctl.supply = true → s.ctl.refLost = true → exec .chipRefReturn s = .next { s with ctl := { s.ctl with chipRef := true } })

/-- R388: with CHIP_REF lost, until a chip reset after its return, every command but those of the island's supply, of
CHIP_REF itself and the chip reset stops with the one fault; a chip reset with the clock still absent stops too. Choices of
the model in it: log entry 5. -/
def Obligations.ChipRefAbsentStops : Prop :=
  ∀ (i : Instr) (s : State), s.ctl.refLost = true →
    (i ≠ .islandPowerOn → i ≠ .islandSupplyLoss → i ≠ .p9ChipReset → i ≠ .chipRefLoss → i ≠ .chipRefReturn →
      exec i s = .fault .chipRefAbsent) ∧
    (i = .p9ChipReset → s.ctl.supply = true → s.ctl.chipRef = false → exec i s = .fault .chipRefAbsent)

/-- Table 131, R27, R310, R340, R348, R362, R365, R366: the steps of a start-up, its failures, and the complex reset a
CPX_RESET asked for, which keeps every field of the island but those of CPX_START that tell of the start-up itself. Choices
of the model in it: log entries 17, 18, 20 and 24. -/
def Obligations.StartUpEventsRun : Prop :=
  ∀ s : State,
    (s.awake = true → s.ctl.state = .powered → s.dev.get CPX_START.STEP 0 = 2 → exec (.domainOn 34) s =
      .next { s with ctl := { s.ctl with d34 := true }, dev := s.dev.put CPX_START.STEP 0 3 }) ∧
    (s.awake = true → s.ctl.state = .powered → s.ctl.d34 = true → s.ctl.pll = false → s.dev.get CPX_START.STEP 0 = 3 →
      exec .pllLock s = .next { s with ctl := { s.ctl with pll := true }, dev := s.dev.put CPX_START.STEP 0 4 }) ∧
    (s.awake = true → s.ctl.pll = true → s.ctl.state ≠ .locked → exec .pllUnlock s =
      .next { s with ctl := { s.ctl with pll := false }, dev := s.dev.fault 0 0 sevFatal 0 }) ∧
    (s.awake = true → s.ctl.state = .powered → s.ctl.pll = true → s.dev.get CPX_START.STEP 0 = 4 → ∃ t,
      exec .compositorBoot s = .next t ∧ t.ctl = { s.ctl with state := .imageLoad } ∧ t.mem = s.mem ∧
      t.dev.get CPX_START.STEP 0 = 5 ∧ t.dev.get CPX_START.BOOT_TRIES 0 = 0) ∧
    (s.awake = true → s.ctl.state = .powered → s.dev.get CPX_START.STEP 0 = 4 → s.dev.get CPX_START.BOOT_TRIES 0 < 2 → ∃ t,
      exec .bootRetry s = .next t ∧ t.ctl.state = .powered ∧ t.ctl.pll = false ∧ t.dev.get CPX_START.STEP 0 = 2 ∧
      t.dev.get CPX_START.CAUSE 0 = 4 ∧ t.dev.get CPX_START.BOOT_TRIES 0 = s.dev.get CPX_START.BOOT_TRIES 0 + 1) ∧
    (s.awake = true → s.ctl.state = .powered → s.dev.get CPX_START.STEP 0 = 4 → 2 ≤ s.dev.get CPX_START.BOOT_TRIES 0 → ∃ t,
      exec .bootRetry s = .next t ∧ t.ctl = { s.ctl with pll := false, d34 := false } ∧
      t.dev.get CPX_START.BOOT_TRIES 0 = 3 ∧ t.dev.get CPX_START.BOOT_FAIL 0 = 1) ∧
    (∀ fa fb, s.clocked = true → s.ctl.state = .imageLoad → s.dev.get CPX_START.STEP 0 = 5 → exec (.imageLoadComplete fa fb) s =
      .next { s with dev := (((s.dev.imageLoad s.cx fa fb).put CPX_START.STEP 0 7).powerUp 32).powerNext }) ∧
    (s.clocked = true → s.dev.get CPX_START.STEP 0 = 7 → s.dev.pdOn 32 = true → s.dev.trainEnded = false →
      exec (.galleyTrainingDone 0) s = .next { s with dev := s.dev.put GAL_STATUS.TRAINED 0 1 }) ∧
    (∀ failed, s.clocked = true → s.dev.get CPX_START.STEP 0 = 7 → s.dev.pdOn 32 = true → s.dev.trainEnded = false →
      bitList failed 64 ≠ [] → exec (.galleyTrainingDone failed) s =
        .next { s with dev := s.dev.lanePorts.foldl Dev.galleyDerive (s.dev.channelsFail (bitList failed 64)) }) ∧
    (s.clocked = true → s.dev.get CPX_START.STEP 0 = 7 → s.dev.get GAL_STATUS.TRAINED 0 = 1 → s.dev.get GAL_STATUS.CLEARED 0 = 0 →
      exec .galleyClearDone s = .next { s with dev := (s.dev.lanePorts.foldl Dev.galleyDerive
        (((s.dev.put GAL_STATUS.CLEARED 0 1).put GAL_CTL.SERVICE 0 1).put GAL_STATUS.IN_SERVICE 0 1)) }) ∧
    (∀ ms, s.clocked = true → s.ctl.state = .imageLoad → s.dev.get CPX_START.STEP 0 = 7 → s.dev.readyDue = true → ∃ t,
      exec (.readyEntry ms) s = .next t ∧ t.ctl = { s.ctl with state := .ready } ∧ t.mem = s.mem ∧ t.pending = s.pending) ∧
    (s.clocked = true → exec .fwHeartbeat s = .next s) ∧
    (s.clocked = true → exec .fwWatchdog s = .next { s with dev := s.dev.fault 1 0 sevFatal 0 }) ∧
    (∀ cause, s.clocked = true → s.dev.cmp.resetDue = some cause → ∃ t, exec .complexReset s = .next t ∧
      t.ctl = { s.ctl with state := .powered, mode := none, pll := false, switching := none, release := false, lockFrom := none } ∧
      t.dev.get CPX_START.STEP 0 = 2 ∧ t.dev.get CPX_START.CAUSE 0 = cause % 8 ∧
      t.mem = { s.mem with mboxCmd := [], mboxReply := [] } ∧ t.dev.cmp.waits = [] ∧ t.dev.resets = [] ∧
      ∀ F ∈ islandFields, F ≠ CPX_START.STEP → F ≠ CPX_START.CAUSE → F ≠ CPX_START.STARTS → ∀ i, t.dev.get F i = s.dev.get F i)

/-- R31 to R36, R48, R49, R340, R369, R372, R373, R275: power domains, reference windows, transmit PLLs and the ends of
resets. Choices of the model in it: log entries 14, 21, 39, 40, 65 and 89. -/
def Obligations.PowerEventsRun : Prop :=
  ∀ s : State,
    (∀ k d e, s.clocked = true → (k = 32 ∨ k = 33) → (s.dev.pd k).st = 1 → s.dev.get CPX_START.STEP 0 ≠ 7 → s.dev.cmp.waits = [] →
      s.dev.get X.CMP_ECO 0 = 0 →
      d = s.dev.setPd k ⟨if (s.dev.pd k).downWait && s.dev.mayPowerDown k then 3 else 2, false, false⟩ →
      e = (if (s.dev.pd k).downWait && !s.dev.mayPowerDown k then
        d.put CPX_PD_CTL.REQ 0 (setBitAt (d.get CPX_PD_CTL.REQ 0) k) else d) →
      exec (.domainOn k) s = .next { s with dev := e }) ∧
    (∀ k, s.clocked = true → k < 32 → (s.dev.pd k).st = 1 → s.dev.bankPorts (k / 2) = [] → s.dev.get CPX_START.STEP 0 ≠ 7 →
      (s.dev.pd k).downWait = false → exec (.domainOn k) s = .next { s with dev := s.dev.setPd k ⟨2, false, false⟩ }) ∧
    (∀ k, s.clocked = true → (s.dev.pd k).st = 3 → (k = 33 → s.dev.get X.CMP_ECO 0 = 0) →
      ∃ d, exec (.domainOff k) s = .next { s with dev := d } ∧ d.pd k = ⟨if (s.dev.pd k).upWait then 1 else 0, false, false⟩ ∧
      (k < 32 → d.eightRuns (k / 2 * 8) = false → ∀ i, i < 8 → d.get LN_EIGHT_STATUS.MIRROR_STALE (k / 2 * 8 + i) = 1)) ∧
    (s.clocked = true → s.dev.pd 33 = ⟨3, false, false⟩ → s.dev.get X.CMP_ECO 0 = 1 → exec (.domainOff 33) s =
      .next (({ s with dev := (((s.dev.setPd 33 ⟨0, false, false⟩).put X.CMP_ECO 0 0).stateEvent 3 Mode.economy.code) } :
        State).replyWaits (· == .ecoOff))) ∧
    (∀ k, s.clocked = true → k < 32 → ((s.dev.pd k).st = 1 ∨ (s.dev.pd k).st = 3) →
      exec (.bankPower k) s = .next { s with dev := s.dev.fault 33 (k / 2) sevSerious (k % 2) }) ∧
    (∀ k, s.clocked = true → s.ctl.serving = true → k < 32 → s.dev.pdOn k = true → s.dev.bankIdle k = true → ∃ d,
      exec (.domainIdleOff k) s = .next { s with dev := d } ∧ d.pd k = ⟨3, false, false⟩ ∧
      (∀ j, j ≠ k → d.pd j = s.dev.pd j) ∧
      (k % 2 = 0 → ∀ i, i < 8 → d.get LN_EIGHT_STATUS.TX_PLL_LOCK (k / 2 * 8 + i) = 0)) ∧
    (∀ e n, s.awake = true → e < 128 → ∃ d, exec (.refWindowEnd e n) s = .next { s with dev := d } ∧
      (s.ctl.live = false → d.get LN_EIGHT_STATUS.REF_OK e = (if 2436 ≤ n ∧ n ≤ 2447 then 1 else 0) ∧
        d.get LN_EIGHT_STATUS.REF_COUNT e = min n 4095 ∧
        (n < 2436 ∨ 2447 < n → d.get LN_EIGHT_STATUS.REF_FAULT e = 1))) ∧
    (∀ e n m d, s.clocked = true → e < 128 → (n < 2436 ∨ 2447 < n) →
      m = s.dev.puts e [(LN_EIGHT_STATUS.REF_OK, 0), (LN_EIGHT_STATUS.REF_COUNT, min n 4095), (X.REF_GOOD, 0)] →
      d = (if n = 0 then m.put LN_EIGHT_STATUS.MIRROR_STALE e 1 else m).seen (srcEight e 8) 0 →
      (s.dev.get LN_EIGHT_STATUS.REF_OK e = 1 → exec (.refWindowEnd e n) s =
        .next { s with dev := ((d.eightOff e).put X.REF_HOLD e 1).fault 48 (e * 8) sevDegraded (min n 4095) }) ∧
      (s.dev.get LN_EIGHT_STATUS.REF_OK e = 0 → exec (.refWindowEnd e n) s = .next { s with dev := d })) ∧
    (∀ e, s.clocked = true → e < 128 → s.dev.pllWanted e = true → s.dev.get LN_EIGHT_STATUS.REF_OK e = 1 →
      (∀ p ∈ s.dev.eightPorts e, (s.dev.port p).pllWait = false ∧ (s.dev.port p).txWake = false) →
      exec (.txPllLocked e) s = .next { s with dev := s.dev.put LN_EIGHT_STATUS.TX_PLL_LOCK e 1 }) ∧
    (∀ e, s.clocked = true → e < 128 → s.dev.get LN_EIGHT_STATUS.TX_PLL_LOCK e = 1 → s.dev.get LN_EIGHT_STATUS.REF_OK e = 0 →
      exec (.txPllUnlock e) s = .next { s with dev := (s.dev.put LN_EIGHT_STATUS.TX_PLL_LOCK e 0).seen (srcEight e 9) 0 }) ∧
    (∀ r, s.clocked = true → r ∈ s.dev.resets → s.dev.scopeSettled r = true → exec (.resetComplete r) s =
      .next (({ s with dev := s.dev.resetDone r } : State).replyWaits fun w => match w with
        | .reset q => r.holds q
        | _ => false)) ∧
    (∀ f, s.clocked = true → f < 64 → s.dev.get HPE_FN_STATUS.RESET_BUSY f = 1 → exec (.functionResetDone f) s =
      .next (({ s with dev := s.dev.fnResetDone f } : State).replyWaits (· == Wait.fnReset f)))

/-- R305, R306, R324, R332, R333, R304: mode switches that start-up or a finished wake carries out, the end of a wait
for flash, and the refusals of packets that never become a command. Choices of the model in it: log entries 24, 34,
36 and 94. -/
def Obligations.CompositorEventsRun : Prop :=
  ∀ s : State, s.clocked = true →
    (∀ c m x, s.dev.cmp.startMode = some c → modeOf c = some m → s.ctl.state = .ready → s.dev.get FLT_STATUS.ENTERING 0 = 0 →
      Dev.modeBuild s.cx ({ s.dev.put CPX_START.STEP 0 0 with
        cmp := { s.dev.cmp with startMode := none } } : Dev) none m = .ok x →
      exec .startModeSwitch s = .next { s with
        ctl := { s.ctl with mode := some m, state := .running, switching := none }
        dev := Dev.modeEnter x m }) ∧
    (∀ c m e, s.dev.cmp.startMode = some c → modeOf c = some m → s.ctl.state = .ready → s.dev.get FLT_STATUS.ENTERING 0 = 0 →
      Dev.modeBuild s.cx ({ s.dev.put CPX_START.STEP 0 0 with
        cmp := { s.dev.cmp with startMode := none } } : Dev) none m =
        .error e → ∃ d, exec .startModeSwitch s = .next { s with dev := d } ∧ d.cmp.startMode = none ∧
        d.get CMP_IMG_LOAD.STATUS 0 = e.1.status % 16 ∧ d.get CMP_IMG_LOAD.DETAIL 0 = e.1.detail % 2 ^ 16) ∧
    (∀ m x, s.ctl.switching = some m → s.dev.easyTx = [] → s.dev.pdOn 33 = true → s.dev.get FLT_STATUS.ENTERING 0 = 0 →
      s.dev.modeBuild s.cx s.ctl.mode m = .ok x → exec .modeSwitchCommit s = .next (({ s with
        ctl := { s.ctl with mode := some m, state := .running, switching := none }
        dev := Dev.modeEnter x m } : State).replyWaits (· == .modeSwitch))) ∧
    (∀ m e, s.ctl.switching = some m → s.dev.easyTx = [] → s.dev.pdOn 33 = true → s.dev.get FLT_STATUS.ENTERING 0 = 0 →
      s.dev.modeBuild s.cx s.ctl.mode m = .error e → exec .modeSwitchCommit s = .next (({ s with
        ctl := { s.ctl with switching := none }
        dev := s.dev.inc CMP_MODE_REFUSED.COUNT 0 } : State).replyWaits (· == .modeSwitch) e.1.status e.1.detail
          fun _ => [e.1.arg0, e.1.arg1])) ∧
    (∀ n w body d, s.dev.cmp.waits.find? (fun x => x.t.issuer == n) = some w → w.why = .flash body →
      d = (if w.t.opcode = 0x0205 then s.dev.sessionEnd else s.dev) → exec (.commandWaitEnd n) s = .next (({ s with
        dev := { d with cmp := { d.cmp with
          waits := d.cmp.waits.filter fun x => x.t.issuer != n } } } : State).reply w.t 0 0 body)) ∧
    (∀ n w p, s.dev.cmp.waits.find? (fun x => x.t.issuer == n) = some w → w.why = .easy p → (s.dev.port p).entering = false →
      exec (.commandWaitEnd n) s = .next (({ s with dev := { s.dev with cmp := { s.dev.cmp with
        waits := s.dev.cmp.waits.filter fun x => x.t.issuer != n } } } : State).replyRef w.t (s.dev.launchRef s.ctl p))) ∧
    (∀ s1, s.turn 64 = some s1 → s1.mboxTakes false = true → s1.dev.ending = false → exec (.kilLen 64) s =
      .next (({ s1 with dev := s1.dev.visited 64 } : State).reply ⟨64, 0, 0, 0, 0, 0, false⟩ stRange 0x0101 [0, 0])) ∧
    (∀ s1 f w d, f < 64 → s.turn f = some s1 → s1.visit f = .desc w → (cmdLen w < 32 ∨ 8192 < cmdLen w) →
      d = (s1.dev.takeCmd f).inc (RING_CNT.COUNT 1) (ringCmd f) → d.ending = false → exec (.kilLen f) s =
        .next (({ s1 with dev := d } : State).reply (s1.dev.ticketOf f w 0 0) stRange 0x0101 [0, 0])) ∧
    (∀ s1 r seq op bytes, s.turn 64 = some s1 → s1.mboxTakes true = true → s1.dev.ending = false →
      packetRefusal listedOpcodes s1.mboxBytes = some (r, seq, op) → exec (.commandPacketRefused 64 bytes) s =
        .next (({ s1 with dev := s1.dev.visited 64 } : State).reply ⟨64, seq, op, 0, 0, 0, false⟩ r.status r.detail
          [r.arg0, r.arg1])) ∧
    (∀ s1 f w r seq op bytes d, f < 64 → s.turn f = some s1 → s1.visit f = .desc w → cmdLen w = bytes.length →
      32 ≤ cmdLen w → cmdLen w ≤ 8192 → packetRefusal listedOpcodes (nats bytes) = some (r, seq, op) →
      d = (s1.dev.askPkt f w).takeCmd f → d.ending = false → exec (.commandPacketRefused f bytes) s =
        .next (({ s1 with dev := d } : State).reply (s1.dev.ticketOf f w seq op) r.status r.detail [r.arg0, r.arg1]))

/-- R46, R51, R59, R60, R71, R75, R89 to R92: events of a lane. Choices of the model in it: log entries 50, 67, 78, 79
and 92. -/
def Obligations.LaneEventsRun : Prop :=
  ∀ (s : State) (n : Nat), s.clocked = true → n < 1024 →
    (∀ d, s.dev.get LN_STATUS.LOS n = 0 → s.dev.get LN_CTL.LOOPBACK n = 0 →
      d = (s.dev.put LN_STATUS.LOS n 1).put LN_STATUS.LOS_SEEN n 1 →
      (s.dev.portOf n = none → exec (.losAssert n) s = .next { s with dev := d }) ∧
      (∀ p, s.dev.portOf n = some p → (s.dev.port p).easyArmed = true → s.dev.laneState p = stActive → s.dev.rxAwake n = true →
        exec (.losAssert n) s = .next { s with dev := d.rxEasy p }) ∧
      (∀ p, s.dev.portOf n = some p → (s.dev.port p).easyArmed = false →
        exec (.losAssert n) s = .next { s with dev := d.signalLost n })) ∧
    (s.dev.get LN_CTL.LOOPBACK n ≠ 0 → exec (.losAssert n) s = .next s ∧ exec (.cdrUnlock n) s = .next s) ∧
    (∀ d, s.dev.laneState n ≠ stOff → s.dev.rxAwake n = true → d = s.dev.put LN_STATUS.LOS n 0 →
      (s.dev.portOf n = none ∨ s.dev.get LN_STATUS.CDR_LOCK n = 0 ∨ s.dev.get LN_STATUS.COMMA_STATE n ≠ 0 →
        exec (.losDeassert n) s = .next { s with dev := d }) ∧
      (∀ p, s.dev.portOf n = some p → (s.dev.port p).codingRx = true → s.dev.get LN_STATUS.CDR_LOCK n = 1 →
        s.dev.get LN_STATUS.COMMA_STATE n = 0 →
        exec (.losDeassert n) s = .next { s with dev := d.put LN_STATUS.COMMA_STATE n 1 })) ∧
    (s.dev.get LN_STATUS.LOS n = 0 →
      (s.dev.portOf n = none → exec (.cdrLock n) s = .next { s with dev := s.dev.put LN_STATUS.CDR_LOCK n 1 }) ∧
      (∀ p, s.dev.portOf n = some p → (s.dev.port p).codingRx = false →
        exec (.cdrLock n) s = .next { s with dev := (s.dev.put LN_STATUS.CDR_LOCK n 1).trainStep p }) ∧
      (∀ p, s.dev.portOf n = some p → (s.dev.port p).codingRx = true → s.dev.get LN_STATUS.COMMA_STATE n = 0 →
        exec (.cdrLock n) s =
          .next { s with dev := ((s.dev.put LN_STATUS.CDR_LOCK n 1).put LN_STATUS.COMMA_STATE n 1).trainStep p })) ∧
    (s.dev.get LN_STATUS.CDR_LOCK n = 1 → s.dev.get LN_CTL.LOOPBACK n = 0 → exec (.cdrUnlock n) s = .next { s with
      dev := ((s.dev.puts n [(LN_STATUS.CDR_LOCK, 0), (LN_STATUS.RX_PPM, 0), (LN_EQ_LIVE.EYE, 0)]).inc
        LN_CDR_UNLOCK.COUNT n).signalLost n }) ∧
    (∀ ppm, s.dev.get LN_STATUS.CDR_LOCK n = 1 → (signedOf ppm 16).natAbs ≤ 2000 →
      exec (.rxPpmUpdate n ppm) s = .next { s with dev := s.dev.put LN_STATUS.RX_PPM n ppm }) ∧
    (∀ ppm, s.dev.get LN_STATUS.CDR_LOCK n = 1 → 2000 < (signedOf ppm 16).natAbs → exec (.rxPpmUpdate n ppm) s = .next { s with
      dev := ((s.dev.put LN_STATUS.RX_PPM n ppm).put LN_STATUS.PPM_RANGE n 1).fault 53 n sevNotice (ppm % 2 ^ 16) }) ∧
    (∀ runs d, attnDecodes runs = true → s.dev.get LN_EASY.ATTN_ARMED n = 1 →
      d = ((s.dev.seen (srcEight (n / 8) 12) (n % 8)).inc LN_EASY.ATTN_COUNT n).put LN_EASY.ATTN_ARMED n 0 →
      (d.portOf n = none → exec (.attentionDeclared n runs) s = .next { s with dev := d }) ∧
      (∀ p, d.portOf n = some p → d.get LN_EASY.RX_EASY p = 1 → d.pdOn (rxDomain p) = true →
        exec (.attentionDeclared n runs) s =
          .next { s with dev := (d.setPort p { d.port p with wakeT := true }).wakeRx p }) ∧
      (∀ p r, d.portOf n = some p → d.get LN_EASY.RX_EASY p = 1 → d.pdOn (rxDomain p) = false →
        r = { d.port p with wakeT := true, rxWakePend := true } → ∃ e, exec (.attentionDeclared n runs) s = .next { s with dev := e } ∧
        e.port p = r ∧ ((d.pd (rxDomain p)).st = 0 → (e.pd (rxDomain p)).st = 1))) ∧
    (∀ p w, s.dev.portOf n = some p → (s.dev.laneState n = stTrain ∨ s.dev.laneState n = stLock ∨ s.dev.laneState n = stRoster) →
      (s.dev.get LN_LAUNCH_STATUS.PARTNER p = 1 → exec (.trainingFrame n (.celori w)) s = .next s) ∧
      (s.dev.get LN_LAUNCH_STATUS.PARTNER p ≠ 1 →
        exec (.trainingFrame n (.celori w)) s = .next { s with dev := (if frameWordOk w then
          ((s.dev.markFrame n true).celoriWord p n w).trainStep p else (s.dev.markFrame n false).trainStep p) })) ∧
    (s.dev.laneState n ≠ stLock → exec (.trainingLockLoss n) s =
      .next { s with dev := s.dev.setLane n { s.dev.lane n with markers := 0, frameLock := false } }) ∧
    (s.dev.laneState n = stLock → exec (.trainingLockLoss n) s = .next { s with
      dev := ((s.dev.setLane n { s.dev.lane n with markers := 0, frameLock := false }).put
        LN_LAUNCH_STATUS.STATE n stTrain).searchStart n }) ∧
    (∀ eye d, d = (if s.dev.get LN_STATUS.CDR_LOCK n = 1 then s.dev.put LN_EQ_LIVE.EYE n (min eye 255) else s.dev) →
      ((s.dev.lane n).search = none → exec (.eyeMeasurement n eye) s = .next { s with dev := d }) ∧
      (∀ x, (s.dev.lane n).search = some x → (searchStep x eye).todo ≠ [] → exec (.eyeMeasurement n eye) s = .next { s with
        dev := d.setLane n { s.dev.lane n with search := some (searchStep x eye) } }) ∧
      (∀ x b e, (s.dev.lane n).search = some x → (searchStep x eye).todo = [] → s.dev.portOf n = none → b = (searchStep x eye).best →
        e = (d.put LN_EQ_LIVE.PEAK n b).setLane n { s.dev.lane n with search := none, searchDone := true, trained := b } →
        exec (.eyeMeasurement n eye) s = .next { s with dev := e })) ∧
    (∀ (up : Bool) (q : Nat), q = (if up then s.dev.get LN_EQ_LIVE.PEAK n + 1 else s.dev.get LN_EQ_LIVE.PEAK n - 1) →
      s.dev.get LN_RX_EQ.TRACK n = 1 → s.dev.laneState n = stActive → s.dev.rxAwake n = true → q ≤ 48 →
      q ≤ (s.dev.lane n).trained + 4 → (s.dev.lane n).trained ≤ q + 4 →
      exec (.peakTrackStep n up) s = .next { s with dev := s.dev.put LN_EQ_LIVE.PEAK n q }) ∧
    (s.dev.get LN_PAT_CTL.TX_PAT n ≠ 0 → exec (.inject n) s = .next { s with
      dev := (s.dev.put LN_PAT_CTL.INJECT n 1).emit (.invertBit n) }) ∧
    (∀ bits, s.ctl.state = .running → s.ctl.mode = some .proof → s.dev.get LN_PAT_CTL.RX_PAT n ≠ 0 →
      s.dev.get LN_CTL.LOOPBACK n = 0 →
      exec (.patternCheckerLock ⟨n, bits⟩) s = .next { s with dev := s.dev.chkFeed n bits } ∧
      ∀ w, exec (.patternCheckerLost n bits w) s = .next { s with dev := s.dev.chkFeed n (bits ++ w) })

/-- Table 27, R65: what a comma position does to a lane whose port's receive coding runs: a valid one in SEARCH makes it
FOUND with the position it expects next; in FOUND and LOCKED a position that is not the expected one changes nothing; in
LOCKED a wrong one counts an error and starts to be tolerated. -/
def Obligations.CommaPositionsRun : Prop :=
  ∀ (s : State) (n p w0 w2 w3 : Nat) (bs : List Nat) (arrival after : Nat), s.clocked = true → n < 1024 → s.dev.portOf n = some p →
    (s.dev.port p).codingRx = true → s.dev.get LN_STATUS.CDR_LOCK n = 1 →
    (s.dev.get LN_STATUS.COMMA_STATE n = 1 → commaValid 1 w0 = true →
      exec (.commaBlock n (.native w0 w2 w3 bs arrival after)) s = .next { s with
        dev := (s.dev.put LN_STATUS.COMMA_STATE n 2).setLane n
          { s.dev.lane n with expIdx := bitsOf w0 37 3, expSeq := (bitsOf w0 24 8 + 1) % 256 } }) ∧
    (s.dev.get LN_STATUS.COMMA_STATE n = 2 → after ≠ 1024 →
      exec (.commaBlock n (.native w0 w2 w3 bs arrival after)) s = .next s) ∧
    (s.dev.get LN_STATUS.COMMA_STATE n = 3 → after = 1024 →
      (commaValid 3 w0 = false ∨ bitsOf w0 37 3 ≠ (s.dev.lane n).expIdx ∨ bitsOf w0 24 8 ≠ (s.dev.lane n).expSeq) →
      exec (.commaBlock n (.native w0 w2 w3 bs arrival after)) s = .next { s with
        dev := ((s.dev.put LN_STATUS.COMMA_STATE n 4).inc LN_COMMA_ERR.COUNT n).setLane n
          { s.dev.lane n with expSeq := ((s.dev.lane n).expSeq + 1) % 256, misses := 1, easySeen := 0 } })

/-- Table 30, R62, R68, R81, R83, R86, R96 to R102: events of a port's launch, of its codewords and of EASY. Choices of
the model in it: log entries 50, 79, 82, 83, 93 and 94. -/
def Obligations.LaunchEventsRun : Prop :=
  ∀ (s : State) (p : Nat), s.clocked = true → s.dev.isLanePort p = true →
    (s.dev.laneState p = stDetect → s.dev.get LN_LAUNCH_STATUS.QUIET p = 1 → s.dev.get LN_LAUNCH_STATUS.PRS_ABSENT p = 1 →
      exec (.quietPeriodEnd p) s = .next { s with dev := s.dev.portPut p LN_LAUNCH_STATUS.QUIET 0 }) ∧
    (∀ x, s.dev.laneState p = stDetect → s.dev.get LN_LAUNCH_STATUS.QUIET p = 1 → s.dev.get LN_LAUNCH_STATUS.PRS_ABSENT p = 0 →
      x = (if s.dev.get LN_LAUNCH_CTL.NEG p = 1 then LaneDrive.training false
        else .pages (s.dev.get (LN_EIGHT_PORTMAP.WIDTH (p % 8)) (p / 8)) true (s.dev.on MAC_PORT_CFG.PAUSE_EN p) true
          (markerPage false)) →
      exec (.quietPeriodEnd p) s = .next { s with dev := (s.dev.portPut p LN_LAUNCH_STATUS.QUIET 0).driveLanes p x }) ∧
    (∀ pages, s.dev.attempting p = true → s.dev.get LN_LAUNCH_CTL.NEG p = 0 → exec (.clause73Complete p pages) s =
      .next { s with dev := (match markerFamily pages with
        | none => s.dev.toTrain p 1
        | some f => (s.dev.driveLanes p (s.dev.detectPages p true)).toTrain p (if f = 7 then 3 else 2)) }) ∧
    (s.dev.attempting p = true → s.dev.get LN_LAUNCH_CTL.DETECT_COUNT p = 1 →
      exec (.detectTimeout p) s = .next { s with dev := s.dev.failure p 1 }) ∧
    (s.dev.attempting p = true → s.dev.get LN_LAUNCH_CTL.DETECT_COUNT p = 0 → exec (.detectTimeout p) s =
      .next { s with dev := (s.dev.forget p).driveLanes p ((s.dev.forget p).detectDrive p) }) ∧
    ((s.dev.port p).trainT = true → (s.dev.laneState p = stTrain ∨ s.dev.laneState p = stLock) →
      exec (.trainTimeout p) s = .next { s with dev := s.dev.failure p 2 }) ∧
    ((s.dev.port p).rosterT = true → s.dev.laneState p = stRoster →
      exec (.rosterTimeout p) s = .next { s with dev := s.dev.failure p 4 }) ∧
    ((s.dev.port p).wakeT = true → (s.dev.laneState p = stActive ∨ s.dev.laneState p = stEasy) →
      exec (.wakeTimeout p) s = .next { s with dev := s.dev.failure p 5 }) ∧
    (s.dev.laneState p = stRoster → (s.dev.port p).gotDone = true → (s.dev.port p).sel ≠ 0 → (s.dev.port p).codingTx = false →
      exec (.codingTxStart p) s = .next { s with dev := s.dev.txStart p }) ∧
    (∀ corr bs, (s.dev.port p).codingRx = true → (s.dev.port p).hiCw < 8192 → s.dev.get PCS_STATUS.HI_SER p = 0 →
      s.dev.get PCS_CTL.FEC_DETECT p = 0 → corr.foldl (· + ·) 0 ≤ 15 → ∃ d,
      exec (.codewordReceived p corr ⟨false, bs⟩) s = .next { s with dev := d } ∧
      d.get PCS_CW.COUNT p = min (s.dev.get PCS_CW.COUNT p + 1) (2 ^ PCS_CW.COUNT.w - 1) ∧
      d.get PCS_CW_UNCORR.COUNT p = s.dev.get PCS_CW_UNCORR.COUNT p ∧
      d.get PCS_CW_CORR.COUNT p = (if corr.foldl (· + ·) 0 = 0 then s.dev.get PCS_CW_CORR.COUNT p else
        min (s.dev.get PCS_CW_CORR.COUNT p + 1) (2 ^ PCS_CW_CORR.COUNT.w - 1))) ∧
    (s.dev.laneState p = stActive → s.dev.get PCS_STATUS.ALIGNED p = 0 → s.dev.rxAwake p = true → (s.dev.port p).rxWake = false →
      exec (.alignLossTimeout p) s = .next { s with dev := s.dev.interrupt p }) ∧
    (∀ d, (s.dev.port p).codingRx = true → s.dev.get PCS_CTL.HISER_EN p = 1 →
      8192 ≤ (s.dev.port p).hiCw → d = s.dev.setPort p { s.dev.port p with hiCw := 0, hiErr := 0 } →
      ((s.dev.port p).hiErr < s.dev.get PCS_CTL.HISER_THRESH p →
        exec (.hiserWindowEnd p) s = .next { s with dev := d.put PCS_STATUS.HI_SER p 0 }) ∧
      (s.dev.get PCS_CTL.HISER_THRESH p ≤ (s.dev.port p).hiErr → s.dev.get PCS_STATUS.HI_SER p = 1 →
        exec (.hiserWindowEnd p) s = .next { s with dev := d.fault 52 p sevDegraded (s.dev.port p).hiErr }) ∧
      (s.dev.get PCS_CTL.HISER_THRESH p ≤ (s.dev.port p).hiErr → s.dev.get PCS_STATUS.HI_SER p = 0 →
        exec (.hiserWindowEnd p) s = .next { s with
          dev := ((((d.put PCS_STATUS.HI_SER p 1).inc PCS_HISER.COUNT p).seen (srcPort p 2) 0).fault 52 p sevDegraded
            (s.dev.port p).hiErr) })) ∧
    ((s.dev.port p).entering = true → s.dev.laneState p = stActive → (s.dev.mac p).tx = none →
      exec (.txEasyEntryDone p) s =
        .next (({ s with dev := s.dev.easyEnter p } : State).replyWaits (· == Wait.easy p))) ∧
    (exec (.easyExpectLapse p) s = .next { s with dev := s.dev.setPort p { s.dev.port p with easyArmed := false } }) ∧
    (∀ d, s.dev.get LN_ATTN.BUSY p = 1 →
      d = ((s.dev.portPut p LN_ATTN.BUSY 0).portPut p LN_ATTN.SENT 1).portPut p LN_EASY.TX_EASY 0 →
      exec (.attnSendDone p) s = .next { s with
        dev := ((d.txStart p).easyState p).macSync p }) ∧
    ((s.dev.port p).txWake = true → (s.dev.port p).codingTx = true → s.dev.rxAwake p = false →
      exec (.wakeWaitExpiry p) s = .next { s with dev := (s.dev.setPort p { s.dev.port p with wakeWait := true }).wakeDone p })

/-- Table 30, R49, R80, R83, R84: what the shared moves of the launch state machine leave on every lane of a port. A
failure stalls the port once its failures in a row reach LAUNCH_RETRY, and otherwise tries again from DETECT.
Choices of the model in it: log entries 90 and 93. -/
def Obligations.LaunchMovesWritten : Prop :=
  ∀ (d : Dev) (p n : Nat),
    (n ∈ (d.toOff p).portLanes p → (d.toOff p).laneState n = stOff ∧ (d.toOff p).get LN_LAUNCH_STATUS.QUIET n = 0 ∧
      (d.toOff p).get LN_STATUS.LOS n = 1 ∧ (d.toOff p).get LN_STATUS.CDR_LOCK n = 0 ∧ (d.toOff p).get LN_EQ_LIVE.EYE n = 0) ∧
    (∀ b, n ∈ (d.toDetect p b).portLanes p → (d.toDetect p b).laneState n = stDetect ∧
      (d.toDetect p b).get LN_LAUNCH_STATUS.QUIET n = (if b then 0 else 1) ∧ ((d.toDetect p b).port p).pllWait = b) ∧
    (∀ k, n ∈ (d.toTrain p k).portLanes p → k < 4 →
      (d.toTrain p k).laneState n = stTrain ∧ (d.toTrain p k).get LN_LAUNCH_STATUS.PARTNER n = k ∧
      ((d.toTrain p k).port p).trainT = true) ∧
    (∀ c, n ∈ (d.failure p c).portLanes p → (d.failure p c).laneState n =
      (if d.get LN_LAUNCH_CTL.LAUNCH_RETRY p ≤ min (d.get LN_LAUNCH_STATUS.FAILS p + 1) 255 then stStalled else stDetect))

/-- R29, R84, R282, R283, R351: events of sideband lines and of the mirrors of an eight. The filters of the island act
whatever clocks run; the event controller acts only while the core clocks do. Choices of the model in it: log entries 14 and
66. -/
def Obligations.SidebandEventsRun : Prop :=
  ∀ s : State, s.awake = true →
    (∀ e b, e < 128 → s.dev.modPrs e ≠ b → ∃ d, exec (.modPrsChange e b) s = .next { s with dev := d } ∧
      (s.ctl.live = false → d.modPrs e = b ∧ d.get X.SB_STOP (linePrs e) = 0)) ∧
    (∀ e b d, e < 128 → s.dev.modPrs e ≠ b → s.ctl.live = true →
      d = (s.dev.levelPut EVC_SB_PRS_0.LEVEL EVC_SB_PRS_1.LEVEL e b).put X.SB_STOP (linePrs e) 0 →
      exec (.modPrsChange e b) s = .next { s with dev := (d.presence e b).event (srcEight e 11) (if b then 1 else 0) }) ∧
    (∀ e b, e < 128 → s.dev.modInt e ≠ b → (s.ctl.live = false ∨ b = false ∨ s.dev.get EVC_SRC_CFG.ENABLE (srcEight e 10) = 0) →
      ∃ d, exec (.modIntChange e b) s = .next { s with dev := d } ∧ d.modInt e = b ∧ d.get X.SB_STOP (lineInt e) = 0) ∧
    (∀ b, s.dev.get EVC_SB_MISC.WAKE 0 = (if b then 0 else 1) → ∃ d, exec (.cpxWake b) s = .next { s with dev := d } ∧
      d.get EVC_SB_MISC.WAKE 0 = (if b then 1 else 0) ∧
      (s.ctl.live = true → b = true → s.dev.get EVC_SRC_CFG.ENABLE srcWake = 1 → d.get EVC_SRC_STATUS.PENDING srcWake = 1)) ∧
    (∀ b, s.dev.get EVC_SB_MISC.LOCKUP 0 = (if b then 0 else 1) → ∃ d, exec (.lockupReq b) s = .next { s with dev := d } ∧
      d.get EVC_SB_MISC.LOCKUP 0 = (if b then 1 else 0) ∧
      (b = true → s.ctl.state ≠ .locked → s.dev.get LCK_CFG.PIN_EN 0 = 1 → 3 ∈ d.desk.trigs) ∧
      (b = false ∨ s.dev.get LCK_CFG.PIN_EN 0 = 0 → d.desk.trigs = s.dev.desk.trigs)) ∧
    (∀ l, l < 258 → s.ctl.live = false → (s.ctl.state = .locked ∨ s.ctl.d34 = false) →
      exec (.sidebandGlitch l) s = .next { s with dev := s.dev.put X.SB_STOP l 0 }) ∧
    (∀ l, l < 258 → s.ctl.live = false → s.ctl.state = .powered → s.ctl.d34 = true → exec (.sidebandGlitch l) s = .next { s with
      dev := ((s.dev.put X.SB_STOP l 0).inc EVC_SB_GLITCH.COUNT 0).put EVC_SB_MISC.GLITCH_SEEN 0 1 }) ∧
    (∀ l, l < 258 → s.ctl.live = true → ∃ d, exec (.sidebandGlitch l) s = .next { s with dev := d } ∧
      d.get EVC_SB_GLITCH.COUNT 0 = min (s.dev.get EVC_SB_GLITCH.COUNT 0 + 1) (2 ^ EVC_SB_GLITCH.COUNT.w - 1) ∧
      (s.dev.get EVC_SB_MISC.GLITCH_SEEN 0 < 2 → d.get EVC_SB_MISC.GLITCH_SEEN 0 = 1)) ∧
    (∀ l, l < 258 → exec (.sidebandLatchEdge l) s = .next { s with dev := s.dev.put X.SB_STOP l 0 }) ∧
    (∀ l, l < 258 → exec (.filterClockStop l) s = .next { s with dev := s.dev.put X.SB_STOP l 1 }) ∧
    (∀ e clk pats, e < 128 → s.ctl.live = true → (clk = false ∨ s.dev.eightRuns e = false) → exec (.mirrorRefresh e clk pats) s =
      .next { s with dev := s.dev.put LN_EIGHT_STATUS.MIRROR_STALE e 1 }) ∧
    (∀ e, e < 128 → s.ctl.live = true → s.dev.eightRuns e = true → exec (.mirrorRefresh e true []) s =
      .next { s with dev := (s.dev.put LN_EIGHT_STATUS.MIRROR_STALE e 0).mirrorEight e })

/-- R23, R24, R72, R112, R114 to R122, R129: events of a frame in reception. Of a frame that reaches a configured lane
port whose MAC is free, a wrong delimiter and a MAC that is not up discard it, an error mark of its own or of the
coding layer counts an error block, and the good rest is judged as a head; a head whose slice is ready is handed to
it with the next sequence number, one whose slice is not waits; a frame that ends is finished with its verdict.
Choices of the model in it: log entries 51, 61, 73, 84 and 95. -/
def Obligations.ReceiveEventsRun : Prop :=
  ∀ s : State, s.clocked = true →
    (∀ (h : HeadRx) d, s.dev.isLanePort h.port = true → h.bytes.length = 64 → (s.dev.mac h.port).rx = none →
      s.dev.portResetting h.port = false → s.dev.rxFed h.port = true → (s.dev.port h.port).rmDrop = false →
      d = s.dev.rmRead h.port fifoHead →
      (h.sfdOk = false → exec (.rxHeadDecision h) s =
        .next { s with dev := ((d.inc MAC_RX_PREAMBLE_ERR.COUNT h.port).rxGone h.port h.whole).rmFlow h.port }) ∧
      (h.sfdOk = true → h.preOk = true → d.rxUp h.port = false → exec (.rxHeadDecision h) s =
        .next { s with dev := ((d.inc MAC_RX_DOWN_DISCARD.COUNT h.port).rxGone h.port h.whole).rmFlow h.port }) ∧
      (h.sfdOk = true → h.preOk = true → d.rxUp h.port = true → (h.error = true ∨ d.rxMarked h.port = true) →
        exec (.rxHeadDecision h) s =
          .next { s with dev := ((d.inc MAC_RX_ERR_BLOCK.COUNT h.port).rxGone h.port h.whole).rmFlow h.port }) ∧
      (h.sfdOk = true → h.preOk = true → d.rxUp h.port = true → h.error = false → d.rxMarked h.port = false →
        (readTags (nats h.bytes)).lt ≠ 0x8808 → (h.whole = false ∨ fcsOk (nats h.bytes) = true) →
        exec (.rxHeadDecision h) s = .next { s with dev := (d.headPass h).rmFlow h.port })) ∧
    (∀ p ready waited f sl a, s.dev.isPort p = true → s.dev.portResetting p = false → (s.dev.mac p).rx = some f →
      f.stage = .waiting → a = s.dev.readySample p ready → sl = nextSlice (a.sliceMask p) (s.dev.mac p).lastSlice →
      (bitAt ready sl = true → f.fate = none → ∃ e : Dev,
        exec (.headHandoff p ready waited) s = .next { s with dev := e.rmFlow p } ∧
        (e.mac p).rx = some { f with stage := .body, slice := sl, seq := (s.dev.mac p).seq } ∧
        (e.mac p).seq = ((s.dev.mac p).seq + 1) % 2 ^ 16 ∧ (e.mac p).lastSlice = sl ∧
        e.out = .head sl (headWord p (s.dev.mac p).seq f.head) f.first :: s.dev.out) ∧
      (bitAt ready sl = false → exec (.headHandoff p ready waited) s =
        .next { s with dev := if waited then a.sliceWait p else a })) ∧
    (∀ (e : EndRx) f v b d, e.port < 1024 → (s.dev.mac e.port).rx = some f →
      verdictOf f.maxFrame false (e.error || s.dev.rxMarked e.port) (f.first ++ e.bytes) = (v, b) →
      (f.stage = .waiting → exec (.rxFrameEnd e) s = .next s) ∧
      (f.stage ≠ .waiting → d = s.dev.rmRead e.port fifoEnd →
        (f.stage = .gone → exec (.rxFrameEnd e) s = .next { s with dev := d.rxClear e.port }) ∧
        (f.stage = .control → exec (.rxFrameEnd e) s = .next { s with dev := d.ctrlEnd e.port f b v }) ∧
        (f.stage = .body ∨ f.stage = .storing ∨ f.stage = .dropped → exec (.rxFrameEnd e) s =
          .next { s with dev := d.rxFinish s.ctl.proof e.port f b v }))) ∧
    (∀ e : EndRx, s.dev.isLanePort e.port = true → s.dev.portResetting e.port = false → (s.dev.mac e.port).rx = none →
      s.dev.rxFed e.port = true → e.bytes.length < 64 → exec (.rxFrameEnd e) s = .next { s with
        dev := (s.dev.shortEnd e).rmRead e.port fun l => fifoEnd ((l.dropWhile (· != .start)).drop 8) }) ∧
    (∀ p same, s.dev.isLanePort p = true → (s.dev.port p).codingRx = true → (s.dev.mac p).rx = none → ∃ d,
      exec (.rxRmOverflow p same) s = .next { s with dev := d } ∧ (d.port p).rmDrop = true ∧
      d.get PCS_RX_RM_DROP.COUNT p = min (s.dev.get PCS_RX_RM_DROP.COUNT p + 1) (2 ^ PCS_RX_RM_DROP.COUNT.w - 1)) ∧
    (∀ p x l, 1024 ≤ p → p < 1032 → (s.dev.mac p).rx = none → (s.dev.mac p).loop = x :: l →
      exec (.recircLateDiscard p) s = .next { s with
        dev := ((((s.dev.rxClear p).loopPop p).inc MAC_RX_RECIRC_LATE.COUNT p).macSeen p macLate).fault 12 0 sevNotice p })

/-- R117, Table 42: the verdict of a frame that ends is OVERSIZE exactly where it is longer than its limit, ABORTED where
its transmit side cut it, an error block where one fell in it, and otherwise whether its FCS is right; only an oversize
frame is cut. -/
def Obligations.VerdictOfFrame : Prop :=
  ∀ (m : Nat) (ab er : Bool) (l : List Byte),
    ((verdictOf m ab er l).1 = 3 ↔ m < l.length) ∧
    (l.length ≤ m → (verdictOf m ab er l).2 = l) ∧
    (m < l.length → (verdictOf m ab er l).2.length = m) ∧
    (l.length ≤ m → ab = false → er = false → ((verdictOf m ab er l).1 = 0 ↔ fcsOk (nats l) = true)) ∧
    (verdictOf m ab er l).1 ∈ [0, 1, 2, 3, 5]

/-- R111: the next frame starts on an 8-byte boundary, a gap is from TX_IPG − 3 to TX_IPG + 7 bytes and no less than TX_IPG
after a control frame, and the deficit stays 0 to 3. -/
def Obligations.GapsAligned : Prop :=
  ∀ (g d n : Nat) (ctrl : Bool), 12 ≤ g → g ≤ 64 → d ≤ 3 →
    (n + (gapAfter g d n ctrl).1) % 8 = 0 ∧ g - 3 ≤ (gapAfter g d n ctrl).1 ∧ (gapAfter g d n ctrl).1 ≤ g + 7 ∧
    (ctrl = true → g ≤ (gapAfter g d n ctrl).1) ∧ (gapAfter g d n ctrl).2 ≤ 3

/-- R136, R141 to R144, R147 to R150, R213: events of the galley and of flow control. Choices of the model in it: log
entries 52, 70, 73, 86 and 88. -/
def Obligations.GalleyEventsRun : Prop :=
  ∀ s : State, s.clocked = true →
    (∀ p c, s.dev.isLanePort p = true → c < 16 →
      (∀ n, exec (.occupancyReport p c n) s = .next { s with dev := ((s.dev.setGal (p * 16 + c)
        { s.dev.gal (p * 16 + c) with report := some n, stale := false }).hyst (p * 16 + c)) }) ∧
      ((s.dev.gal (p * 16 + c)).stale = false → exec (.reportStale p c) s =
        .next { s with dev := (((s.dev.setGal (p * 16 + c) { s.dev.gal (p * 16 + c) with stale := true }).hyst
          (p * 16 + c)).fault 32 ((p * 16 + c) / 16 / 64) sevNotice ((p * 16 + c) / 16 + (p * 16 + c) % 16 * 2 ^ 12)) }) ∧
      (∀ x, (s.dev.gal (p * 16 + c)).q = [x] → s.dev.tooOld x = true → exec (.galleyAgeCheck p c) s =
        .next { s with dev := (s.dev.galDrop (p * 16 + c) GAL_P_AGE_DROP.COUNT).galPop (p * 16 + c) }) ∧
      (∀ x l, (s.dev.gal (p * 16 + c)).q = x :: l → s.dev.tooOld x = false →
        exec (.galleyAgeCheck p c) s = .next s)) ∧
    (∀ p, s.dev.isLanePort p = true →
      (∀ f l v, (s.dev.mac p).pauses = f :: l → f.pfc = false → f.times = [v] → exec (.rxPauseTimerLoad p) s = .next { s with
        dev := ((s.dev.setMac p { s.dev.mac p with pauses := l }).fcTimer p 8 v).coxRefresh p }) ∧
      (∀ k, k < 9 → exec (.rxPauseTimerExpiry p k) s = .next { s with dev := (s.dev.fcTimer p k 0).coxRefresh p }) ∧
      (∀ k, k < 8 → bitAt (s.dev.get X.GAL_REP p) k = true → bitAt (s.dev.get GAL_FC_STATUS.TX_XOFF p) k = false → ∃ d,
        exec (.xoffFallReport p k) s = .next { s with dev := d } ∧ (d.mac p).fcReq = true ∧
        d.get X.GAL_REP p = clrBitAt (s.dev.get X.GAL_REP p) k % 2 ^ X.GAL_REP.w) ∧
      (s.dev.get X.FC_REFRESH p = 1 → s.dev.get MAC_PORT_STATUS.TX_UP p = 1 → s.dev.anyXoff p = true →
        exec (.fcRefreshExpiry p) s = .next { s with dev := s.dev.setMac p { s.dev.mac p with fcReq := true } }) ∧
      (s.dev.get MAC_PORT_STATUS.TX_UP p = 1 → (s.dev.mac p).fcReq = true → (s.dev.mac p).tx = none →
        s.dev.get PCS_CTL.FAR_LOOP p = 0 → ∃ d, exec (.controlFrameSend p) s = .next { s with dev := d } ∧ (d.mac p).fcReq = false ∧
        (s.dev.get MAC_PORT_CFG.PAUSE_EN p = 1 → s.dev.get GAL_FC_STATUS.PORT_XOFF p = 0 →
          d.get X.FC_REFRESH p = 0 ∧ d.get MAC_TX_CTRL.COUNT p = min (s.dev.get MAC_TX_CTRL.COUNT p + 1) (2 ^ MAC_TX_CTRL.COUNT.w - 1) ∧
          ∃ g l, l = byteList (withFcs (padTo 60 (beBytes 0x0180C2000001 6 ++ beBytes (s.dev.get MAC_PORT_SA.SA p) 6 ++
            [0x88, 0x08, 0, 1, 0, 0]))) ∧ d.out = .frame p l g :: s.dev.out ∧
            (d.port p).octs = (s.dev.port p).octs ++ frameOcts l g)) ∧
      (∀ c pc x l d ready waited, s.dev.galNext p = some c → pc = p * 16 + c → s.dev.dealBusy p = false →
        d = (s.dev.readySample p ready).galAgeAll pc → (d.gal pc).q = x :: l →
        (∀ errs, d.sliceReady p ready = false → exec (.galleyRelease p errs ⟨ready, waited⟩) s =
          .next { s with dev := if waited then d.sliceWait p else d }) ∧
        (d.sliceReady p ready = true → x.hurt = false → exec (.galleyRelease p [] ⟨ready, waited⟩) s =
          .next { s with dev := ((d.galHand p c x).galPop pc).galAgeAll pc }) ∧
        (∀ b, d.sliceReady p ready = true → b < 16 → exec (.galleyRelease p [(b, true)] ⟨ready, waited⟩) s = .next { s with
          dev := ((d.galUe (d.byteAt pc b).1).galUeFault (d.byteAt pc b).2.2 pc).galLose pc 0 }) ∧
        (∀ b, d.sliceReady p ready = true → 16 ≤ b → exec (.galleyRelease p [(b, true)] ⟨ready, waited⟩) s = .next { s with
          dev := ((((d.galUe (d.byteAt pc b).1).galUeFault (d.byteAt pc b).2.2 pc).galDrop pc GAL_P_UE_DROP.COUNT).galPop
            pc).galAgeAll pc }) ∧
        (∀ b, d.sliceReady p ready = true → x.hurt = false → exec (.galleyRelease p [(b, false)] ⟨ready, waited⟩) s = .next { s with
          dev := (((d.galCe (d.byteAt pc b).1 (d.byteAt pc b).2.1).galHand p c x).galPop pc).galAgeAll pc }))) ∧
    (s.dev.get GAL_SCRUB.EN 0 = 1 → s.dev.get GAL_STATUS.IN_SERVICE 0 = 1 →
      (s.dev.scrubAt 65536 0 = true →
        exec .scrubPassDone s = .next { s with dev := (s.dev.put X.GAL_SCRUB_POS 0 0).inc GAL_SCRUB_PASS.COUNT 0 }) ∧
      ∀ x c w d, x < 65536 → c < 8192 → s.dev.scrubAt x c = true → d = s.dev.put X.GAL_SCRUB_POS 0 (x * 8192 + c + 1) →
        exec (.scrubVisit x c false none) s = .next { s with dev := d } ∧
        exec (.scrubVisit x c true none) s = .next { s with dev := d.galCe x c } ∧
        ((d.galUe x).extentData x = none → exec (.scrubVisit x c false (some w)) s = .next { s with dev := d.galUe x })) ∧
    (∀ x c a b, s.dev.scrubAt x c = false → exec (.scrubVisit x c a b) s = .next s) ∧
    (∀ x, x < 65536 → s.dev.get X.GAL_MARK x = 1 →
      (s.dev.extentData x ≠ none → exec (.extentSwap x) s = .next s) ∧
      (∀ d n, s.dev.extentData x = none → 2 ≤ n → d = ((s.dev.clrs x [X.GAL_MARK, X.GAL_EXT_CE]).put X.GAL_OUT x 1).inc GAL_EXT.RETIRED 0 →
        d.get GAL_EXT.SPARE_LEFT 0 = n → exec (.extentSwap x) s = .next { s with
          dev := (d.chainSwap x (some (firstSpare + 2048 - n))).put GAL_EXT.SPARE_LEFT 0 (n - 1) })) ∧
    (∀ c, c < 64 → s.dev.get GAL_STATUS.IN_SERVICE 0 = 1 → s.dev.get GAL_CH_STATUS.FAILED c = 0 →
      exec (.galleyChannelError c) s = .next { s with
        dev := (((s.dev.put GAL_CH_STATUS.FAILED c 1).seen srcGalley 0).fault 11 0 sevSerious c) })

/-- R161, R163, R166, R169, R171, R172, R177, R182, R183: notices of the core, decisions of the cox, refills and walks.
Choices of the model in it: log entries 57, 68 and 96. -/
def Obligations.CoxEventsRun : Prop :=
  ∀ s : State, s.clocked = true →
    (∀ p c n, s.dev.isPort p = true → c < 16 →
      exec (.queueArrive p c none n) s = .next { s with dev := ((s.dev.setMember (memKey (p * 16 + c) none)
        { s.dev.member (memKey (p * 16 + c) none) with
          frames := (s.dev.member (memKey (p * 16 + c) none)).frames + 1
          bytes := (s.dev.member (memKey (p * 16 + c) none)).bytes + n }).classRefresh (p * 16 + c)) } ∧
      exec (.queueDrop p c none n) s = .next { s with dev := (s.dev.setMember (memKey (p * 16 + c) none)
        { s.dev.member (memKey (p * 16 + c) none) with
          frames := (s.dev.member (memKey (p * 16 + c) none)).frames - 1
          bytes := (s.dev.member (memKey (p * 16 + c) none)).bytes - n }) }) ∧
    (∀ p c (x : FrontRx), s.dev.isPort p = true → c < 16 → (s.dev.member (memKey (p * 16 + c) none)).front.length < 16 →
      exec (.queueFront p c none x) s = .next { s with dev := ((s.dev.setMember (memKey (p * 16 + c) none)
        { s.dev.member (memKey (p * 16 + c) none) with
          front := (s.dev.member (memKey (p * 16 + c) none)).front ++ [⟨x.len, x.fcsKeep, x.trailerEn, x.prof % 64, x.enqNs⟩] }).classRefresh
            (p * 16 + c)) }) ∧
    (∀ p c q n, s.dev.isPort p = false → c < 16 → (∀ u, q = some u → u < 16384) →
      exec (.queueArrive p c q n) s = .next { s with dev := s.dev.badNotice p c } ∧
      exec (.queueDrop p c q n) s = .next { s with dev := s.dev.badNotice p c }) ∧
    (∀ p k, s.dev.mayDecide p = true → (s.dev.coxRefresh p).overLong p = some k → exec (.coxDecision p) s = .next { s with
      dev := ((((((s.dev.coxRefresh p).takeHead k ((s.dev.coxRefresh p).headCl k)).headChanged k).inc GATE_P_OVERLEN.COUNT p).emit
        (.request p (memPc k % 16) (memPtn k) true)).coxRefresh p) }) ∧
    (∀ p pc d, s.dev.mayDecide p = true → (s.dev.coxRefresh p).overLong p = none →
      (s.dev.coxRefresh p).pickStrict (classesOf p).reverse = (some pc, d) →
      exec (.coxDecision p) s = .next { s with dev := d.serve p pc ((d.candidate pc).getD 0) }) ∧
    (∀ p, s.dev.isPort p = true → exec (.shaperRefill (.port p)) s = .next { s with dev := s.dev.refillPort p }) ∧
    (∀ q, q < 16384 → exec (.shaperRefill (.partner q)) s = .next { s with
      dev := ((s.dev.setBucket (bkPtn q) ((s.dev.bucket (bkPtn q)).refilled (s.dev.get PTN_SHAPER.RATE_KBPS q)
        (s.dev.get PTN_SHAPER.BURST q) 5120 (s.dev.maxCl (s.dev.get PTN_CFG.PORT q)))).coxRefresh (s.dev.get PTN_CFG.PORT q)) }) ∧
    (∀ q, q < 16384 → s.dev.get PTN_CFG.POLICE_EN q = 1 → ∃ d, exec (.policerRefill q) s = .next { s with dev := d } ∧
      d.bucket (bkTc q) = (s.dev.bucket (bkTc q)).policed (s.dev.get PTN_POL_RATE.CIR_KBPS q) (s.dev.get PTN_POL_BURST.CBS q) ∧
      d.bucket (bkTp q) = (s.dev.bucket (bkTp q)).policed (s.dev.get PTN_POL_RATE.PIR_KBPS q) (s.dev.get PTN_POL_BURST.PBS q) ∧
      d.f = s.dev.f) ∧
    (exec .ageingWalk s = .next { s with dev := s.dev.ageWalk } ∧ s.dev.ageWalk.f = s.dev.f) ∧
    (s.dev.get COX_TELEM_CFG.EN 0 = 1 → s.dev.get COX_TELEM_STATUS.WALKING 0 = 1 → exec .telemetryWalk s =
      .next { s with dev := (s.dev.inc COX_TELEM_LATE.COUNT 0).seen srcTelem 0 }) ∧
    (∀ w, s.dev.get COX_TELEM_CFG.EN 0 = 1 → s.dev.get COX_TELEM_STATUS.WALKING 0 = 0 →
      w = (s.dev.get COX_TELEM_STATUS.WALK 0 + 1) % 2 ^ 16 → ∃ d, exec .telemetryWalk s = .next { s with dev := d } ∧
      d.get COX_TELEM_STATUS.WALK 0 = w ∧ d.get COX_TELEM_STATUS.WALKING 0 = (if s.dev.walkList = [] then 0 else 1))

/-- R171, R172, R173, R177: a shaper's bucket never holds more than its burst nor owes more than one frame of the greatest
charge; a rate that goes from 0 to a value fills it; a policer's bucket never holds more than its size; a charge moves a
bucket down only. -/
def Obligations.BucketsBounded : Prop :=
  ∀ (b : Bucket) (rate burst t mx cl : Nat),
    (b.refilled rate burst t mx).tok ≤ ((burst * 65536 : Nat) : Int) ∧ -((mx * 65536 : Nat) : Int) ≤ (b.refilled rate burst t mx).tok ∧
    (b.refilled rate burst t mx).rate = rate ∧
    (b.rate = 0 → rate ≠ 0 → (b.refilled rate burst t mx).tok = ((burst * 65536 : Nat) : Int)) ∧
    (b.policed rate burst).tok ≤ ((burst * 65536 : Nat) : Int) ∧ (b.policed rate burst).fill = false ∧
    (b.fill = true → (b.policed rate burst).tok = ((burst * 65536 : Nat) : Int)) ∧
    (b.rate = 0 → b.charged cl mx = b) ∧
    (-((mx * 65536 : Nat) : Int) ≤ b.tok → (b.charged cl mx).tok ≤ b.tok ∧ -((mx * 65536 : Nat) : Int) ≤ (b.charged cl mx).tok)

/-- R73, R110, R125, R127, R200, R201: events of frames in transmission and the stamp mover. Choices of the model in
it: log entries 58, 79 and 85. -/
def Obligations.TransmitEventsRun : Prop :=
  ∀ s : State, s.clocked = true →
    (∀ (x : StartTx) r l d, s.dev.isPort x.port = true → d = s.dev.ctrlSend x.port → (d.mac x.port).tx = none →
      (d.mac x.port).reqs = r :: l →
      (r.doomed = true → exec (.txFrameStart x) s = .next { s with
        dev := ((d.setMac x.port { d.mac x.port with reqs := l }).inc MAC_TX_ABORT.COUNT x.port).unsent x.port x.md }) ∧
      (r.doomed = false → (x.port < 1024 → d.get PCS_CTL.FAR_LOOP x.port = 0) →
        min (mdLen x.md) ((d.portWidth x.port).getD 1 * 256) ≤ x.bytes.length →
        exec (.txFrameStart x) s = .next { s with
          dev := (d.setMac x.port { d.mac x.port with reqs := l }).txBegin x r })) ∧
    (∀ p t rest abort, s.dev.isPort p = true → (s.dev.mac p).tx = some t →
      (abort = true ∨ (t.bytes ++ rest).length ≠ mdLen t.md → exec (.txFrameEnd p rest abort) s = .next { s with
        dev := ((s.dev.inc MAC_TX_ABORT.COUNT p).macSeen p macAbort).txError p t (t.bytes ++ rest) }) ∧
      (abort = false → (t.bytes ++ rest).length = mdLen t.md → exec (.txFrameEnd p rest abort) s =
        .next { s with dev := s.dev.txWhole p t (nats (t.bytes ++ rest)) })) ∧
    (∀ p t, s.dev.isLanePort p = true → (s.dev.mac p).tx = some t → exec (.txUnderrun p) s = .next { s with
      dev := ((s.dev.inc PCS_TX_UNDERRUN_CNT.COUNT p).seen (srcPort p 7) 1).txError p t t.bytes }) ∧
    (∀ p w l, s.dev.nextStamped = some p → (s.dev.mac p).stamps = w :: l → ∃ d, exec .stampMove s = .next { s with dev := d } ∧
      d.get X.STAMP_RR 0 = p % 2 ^ X.STAMP_RR.w ∧
      (d.ring (ringStamp (s.dev.get TIM_PORT_CFG.STAMP_FUNC p))).arrive =
        (s.dev.ring (ringStamp (s.dev.get TIM_PORT_CFG.STAMP_FUNC p))).arrive ++ [w] ∧
      (d.mac p).run = none ∧ (d.mac p).stamps = l ++ (match (s.dev.mac p).run with
        | none => []
        | some (i, q, k) => [stampLoss false p i q k]))

/-- R192 to R194, R205, R206, R208 to R210, R216: events of the time unit and of the gate engine. Choices of the model
in it: log entries 60 and 68. -/
def Obligations.TimeAndGateEventsRun : Prop :=
  ∀ s : State, s.clocked = true →
    (∀ add neg, s.dev.get TIM_STEP_NS.NANOSECONDS 0 ≤ 999999999 → ∃ d, exec (.stepGo add neg) s = .next { s with dev := d } ∧
      d.get TIM_STEP_CTL.BUSY 0 = 1 ∧ d.get TIM_STEP_CTL.MODE 0 = (if add then 1 else 0) ∧
      d.get TIM_STEP_CTL.NEG 0 = (if neg then 1 else 0) ∧ d.tim = { s.dev.tim with
        step := some (s.dev.get TIM_STEP_SEC.SECONDS 0, s.dev.get TIM_STEP_NS.NANOSECONDS 0, s.dev.get TIM_STEP_NS.FRAC_NS 0, add, neg) }) ∧
    (∀ add neg, 999999999 < s.dev.get TIM_STEP_NS.NANOSECONDS 0 → ∃ d, exec (.stepGo add neg) s = .next { s with dev := d } ∧
      d.tim = s.dev.tim ∧ (s.dev.get TIM_STATUS.STEP_ERR 0 < 2 → d.get TIM_STATUS.STEP_ERR 0 = 1)) ∧
    (∀ x, s.dev.tim.step = some x →
      exec .timebaseStep s = .next { s with dev := s.dev.lanePorts.foldl Dev.gateMoved s.dev.stepApply }) ∧
    (∃ d, exec .slewGo s = .next { s with dev := d } ∧
      d.get TIM_SLEW_CTL.ACTIVE 0 = (if signedOf (s.dev.get TIM_SLEW.OFFSET 0) 48 = 0 then 0 else 1) ∧
      d.tim = { s.dev.tim with slew := signedOf (s.dev.get TIM_SLEW.OFFSET 0) 48 * 2 ^ 34 }) ∧
    (s.dev.tim.slew = 0 → exec .slewDone s = .next { s with dev := s.dev.put TIM_SLEW_CTL.ACTIVE 0 0 }) ∧
    (∃ d, exec .snapGo s = .next { s with dev := d } ∧ d.get TIM_SNAP_SEC.SECONDS 0 = s.dev.tim.sec % 2 ^ 48 ∧
      d.get TIM_SNAP_NS.NANOSECONDS 0 = s.dev.tim.acc / 2 ^ 50 % 2 ^ 32 ∧
      d.get TIM_SNAP_NS.FRAC_NS 0 = s.dev.tim.acc / 2 ^ 34 % 2 ^ 16 ∧ d.get TIM_SNAP.READY 0 = 1 ∧ d.tim = s.dev.tim) ∧
    (∀ p, s.dev.isLanePort p = true →
      (s.dev.get GATE_PORT_STATUS.STATE p = gsRun →
        exec (.gateEntryBoundary p) s = .next { s with dev := (s.dev.gateShow p).coxRefresh p }) ∧
      (s.dev.switchPending p = true → s.dev.switchAt p ≤ s.dev.nowPs + s.dev.guardPs p → s.dev.nowPs < s.dev.switchAt p →
        exec (.switchGuardStart p) s = .next { s with
          dev := ((s.dev.put GATE_PORT_STATUS.GUARD_ACTIVE p 1).gateShow p).coxRefresh p }) ∧
      (s.dev.get X.GATE_STOP_PEND p = 1 → s.dev.switchAt p ≤ s.dev.nowPs → exec (.gateSwitch p) s =
        .next { s with dev := ((s.dev.seen (srcPort p 6) 0).gateIdle p).coxRefresh p }) ∧
      (∀ sl d, s.dev.get GATE_PORT_STATUS.PENDING p = 1 → s.dev.get X.GATE_STOP_PEND p = 0 →
        s.dev.get GATE_PORT_STATUS.STATE p ≠ gsRun → s.dev.switchAt p ≤ s.dev.nowPs → sl = s.dev.get X.GATE_PSLOT p →
        d = (s.dev.seen (srcPort p 6) 0).puts p [(GATE_PORT_STATUS.STATE, gsRun), (GATE_PORT_STATUS.RUN_SLOT, sl),
          (GATE_PORT_STATUS.PENDING, 0), (GATE_PORT_STATUS.GUARD_ACTIVE, 0)] → exec (.gateSwitch p) s =
          .next { s with dev := (((d.inc GATE_P_SWITCH.COUNT p).gateShow p).gateDerive p).coxRefresh p }) ∧
      (∀ c k, c < 16 → s.dev.get GATE_CLASS_CFG.SCHED (p * 16 + c) = 1 → s.dev.candidate (p * 16 + c) = some k →
        bitAt (s.dev.get GATE_PORT_STATUS.GATES p) c = true → exec (.windowCutoff p c) s =
          .next { s with dev := s.dev.inc GATE_C_CUTOFF.COUNT (p * 16 + c) }))

/-- R188, R192: one tick advances the timebase by 2.5 ns adjusted, with the slew that is left; a step loads or adds its
value and ends any slew; both keep the nanoseconds below one second. Choices of the model in it: log entry 3. -/
def Obligations.TimebaseAdvances : Prop :=
  (∀ d : Dev, d.get TIM_CTL.EN 0 = 1 → d.tim.acc < secUnits → d.tim.sec < 2 ^ 48 → d.get TIM_SLEW.RATE_PPM 0 ≤ 1000 →
    (d.tick.tim.acc < secUnits ∧ d.tick.tim.sec < 2 ^ 48 ∧ d.tick.f = d.f ∧ d.tick.tim.ticks = d.tim.ticks + 1) ∧
    (d.tim.slew = 0 → d.get TIM_FREQ_ADJ.FREQ_ADJ 0 = 0 → d.tick.tim.slew = 0 ∧
      d.tick.tim.total % timeRange = (d.tim.total + 10 * 2 ^ 48) % timeRange)) ∧
  (∀ d : Dev, d.get TIM_CTL.EN 0 ≠ 1 → d.tick.tim = { d.tim with ticks := d.tim.ticks + 1 } ∧ d.tick.f = d.f) ∧
  (∀ (t : Tim) (sec ns frac : Nat) (add neg : Bool), (stepTime t sec ns frac add neg).acc < secUnits ∧
    (stepTime t sec ns frac add neg).sec < 2 ^ 48 ∧ (stepTime t sec ns frac add neg).slew = 0 ∧
    (stepTime t sec ns frac add neg).step = none ∧
    (sec < 2 ^ 48 → ns ≤ 999999999 → frac < 2 ^ 16 →
      (add = false → (stepTime t sec ns frac add neg).sec = sec ∧ (stepTime t sec ns frac add neg).acc = ns * 2 ^ 50 + frac * 2 ^ 34) ∧
      (add = true → neg = false → (stepTime t sec ns frac add neg).total % timeRange =
        (t.total + (sec * secUnits + ns * 2 ^ 50 + frac * 2 ^ 34)) % timeRange) ∧
      (add = true → neg = true → ((stepTime t sec ns frac add neg).total + (sec * secUnits + ns * 2 ^ 50 + frac * 2 ^ 34)) % timeRange =
        t.total % timeRange)))

/-- R222 to R224, R234, R235: the software engines, alive judgements and the record walk. A write enters an engine's FIFO,
whose front entry is carried out, and a read of a result empties it first. Choices of the model in it: log entries 51 and
56. -/
def Obligations.ProofUnitEventsRun : Prop :=
  ∀ (s : State) (e : Nat), s.clocked = true → e < 16 →
    (∀ x r, (s.dev.fifo e).length < 8 →
      exec (.prfEngCfg e r x) s = .next { s with dev := s.dev.setFifo e (s.dev.fifo e ++ [engEntry r x]) } ∧
      exec (.prfEngFeedB e x) s = .next { s with dev := s.dev.setFifo e (s.dev.fifo e ++ [.feed 1 (x % 2 ^ 8)]) } ∧
      exec (.prfEngFeedH e x) s = .next { s with dev := s.dev.setFifo e (s.dev.fifo e ++ [.feed 2 (x % 2 ^ 16)]) } ∧
      exec (.prfEngFeedW e x) s = .next { s with dev := s.dev.setFifo e (s.dev.fifo e ++ [.feed 4 (x % 2 ^ 32)]) } ∧
      exec (.start e) s = .next { s with dev := s.dev.setFifo e (s.dev.fifo e ++ [.start]) }) ∧
    (∀ v b, (s.dev.fifo e).length < 8 → exec (.preset e v b) s = .next { s with
      dev := s.dev.setFifo e (s.dev.fifo e ++ [.cfg (v % 2 ^ 10 + (if b then 2 else 1) * 2 ^ 10)]) }) ∧
    (∀ n x l, s.dev.fifo e = .feed n x :: l → exec (.engineFifoEntry e) s = .next { s with
      dev := (s.dev.setFifo e l).put PRF_ENG_STATE.STATE e
        ((leBytes x n).foldl (crcByte (s.dev.engParams e)) (s.dev.get PRF_ENG_STATE.STATE e)) }) ∧
    (∀ l, s.dev.fifo e = .start :: l → exec (.engineFifoEntry e) s = .next { s with
      dev := (s.dev.setFifo e l).put PRF_ENG_STATE.STATE e (crcStart (s.dev.engParams e)) }) ∧
    (∃ d : Dev, exec (.prfEngResultRead e true) s = .next { s with dev := d.emit (.readData (0x2601030 + e * 0x100)
      (crcResult (d.engParams e) (d.get PRF_ENG_STATE.STATE e % 2 ^ d.get PRF_ENG_CFG.WIDTH e))) } ∧ d.fifo e = []) ∧
    (∀ q a v p k, q < 16384 → s.dev.get PRF_RX_STREAM.ENABLE q = 1 → k = s.dev.get PRF_RX_STREAM.PROFILE q →
      exec (.aliveJudgement q a v p) s = .next { s with dev := (s.dev.judge k (s.dev.get PRF_RX_STREAM.REC q)
        (a % 2 ^ acwBits (s.dev.get PRF_PROF_CFG.ACW k)) v p).2 }) ∧
    (exec .recordAgeWalk s = .next { s with dev := (s.dev.keys PRF_REC_STATUS.FRESH).foldl Dev.recAge s.dev })

/-- R234 to R236: a judgement. The first counter of a record that is FRESH passes and restarts it; a counter one ahead
passes and loses nothing a full map does not show; the counter last passed is a duplicate. -/
def Obligations.JudgementsRight : Prop :=
  ∀ (d : Dev) (k r a v port : Nat), a < 2 ^ acwBits (d.get PRF_PROF_CFG.ACW k) →
    (d.get PRF_REC_STATUS.FRESH r = 1 → ∃ e, d.judge k r a v port = (.pass, e) ∧ e.get PRF_REC_STATUS.FRESH r = 0 ∧
      e.get PRF_REC_STATUS.LAST r = a ∧ e.get PRF_REC_STATUS.OOW_RUN r = 0 ∧ e.get X.PRF_AGE r = 0 ∧
      e.get PRF_R_PASS.COUNT r = min (d.get PRF_R_PASS.COUNT r + 1) (2 ^ PRF_R_PASS.COUNT.w - 1)) ∧
    (d.get PRF_REC_STATUS.FRESH r = 0 → a = (d.get PRF_REC_STATUS.LAST r + 1) % 2 ^ acwBits (d.get PRF_PROF_CFG.ACW k) →
      1 ≤ d.get PRF_PROF_SEQ.WINDOW k → 1 ≤ d.get PRF_PROF_SEQ.HIST k →
      bitAt (d.get PRF_REC_STATUS.MAP r) (d.get PRF_PROF_SEQ.HIST k - 1) = true → ∃ e,
      d.judge k r a v port = (.pass, e) ∧ e.get PRF_REC_STATUS.LAST r = a ∧ e.get PRF_R_LOST.COUNT r = min (d.get PRF_R_LOST.COUNT r) (2 ^ 48 - 1)) ∧
    (d.get PRF_REC_STATUS.FRESH r = 0 → a = d.get PRF_REC_STATUS.LAST r % 2 ^ acwBits (d.get PRF_PROF_CFG.ACW k) → ∃ e,
      d.judge k r a v port = (.duplicate, e) ∧ e.get PRF_REC_STATUS.LAST r = d.get PRF_REC_STATUS.LAST r ∧
      (d.get PRF_PROF_CFG.COMPARE k = 0 → e.get PRF_R_DISAGREE.COUNT r = d.get PRF_R_DISAGREE.COUNT r))

/-- R247 to R275: events of the host packet engine, its doorbell pages and resets. Choices of the model in it: log
entries 26, 57, 59 and 98. -/
def Obligations.HostEngineEventsRun : Prop :=
  ∀ s : State, s.hosting = true →
    (∀ f w, f < 64 → s.dev.doorbellRing f (w % 2 ^ 32) = none → exec (.doorbell f w) s =
      .next { s with dev := (s.dev.inc HPE_F_BAD_DOORBELL.COUNT f).seen (srcFn f 6) 0 }) ∧
    (∀ f w r, f < 64 → s.dev.doorbellRing f (w % 2 ^ 32) = some r → (s.dev.ring r).reading = false →
      bitAt (w % 2 ^ 32) 15 = false → ∃ d, exec (.doorbell f w) s = .next { s with dev := d } ∧
      d.ring r = { s.dev.ring r with stopped := false, reading := true } ∧ d.f = s.dev.f ∧
      d.out = .hostRead (s.dev.ringBridge r) (s.dev.get RING_LINE.ADDR r * 64 % 2 ^ 64) 4 :: s.dev.out) ∧
    (∀ f k q r, f < 64 → s.dev.doorbellRing f (q % 2 ^ 12 + k % 2 ^ 3 * 2 ^ 12 + 2 ^ 15) = some r →
      (s.dev.ring r).reading = false → ∃ d, exec (.doorbellFence f k q) s = .next { s with dev := d } ∧
      (d.ring r).reading = true ∧ d.f = s.dev.f ∧
      d.out = .fence f :: .hostRead (s.dev.ringBridge r) (s.dev.get RING_LINE.ADDR r * 64 % 2 ^ 64) 4 :: s.dev.out) ∧
    (∀ f, f < 64 → exec (.hpePageReset f) s = .next { s with dev := s.dev.fnResetAsk f } ∧
      exec (.functionLevelReset f) s = .next { s with dev := s.dev.fnResetAsk f } ∧
      (s.dev.get HPE_FN_STATUS.RESET_BUSY f = 1 → s.dev.cmp.session = none → s.dev.fnResetAsk f = s.dev)) ∧
    (∀ r x, r < 8448 → s.dev.lateRead r = false → x = s.dev.ring r → x.lateLine = 0 → x.lateFetch = 0 → x.lateRetry = 0 →
      (∀ v d, x.reading = true → x.again = false → s.dev.ringRuns r = true → workRing r = true →
        d = s.dev.setRing r { x with reading := false } →
        (idxSub (v % 2 ^ 32) (s.dev.get RING_STATE.HW_INDEX r) ≤ s.dev.ringSize r → exec (.indexLineReadDone r v) s = .next { s with
          dev := (d.put RING_PROGRESS.SW_SEEN r (v % 2 ^ 32)).fetchAll r }) ∧
        (s.dev.ringSize r < idxSub (v % 2 ^ 32) (s.dev.get RING_STATE.HW_INDEX r) →
          2 ^ 32 - idxSub (v % 2 ^ 32) (s.dev.get RING_STATE.HW_INDEX r) ≤ 16 →
          exec (.indexLineReadDone r v) s = .next { s with dev := d.fetchAll r }) ∧
        (s.dev.ringSize r < idxSub (v % 2 ^ 32) (s.dev.get RING_STATE.HW_INDEX r) →
          16 < 2 ^ 32 - idxSub (v % 2 ^ 32) (s.dev.get RING_STATE.HW_INDEX r) →
          exec (.indexLineReadDone r v) s = .next { s with dev := d.ringHalt r rfOverrun })) ∧
      (∀ w i l, x.reads = ⟨i, 1, true⟩ :: l →
        (dGen w = s.dev.wantGen r (s.dev.fetchIndex r) → exec (.descriptorFetchDone r [w]) s = .next { s with
          dev := s.dev.setRing r { x with reads := l, ready := x.ready ++ [w % 2 ^ 256] } }) ∧
        (∀ y n, dGen w ≠ s.dev.wantGen r (s.dev.fetchIndex r) → s.dev.belowTail r (s.dev.fetchIndex r) = false →
          y = { ({ x with reads := l } : RingSt).drop with stopped := true } →
          n = 1 + ((l.filter (·.live)).map (·.count)).foldl (· + ·) 0 → exec (.descriptorFetchDone r [w]) s =
            .next { s with dev := (s.dev.setRing r y).add (RING_CNT.COUNT 6) r n })) ∧
      (∀ w k, x.retries = some k →
        (dGen w = s.dev.wantGen r (s.dev.fetchIndex r) → exec (.descriptorRetry r w) s = .next { s with
          dev := (s.dev.setRing r { x with retries := none, ready := x.ready ++ [w % 2 ^ 256] }).fetchAll r }) ∧
        (dGen w ≠ s.dev.wantGen r (s.dev.fetchIndex r) → k < 3 → exec (.descriptorRetry r w) s = .next { s with
          dev := (s.dev.setRing r { x with retries := some (k + 1) }).askSlot r (s.dev.fetchIndex r) }) ∧
        (dGen w ≠ s.dev.wantGen r (s.dev.fetchIndex r) → 3 ≤ k →
          exec (.descriptorRetry r w) s = .next { s with dev := s.dev.ringHalt r rfGen })) ∧
      (exec (.hostReadFault r) s = .next { s with
        dev := (s.dev.setRing r { x with reading := false, again := false }).ringHalt r rfAddr })) ∧
    (∀ r x v w, r < 8448 → x = s.dev.ring r →
      (0 < x.lateLine → exec (.indexLineReadDone r v) s = .next { s with
        dev := (s.dev.setRing r { x with lateLine := x.lateLine - 1 }).inc HPE_LATE_COMPLETION.COUNT 0 }) ∧
      (0 < x.lateFetch → exec (.descriptorFetchDone r w) s = .next { s with
        dev := (s.dev.setRing r { x with lateFetch := x.lateFetch - 1 }).inc HPE_LATE_COMPLETION.COUNT 0 }) ∧
      (0 < x.lateRetry → exec (.descriptorRetry r v) s = .next { s with
        dev := (s.dev.setRing r { x with lateRetry := x.lateRetry - 1 }).inc HPE_LATE_COMPLETION.COUNT 0 })) ∧
    (∀ bufs r j, s.dev.get X.HPE_CUR 0 = 0 → s.dev.txPick = some (r, j) → exec (.txQueueService bufs) s = .next { s with
      dev := (s.dev.puts 0 [(X.HPE_PASS, j), (X.HPE_LAST, r + 1)]).txVisit r
        (s.dev.get RING_CFG.BURST r) bufs
        ((s.dev.ring r).ready.length + 1) }) ∧
    (∀ x l, s.dev.txStore = x :: l → ∃ d, exec .hostTxHandoff s = .next { s with dev := d } ∧ d.txStore = l ∧
      d.get (RING_CNT.COUNT 0) x.ring = min (s.dev.get (RING_CNT.COUNT 0) x.ring + 1) (2 ^ 48 - 1) ∧
      d.out = .hostFrame (x.func + x.ring * 2 ^ 6 + x.bytes.length * 2 ^ 18 + (if x.stampReq then 2 ^ 32 else 0) + x.stampId * 2 ^ 48 +
        x.directive * 2 ^ 64) x.bytes :: s.dev.out) ∧
    (∀ q (x : HostRxIn), s.dev.rxStoreBytes + 16004 ≤ 8388608 →
      (s.dev.ringOwner (ringRx (q % 4096)) = none →
        exec (.hostRxFrame q x) s = .next { s with dev := s.dev.inc HPE_RX_NOQ_DROP.COUNT 0 }) ∧
      (∀ f, s.dev.ringOwner (ringRx (q % 4096)) = some f → s.dev.ringState (ringRx (q % 4096)) = 1 →
        s.dev.get HPE_FN_STATUS.RESET_BUSY f = 0 →
        rxHeld (s.dev.ring (ringRx (q % 4096))) + x.bytes.length ≤ s.dev.get RING_RX_HOLD.HOLD_KIB (ringRx (q % 4096)) * 1024 → ∃ d,
        exec (.hostRxFrame q x) s = .next { s with dev := d } ∧ d.f = s.dev.f ∧ (d.ring (ringRx (q % 4096))).rx =
          (s.dev.ring (ringRx (q % 4096))).rx ++ [⟨x.port, x.tag, ⟨x.sec, x.ns, x.frac⟩, x.tsValid, x.verdict, x.keep, x.lenMis,
            x.trailer, x.bytes⟩])) ∧
    (∀ q x l, q < 4096 → s.dev.ringServes (ringRx q) = true → (s.dev.ring (ringRx q)).rx = x :: l →
      (reserve (s.dev.rxNeed (ringRx q) x) (s.dev.ring (ringRx q)).ready [] = .bad →
        exec (.hostRxDeliver q) s = .next { s with dev := s.dev.ringHalt (ringRx q) rfType }) ∧
      (reserve (s.dev.rxNeed (ringRx q) x) (s.dev.ring (ringRx q)).ready [] = .short →
        exec (.starveTimeout q) s = .next { s with
          dev := (s.dev.setRing (ringRx q) { s.dev.ring (ringRx q) with rx := l }).inc (RING_CNT.COUNT 2) (ringRx q) }) ∧
      (∀ k d, reserve (s.dev.rxNeed (ringRx q) x) (s.dev.ring (ringRx q)).ready [] = .enough k →
        d = s.dev.rxWrite (ringRx q) (s.dev.rxNeed (ringRx q) x) x k (s.dev.get RING_PROGRESS.NEXT (ringRx q))
          (x.bytes.take (s.dev.rxNeed (ringRx q) x)) → ∃ e, exec (.hostRxDeliver q) s = .next { s with
            dev := Dev.completeN e (ringRx q) k.length } ∧ (e.ring (ringRx q)).rx = l ∧ e.out = d.out)) ∧
    (∀ r, r < 8448 → s.dev.ringServes r = true → (s.dev.ring r).unpub ≠ 0 →
      exec (.publishTimer r) s = .next { s with dev := s.dev.publish r }) ∧
    (∀ r x l, r < 8448 → ringKind r = 4 → (s.dev.ring r).arrive = x :: l →
      exec (.recordPost r) s = .next { s with dev := (s.dev.setRing r { s.dev.ring r with arrive := l }).post r x }) ∧
    (∀ r, r < 8448 → workRing r = false → s.dev.ringServes r = true → s.dev.ringFree r = 0 → (s.dev.ring r).reading = false →
      exec (.recordRingPoll r) s = .next { s with
        dev := (s.dev.setRing r { s.dev.ring r with reading := true }).askLine r })

/-- R281, R284 to R294, R347: events of the event controller. A claim of a target takes the lowest pending source of
the vector it returns: the vector becomes ACTIVE and the source is no longer pending. Choices of the model in it:
log entries 11, 47, 49, 68 and 69. -/
def Obligations.EventControllerEventsRun : Prop :=
  ∀ s : State, s.clocked = true →
    (∀ x k, x < 65536 → srcKind x = some k →
      (s.dev.get EVC_SRC_CFG.ENABLE x = 1 → ∃ d, exec (.evcPendSet x) s = .next { s with dev := d } ∧
        d.get EVC_SRC_STATUS.PENDING x = 1 ∧ (k ≠ .pulse → d.get X.EVC_SRC_SW x = 1)) ∧
      (s.dev.get EVC_SRC_CFG.ENABLE x = 0 →
        exec (.evcPendSet x) s = .next { s with dev := s.dev.inc EVC_BAD_PEND_SET.COUNT 0 }) ∧
      (s.dev.present x = false → s.dev.get EVC_VEC_STATUS.STATE (s.dev.get EVC_SRC_CFG.VECTOR x) = 2 → ∃ d,
        exec (.evcPendClr x) s = .next { s with dev := d } ∧ d.get EVC_SRC_STATUS.PENDING x = 0 ∧
        d.get EVC_SRC_STATUS.EVENTS x = 0 ∧ d.get EVC_SRC_STATUS.LATCH x = 0)) ∧
    (∀ t, t < 256 → s.dev.claimVec t = none → exec (.evcTgtClaim t) s = .next { s with
      dev := (s.dev.inc EVC_T_EMPTY_CLAIM.COUNT t).emit (.readData (0x3010010 + t * 0x40) 0) }) ∧
    (∀ t v x, t < 256 → v < 1024 → s.dev.claimVec t = some v →
      (s.dev.keys EVC_SRC_STATUS.PENDING).find? (fun x => s.dev.get EVC_SRC_CFG.VECTOR x == v) = some x → ∃ d,
      exec (.evcTgtClaim t) s = .next { s with dev := d } ∧ d.get EVC_VEC_STATUS.STATE v = 4 ∧
      d.get EVC_VEC_STATUS.SOURCE v = x % 2 ^ 16 ∧ d.get EVC_SRC_STATUS.PENDING x = 0 ∧
      d.get EVC_SRC_STATUS.LATCH x = (if srcLevel x = true ∧ s.dev.get EVC_SRC_CFG.ENABLE x = 1 then
        s.dev.causes x % 2 ^ EVC_SRC_STATUS.LATCH.w else 0) ∧
      d.get EVC_VEC_CAUSE.CAUSE v = s.dev.get EVC_SRC_STATUS.LATCH x % 2 ^ EVC_VEC_CAUSE.CAUSE.w ∧
      d.out = .readData (0x3010010 + t * 0x40) (v + s.dev.get X.EVC_PRIO v * 2 ^ 10 + 2 ^ 14 + x * 2 ^ 16) :: s.dev.out) ∧
    (∀ t v idle, t < 256 → v < 1024 → (s.dev.get EVC_VEC_STATUS.STATE v ≠ 4 ∨ s.dev.get EVC_VEC_STATUS.TARGET v ≠ t) →
      exec (.evcTgtEoi t v idle) s = .next { s with dev := s.dev.inc EVC_T_BAD_EOI.COUNT t }) ∧
    (∀ t v idle, t < 256 → v < 1024 → s.dev.get EVC_VEC_STATUS.STATE v = 4 → s.dev.get EVC_VEC_STATUS.TARGET v = t →
      s.dev.get EVC_TGT_CFG.ENABLE t = 1 → s.dev.isPrio t ≤ (s.dev.eoiVec v idle).isPrio t →
      exec (.evcTgtEoi t v idle) s = .next { s with dev := s.dev.eoiVec v idle }) ∧
    (∀ v b, v < 1024 → exec (.evcVecMask v b) s = .next { s with dev := (s.dev.put EVC_VEC_MASK.MASK v (if b then 1 else 0)).runsEnd }) ∧
    (s.dev.get FLT_REC_STATUS.VALID 0 = 1 → s.dev.get FLT_STATUS.HELD 0 = 0 →
      exec .ackedWrite s = .next { s with dev := s.dev.put FLT_REC_STATUS.ACKED 0 1 }) ∧
    (∀ x n, srcKind x = some .pulse → x < 0xF000 → s.dev.srcPowered x = true → s.dev.get EVC_SRC_CFG.ENABLE x = 1 → ∃ d,
      exec (.sourceEvent x n) s = .next { s with dev := d } ∧
      d.get EVC_SRC_STATUS.PENDING x = 1 ∧
      d.get EVC_SRC_STATUS.EVENTS x = min (s.dev.get EVC_SRC_STATUS.EVENTS x + 1) (2 ^ EVC_SRC_STATUS.EVENTS.w - 1) ∧
      ((x < 0xA000 ∨ 0xA200 ≤ x ∨ x % 8 ≠ 4) → d.get EVC_SRC_STATUS.LATCH x = n % 2 ^ EVC_SRC_STATUS.LATCH.w)) ∧
    (∀ v, s.dev.get EVC_VEC_STATUS.STATE v = 1 → ∃ d, exec (.coalTimerExpiry v) s = .next { s with dev := d } ∧
      d.get EVC_VEC_STATUS.STATE v = 2 ∧ d.get EVC_VEC_STATUS.COUNT v = 0) ∧
    (∀ x n, (s.dev.srcPowered x = false ∨ 0xF000 ≤ x) → exec (.sourceEvent x n) s = .next s) ∧
    (∀ v d b, s.dev.readyVecs = [v] → s.dev.route1 v = (d, b, false) → exec .routeCommit s = .next { s with dev := d }) ∧
    (∀ v d, s.dev.readyVecs = [v] → s.dev.route1 v = (d, false, true) →
      exec .routeCommit s = .next { s with dev := d.faults [⟨faultSrc 14 0, sevNotice, v, false⟩] })

/-- R9, R313, R361, R378, R381 to R389: accesses of the window and mailbox GO. A read answers with its data; an access of a
bad width or alignment is counted and, the first time, latched; a direct write of power-domain requests is honoured only
where direct writes of configuration are. Choices of the model in it: log entries 23, 71 and 72. -/
def Obligations.RegisterAccessesRun : Prop :=
  ∀ s : State, s.awake = true →
    (∀ a o n x, o < 0x4000000 → badShape o n = false → badDoorbell64 o n true = false →
      (s.served a o = true → exec (.registerWrite a o n x) s = .next (s.writeAt a o n (x % 2 ^ (8 * n)))) ∧
      (s.served a o = false → exec (.registerWrite a o n x) s = .next s)) ∧
    (∀ a o n, o < 0x4000000 → badShape o n = false →
      (s.served a o = true → exec (.rcRead a o n) s = .next { (s.readAt o n).2 with
        dev := (s.readAt o n).2.dev.emit (.readData o (s.readAt o n).1) }) ∧
      (s.served a o = false → exec (.rcRead a o n) s = .next { s with dev := s.dev.emit (.readData o 0) })) ∧
    (∀ a o n w, o < 0x4000000 → badShape o n = true → a ≠ .side → s.ctl.live = true → ∃ d,
      exec (.accessError a o n w) s = .next { s with dev := d } ∧
      d.get CPX_BAD_ACCESS.COUNT 0 = min (s.dev.get CPX_BAD_ACCESS.COUNT 0 + 1) (2 ^ CPX_BAD_ACCESS.COUNT.w - 1) ∧
      (s.dev.get CPX_ACCESS_ERR.VALID 0 = 0 → d.get CPX_ACCESS_ERR.VALID 0 = 1 ∧ d.get CPX_ACCESS_ERR.OFFSET 0 = o ∧
        d.get CPX_ACCESS_ERR.WRITE 0 = (if w then 1 else 0) ∧ d.get CPX_ACCESS_ERR.CAUSE 0 = 0) ∧
      (s.dev.get CPX_ACCESS_ERR.VALID 0 = 1 → d.get CPX_ACCESS_ERR.MORE 0 = 1 ∧
        d.get CPX_ACCESS_ERR.OFFSET 0 = s.dev.get CPX_ACCESS_ERR.OFFSET 0)) ∧
    (∀ v, s.ctl.live = true → v % 2 ^ 35 ≠ s.dev.get CPX_PD_CTL.REQ 0 →
      (s.ctl.honours = false → exec (.cpxPdCtlWrite v) s = .next { s with dev := s.dev.cfgIgnored 0x110 }) ∧
      (s.ctl.state = .imageLoad → exec (.cpxPdCtlWrite v) s = .next { s with
        dev := (if (s.dev.pdWrite (v % 2 ^ 35)).2 then (s.dev.pdWrite (v % 2 ^ 35)).1.cfgIgnored 0x110
          else (s.dev.pdWrite (v % 2 ^ 35)).1) })) ∧
    (∀ len, s.ctl.mboxServed = true → (s.dev.get CMP_MBOX_STATUS.STATE 0 = 0 ∨ s.dev.get CMP_MBOX_STATUS.STATE 0 = 3) → ∃ t,
      exec (.mboxGo len) s = .next t ∧ t.dev.get CMP_MBOX_CTL.CMD_LEN 0 = len % 2 ^ CMP_MBOX_CTL.CMD_LEN.w ∧
      t.dev.get CMP_MBOX_STATUS.STATE 0 = (if s.ctl.state = .powered then 1 else 2) ∧
      t.dev.get CMP_MBOX_STATUS.REPLY_LEN 0 = 0 ∧ t.mem = { s.mem with mboxReply := [] } ∧ t.ctl = s.ctl) ∧
    (∀ len, s.ctl.mboxServed = true → (s.dev.get CMP_MBOX_STATUS.STATE 0 = 1 ∨ s.dev.get CMP_MBOX_STATUS.STATE 0 = 2) → ∃ t,
      exec (.mboxGo len) s = .next t ∧ t.dev.get CMP_MBOX_STATUS.GO_IGNORED 0 = 1 ∧ t.mem = s.mem ∧
      t.dev.get CMP_MBOX_STATUS.STATE 0 = s.dev.get CMP_MBOX_STATUS.STATE 0)

/-- R341 to R343, R348 to R356: reactions, SAFE, lock-up, capture and release, from the fault desk, the side path and the
IMPR instrument. Choices of the model in it: log entries 29, 30 and 76. -/
def Obligations.DeskAndLockupEventsRun : Prop :=
  ∀ s : State,
    (∀ r l, s.clocked = true → s.dev.desk.reacts = r :: l → exec .faultReaction s = .next { s with
      dev := (({ s.dev with desk := { s.dev.desk with reacts := l } } : Dev).reactDo r) }) ∧
    (s.clocked = true → s.dev.get FLT_STATUS.ENTERING 0 = 1 → (s.ctl.state = .ready ∨ s.ctl.state = .running) → ∃ t,
      exec .safeEntry s = .next t ∧ t.ctl.state = .safe ∧ t.ctl.mode = s.ctl.mode ∧ t.ctl.switching = none ∧
      t.dev.get FLT_STATUS.SAFE 0 = 1 ∧ t.dev.get FLT_STATUS.ENTERING 0 = 0) ∧
    (s.clocked = true → s.ctl.state = .safe → s.dev.get FLT_STATUS.HELD 0 = 0 → s.dev.capHolds = true → ∃ d,
      exec .safeExit s = .next { s with dev := d } ∧ d.get FLT_STATUS.HELD 0 = 1 ∧ d.get FLT_STATUS.QUIET_LEFT_MS 0 = 0 ∧
      d.get FLT_SAFE_HELD.COUNT 0 = min (s.dev.get FLT_SAFE_HELD.COUNT 0 + 1) (2 ^ FLT_SAFE_HELD.COUNT.w - 1)) ∧
    (s.clocked = true → s.ctl.state = .safe → s.dev.get FLT_STATUS.HELD 0 = 0 → s.dev.capHolds = false → ∃ t,
      exec .safeExit s = .next t ∧ t.ctl = { s.ctl with state := if s.ctl.mode.isSome then .running else .ready } ∧
      t.dev.get FLT_STATUS.SAFE 0 = 0 ∧ t.dev.get FLT_STATUS.QUIET_LEFT_MS 0 = 0 ∧ t.dev.desk.exits.length ≤ 15) ∧
    (∀ c l, s.awake = true → s.dev.desk.trigs = c :: l → s.ctl.state ≠ .locked → ∃ t, exec .lockupEntry s = .next t ∧
      t.ctl = { s.ctl with lockFrom := some (s.ctl.state.code, s.ctl.modeCode, c), state := .locked } ∧ t.mem = s.mem ∧
      t.dev.desk.trigs = [] ∧ t.dev.get LCK_STATUS.LOCKED 0 = 1 ∧
      t.dev.get LCK_STATUS.LOCKUPS 0 = min (s.dev.get LCK_STATUS.LOCKUPS 0 + 1) (2 ^ LCK_STATUS.LOCKUPS.w - 1) ∧
      (s.dev.get LCK_CFG.CAPTURE_EN 0 = 1 → s.dev.get LCK_CFG.KEEP_FIRST 0 = 0 → t.dev.get LCK_STATUS.CAPTURING 0 = 1) ∧
      (s.dev.get LCK_CFG.CAPTURE_EN 0 = 1 → s.dev.get LCK_CFG.KEEP_FIRST 0 = 1 → s.dev.get LCK_STATUS.VALID 0 = 1 →
        t.dev.get LCK_STATUS.DISCARD_SEEN 0 = 1 ∧ t.dev.get LCK_STATUS.CAPTURING 0 = s.dev.get LCK_STATUS.CAPTURING 0)) ∧
    (∀ a b c, s.awake = true → s.ctl.state = .locked → s.dev.get LCK_STATUS.CAPTURING 0 = 1 → s.ctl.lockFrom = some (a, b, c) → ∃ t,
      exec .captureComplete s = .next t ∧ t.ctl = s.ctl ∧ t.dev.get LCK_STATUS.CAPTURING 0 = 0 ∧ t.dev.get LCK_STATUS.VALID 0 = 1 ∧
      t.dev.get LCK_STATUS.CAUSE 0 = c % 8 ∧ t.mem.impression = cellsOf 0 (byteList s.impressionBytes) ∧ t.mem.flash = s.mem.flash) ∧
    (s.awake = true → s.ctl.state = .locked → s.dev.get LCK_STATUS.CAPTURING 0 = 0 → s.dev.get LCK_CFG.AUTO_RELEASE_MS 0 ≠ 0 →
      exec .autoRelease s = .next { s with ctl := { s.ctl with release := true } }) ∧
    (s.awake = true → s.ctl.state = .locked → s.ctl.release = true → s.dev.get LCK_STATUS.CAPTURING 0 = 0 →
      (s.dev.get LCK_CFG.PIN_EN 0 = 0 ∨ s.dev.get EVC_SB_MISC.LOCKUP 0 = 0) → ∃ t, exec .lockupRelease s = .next t ∧
      t.ctl = { s.ctl with state := .powered, mode := none, pll := false, switching := none, release := false, lockFrom := none } ∧
      t.dev.get CPX_START.STEP 0 = 2 ∧ t.dev.get CPX_START.CAUSE 0 = 3 ∧ t.dev.get LCK_STATUS.LOCKED 0 = 0 ∧
      t.dev.get LCK_STATUS.VALID 0 = s.dev.get LCK_STATUS.VALID 0 ∧ t.mem.impression = s.mem.impression) ∧
    (∀ d, s.awake = true → s.ctl.state ≠ .locked → s.dev.get LCK_CFG.SIDE_EN 0 = 1 → d = s.dev.askLockup 4 →
      exec .lckSideTrigger s = .next { s with dev := d } ∧ 4 ∈ d.desk.trigs ∧ d.f = s.dev.f) ∧
    (s.awake = true → (s.ctl.state = .locked ∨ s.dev.get LCK_CFG.SIDE_EN 0 = 0) → exec .lckSideTrigger s = .next s) ∧
    (∀ d, s.awake = true → s.ctl.state ≠ .locked → s.dev.get LCK_CFG.TAP_EN 0 = 1 → d = s.dev.askLockup 5 →
      exec .imprTrigger s = .next { s with dev := d } ∧ 5 ∈ d.desk.trigs ∧ d.f = s.dev.f) ∧
    (s.awake = true → (s.ctl.state = .locked ∨ s.dev.get LCK_CFG.TAP_EN 0 = 0) → exec .imprTrigger s = .next s) ∧
    (s.awake = true → s.ctl.state = .locked → exec .lckSideRelease s = .next { s with ctl := { s.ctl with release := true } }) ∧
    (s.awake = true → s.ctl.state ≠ .locked → exec .lckSideRelease s = .next s) ∧
    (s.awake = true → s.ctl.state = .locked → exec .imprRelease s = .next { s with ctl := { s.ctl with release := true } }) ∧
    (s.awake = true → s.ctl.state ≠ .locked → exec .imprRelease s = .next s) ∧
    (s.awake = true → exec .lckSideClear s = .next { s with dev := s.dev.put LCK_STATUS.VALID 0 0 }) ∧
    (s.awake = true → exec .imprClear s = .next { s with dev := s.dev.put LCK_STATUS.VALID 0 0 }) ∧
    (∀ a, s.awake = true → s.dev.get LCK_STATUS.CAPTURING 0 = 0 → exec (.imprData (some a)) s = .next { s with
      dev := ((s.dev.put X.IMPR_ADDR 0 (a % 2 ^ 15 + 1)).emit (.readData (0x3640000 + 8 * (a % 2 ^ 15))
        (ofLeBytes (nats (getCells s.mem.impression (8 * (a % 2 ^ 15)) 8 0))))) }) ∧
    (s.awake = true → s.dev.get LCK_STATUS.CAPTURING 0 = 0 → exec (.imprData none) s = .next { s with
      dev := ((s.dev.put X.IMPR_ADDR 0 (s.dev.get X.IMPR_ADDR 0 + 1)).emit (.readData (0x3640000 + 8 * s.dev.get X.IMPR_ADDR 0)
        (ofLeBytes (nats (getCells s.mem.impression (8 * s.dev.get X.IMPR_ADDR 0) 8 0))))) })

/-- A step takes the command at the front of the queue and runs it on the state with the rest of the queue; with no command
waiting it runs one TCLK tick where TCLK runs, in which the timebase advances and the lanes send, and changes nothing
elsewhere (the tick on an empty queue is the model's own choice, log entry 3). -/
def Obligations.StepRunsFrontCommand : Prop :=
  (∀ (c : Instr) (l : List Instr) (s : State), s.pending = c :: l → step s = exec c { s with pending := l }) ∧
  (∀ s : State, s.pending = [] → (s.awake = true → s.ctl.clocked = true → step s = .next { s with dev := s.dev.tick.sendAll s.ctl }) ∧
    (s.awake = false ∨ s.ctl.clocked = false → step s = .next s))

/-- While CHIP_REF is present and has not been lost since the last chip reset, every command in every state has a next
state, with the queue as it was; no command is ever refused. Choices of the model in it: log entries 4 and 5. -/
def Obligations.EveryCommandCompletes : Prop :=
  (∀ (i : Instr) (s : State), s.ctl.chipRef = true → s.ctl.refLost = false → ∃ t, exec i s = .next t ∧ t.pending = s.pending) ∧
  (∀ (i : Instr) (s : State) r, exec i s ≠ .refused r)

/-- Every step keeps the buffers in their canonical form: rising addresses, nothing listed that an unlisted address reads
as. -/
def Obligations.MemoryFormKept : Prop :=
  ∀ s t : State, Memory.wf s.mem = true → step s = .next t → Memory.wf t.mem = true

/-- R360: with nothing powered, no clock runs, the complex is POWERED, every field reads its reset value, every power domain
is OFF and no command waits; the invariants hold there. Choices of the model in it: log entry 8. -/
def Obligations.ResetHolds : Prop :=
  State.reset.ctl.state = .powered ∧ State.reset.awake = false ∧ State.reset.pending = [] ∧ State.reset.dev.out = [] ∧
  (∀ F i, State.reset.dev.get F i = F.rstAt i) ∧ (∀ k, (State.reset.dev.pd k).st = 0) ∧
  (∀ a, Tab.get State.reset.mem.mboxCmd a 0 = 0 ∧ Tab.get State.reset.mem.mboxReply a 0 = 0 ∧
    Tab.get State.reset.mem.impression a 0 = 0) ∧
  Memory.wf State.reset.mem = true ∧ Ctl.coherent State.reset.ctl = true

/-- R8: every step keeps what the complex state and the mode say of each other. -/
def Obligations.CoherenceKept : Prop :=
  ∀ s t : State, Ctl.coherent s.ctl = true → step s = .next t → Ctl.coherent t.ctl = true

/-- R8, R348, R349, R352, R355, R360: the complex state changes only as start-up, mode switches, SAFE, lock-up and resets
let it; a mode that is in force changes only with a mode switch, or is lost with a complex reset or the supply. Choices of
the model in it: log entry 19. -/
def Obligations.ComplexStateMoves : Prop :=
  ∀ (i : Instr) (s t : State), Ctl.coherent s.ctl = true → exec i s = .next t →
    CpxState.moves s.ctl.state t.ctl.state = true ∧
    (t.ctl.mode = s.ctl.mode ∨ t.ctl.state = .powered ∨
      (i = .modeSwitchCommit ∨ i = .startModeSwitch ∨ ∃ p, i = .modeSet p))

/-- R352, R354, R382: while LOCKED, only the side path, the test access port, the island's own checkers, filters and resets
can change anything. Accesses of the host bridge and the management processor read 0 and their writes are ignored. Choices
of the model in it: log entries 16 and 30. -/
def Obligations.LockedCommandsHeld : Prop :=
  ∀ s : State, s.awake = true → s.ctl.state = .locked →
    (∀ i, actsLocked i = false → exec i s = .next s) ∧
    (∀ a o n x, a ≠ .side → exec (.registerWrite a o n x) s = .next s) ∧
    (∀ a o n, a ≠ .side → o < 0x4000000 →
      exec (.rcRead a o n) s = .next { s with dev := s.dev.emit (.readData o 0) }) ∧
    (∀ o n x, o < 0x3600000 → ¬(0x200 ≤ o ∧ o < 0x208) → exec (.registerWrite .side o n x) s = .next s)

/-- R316, R325 to R328, R353: flash changes only with the commands that write an image copy, the impression only with a
capture or the island's supply, and the mailbox command buffer only with a register write or a reset that ends in POWERED.
Choices of the model in it: log entry 29. -/
def Obligations.BuffersIsolated : Prop :=
  ∀ (i : Instr) (s t : State), exec i s = .next t →
    (writesFlash i = false → t.mem.flash = s.mem.flash) ∧
    (writesImpression i = false → t.mem.impression = s.mem.impression) ∧
    (t.ctl.state ≠ .powered → (∀ a o n x, i ≠ .registerWrite a o n x) → t.mem.mboxCmd = s.mem.mboxCmd)

/-- R9: outside SERVICE and IMAGE_LOAD no register write changes a configuration field, whatever it does. -/
def Obligations.ConfigurationProtected : Prop :=
  ∀ (a : Agent) (o n x : Nat) (s t : State) (F : Fld) (j : Nat), F ∈ allFlds → F.cfg = true → s.ctl.state ≠ .imageLoad →
    ¬(s.ctl.state = .running ∧ s.ctl.mode = some .service) → exec (.registerWrite a o n x) s = .next t →
    t.dev.get F j = s.dev.get F j

/-- R352, R361, R381, R382: where a read is served; one that is not returns 0 and changes nothing. Choices of the model in
it: log entry 74. -/
def Obligations.ServedOffsets : Prop :=
  ∀ (s : State) (o : Nat), o < 0x4000000 →
    (∀ n a, s.awake = true → s.served a o = false → badShape o n = false →
      exec (.rcRead a o n) s = .next { s with dev := s.dev.emit (.readData o 0) }) ∧
    (s.served .side o = true ↔ (0x200 ≤ o ∧ o < 0x208) ∨ (0x3600000 ≤ o ∧ o < 0x3680000)) ∧
    (∀ a, a ≠ .side →
      (s.ctl.state = .locked → s.served a o = false) ∧
      (s.ctl.state = .powered → (s.served a o = true ↔ (0x200 ≤ o ∧ o < 0x208) ∨
        (s.ctl.pll = true ∧ s.ctl.d34 = true ∧ ((0x3200008 ≤ o ∧ o < 0x3200014) ∨ (0x3202000 ≤ o ∧ o < 0x3204000) ∨
          (0x3210000 ≤ o ∧ o < 0x3220000))))) ∧
      (s.ctl.live = true → (s.served a o = true ↔ ¬(0x2C00000 ≤ o ∧ o < 0x2C40000) ∨ s.dev.pdOn 33 = true)))

/-- R376: the block of every numbered object lies at its base in Table 134: the offset base + k names offset k of the
object's block. A block of a port exists where the port is configured. -/
def Obligations.RegisterBlocksAt : Prop :=
  ∀ (d : Dev),
    (∀ b k, b < 16 → k < 0x100 → d.slotOf (0x1000000 + b * 0x100000 + 0x80000 + k) = .reg .bank b k) ∧
    (∀ e k, e < 128 → 0xC000 ≤ k → k < 0xC008 → d.slotOf (0x1000000 + e * 0x10000 + e / 8 * 0x80000 + k) = .reg .eight e k) ∧
    (∀ n k, n < 1024 → k < 0x800 →
      d.slotOf (0x1000000 + n / 8 * 0x10000 + n / 64 * 0x80000 + n % 8 * 0x1000 + k) = .reg .lane n k) ∧
    (∀ p k, d.isLanePort p = true → k < 0x800 →
      d.slotOf (0x1000000 + p / 8 * 0x10000 + p / 64 * 0x80000 + p % 8 * 0x1000 + 0x800 + k) = .reg .pcs p k ∧
      d.slotOf (0x1000000 + p / 8 * 0x10000 + p / 64 * 0x80000 + 0x8000 + p % 8 * 0x800 + k) = .reg .mac p k) ∧
    (∀ p k, 1024 ≤ p → p < 1032 → k < 0x800 → d.slotOf (0x80000 + (p - 1024) * 0x800 + k) = .reg .mac p k) ∧
    (∀ n k, n < 1024 → k < 0x18 → (8 ≤ k ∧ k < 16 ∨ d.isLanePort n = true) →
      d.slotOf (0x1000000 + n / 8 * 0x10000 + n / 64 * 0x80000 + 0xC040 + n % 8 * 0x18 + k) = .reg .launch n k) ∧
    (∀ p c k, d.isLanePort p = true → c < 16 →
      (k < 0x100 → d.slotOf (0x2040000 + p * 0x100 + k) = .reg .galport p k) ∧
      (k < 0x40 → d.slotOf (0x2100000 + (p * 16 + c) * 0x40 + k) = .reg .galclass (p * 16 + c) k) ∧
      (k < 0x80 → d.slotOf (0x2430000 + p * 0x80 + k) = .reg .gateport p k) ∧
      (k < 0x20 → d.slotOf (0x2460000 + (p * 16 + c) * 0x20 + k) = .reg .gateclass (p * 16 + c) k)) ∧
    (∀ p c k, d.isPort p = true → c < 16 →
      (k < 0x40 → d.slotOf (0x2201000 + p * 0x40 + k) = .reg .coxport p k) ∧
      (k < 0x20 → d.slotOf (0x2220000 + (p * 16 + c) * 0x20 + k) = .reg .coxclass (p * 16 + c) k) ∧
      (k < 0x40 → d.slotOf (0x2410000 + p * 0x40 + k) = .reg .timport p k)) ∧
    (∀ n k, (n < 16384 → k < 0x40 → d.slotOf (0x2300000 + n * 0x40 + k) = .reg .ptn n k) ∧
      (n < 1024 → k < 8 → d.slotOf (0x2404000 + n * 8 + k) = .reg .lat n k) ∧
      (n < 16 → k < 0x100 → d.slotOf (0x2601000 + n * 0x100 + k) = .reg .eng n k) ∧
      (n < 64 → k < 0x40 → d.slotOf (0x2610000 + n * 0x40 + k) = .reg .prof n k) ∧
      (n < 16384 → k < 0x40 → d.slotOf (0x2640000 + n * 0x40 + k) = .reg .record n k) ∧
      (n < 64 → 0x200 ≤ k → k < 0x400 → d.slotOf (0x2810000 + n * 0x400 + k) = .reg .fn n k) ∧
      (n < 64 → k < 0x200 → d.slotOf (0x2810000 + n * 0x400 + k) = .reg .ring (8192 + 4 * n + k / 0x80) (k % 0x80)) ∧
      (n < 4096 → k < 0x80 → d.slotOf (0x2820000 + n * 0x80 + k) = .reg .ring (ringTx n) k ∧
        d.slotOf (0x2900000 + n * 0x80 + k) = .reg .ring (ringRx n) k)) ∧
    (∀ n k, (n < 64 → k < 0x1000 → d.slotOf (0x2C00000 + n * 0x1000 + k) = .reg .page n k) ∧
      (n < 256 → k < 0x40 → d.slotOf (0x3010000 + n * 0x40 + k) = .reg .tgt n k) ∧
      (n < 64 → k < 0x20 → d.slotOf (0x3018000 + n * 0x20 + k) = .reg .tset n k) ∧
      (n < 1024 → k < 0x40 → d.slotOf (0x3020000 + n * 0x40 + k) = .reg .vec n k) ∧
      (n < 65536 → k < 4 → d.slotOf (0x3040000 + n * 4 + k) = .reg .srccfg n k) ∧
      (n < 65536 → k < 8 → d.slotOf (0x3080000 + n * 8 + k) = .reg .srcstat n k))

/-- R344: a fault opens the record when VALID is 0, or VALID is 1 and ACKED is 1, and no SAFE entry is in progress; opening
writes the record. Where one of these does not hold, the fault is merged: the record's fault is not overwritten. -/
def Obligations.FaultOpensRecord : Prop :=
  ∀ (d : Dev) (r : Raised) (cls : Nat), faultClass r.src = some cls → r.sev < 4 → r.info < 2 ^ 32 →
    d.tim.sec < 2 ^ 48 → d.tim.acc < secUnits →
    (d.get FLT_REC_STATUS.VALID 0 = 0 ∨ d.get FLT_REC_STATUS.VALID 0 = 1 ∧ d.get FLT_REC_STATUS.ACKED 0 = 1 →
      d.get FLT_STATUS.ENTERING 0 = 0 →
      (d.faults [r]).get FLT_REC_STATUS.SOURCE 0 = r.src ∧ (d.faults [r]).get FLT_REC_INFO.INFO 0 = r.info ∧
      (d.faults [r]).get FLT_REC_STATUS.INJECTED 0 = (if r.inj then 1 else 0) ∧
      (d.faults [r]).get FLT_REC_STATUS.SEV 0 = r.sev ∧ (d.faults [r]).get FLT_REC_STATUS.PEAK_SEV 0 = r.sev ∧
      (d.faults [r]).get FLT_REC_STATUS.MERGE_COUNT 0 = 0 ∧ (d.faults [r]).get FLT_REC_MERGE_MAP.MAP 0 = 0 ∧
      (d.faults [r]).get FLT_REC_TIME_SEC.SECONDS 0 = d.tim.sec ∧
      (d.faults [r]).get FLT_REC_TIME_NS.NANOSECONDS 0 = d.tim.acc / 2 ^ 50 ∧
      (d.faults [r]).get FLT_REC_TIME_NS.FRAC_NS 0 = d.tim.acc / 2 ^ 34 % 2 ^ 16 ∧
      (d.faults [r]).get FLT_REC_TIME_NS.TS_VALID 0 = (if d.get TIM_CTL.EN 0 = 1 then 1 else 0) ∧
      (d.faults [r]).get FLT_REC_STATUS.VALID 0 = 1 ∧ (d.faults [r]).get FLT_REC_STATUS.ACKED 0 = 0) ∧
    (d.get FLT_REC_STATUS.VALID 0 = 1 ∧ d.get FLT_REC_STATUS.ACKED 0 = 0 ∨ d.get FLT_STATUS.ENTERING 0 = 1 →
      (d.faults [r]).get FLT_LOG_LO.MERGED (d.get FLT_LOG_HEAD.HEAD 0 % 64) = 1 ∧
      ∀ F ∈ [FLT_REC_STATUS.SOURCE, FLT_REC_STATUS.SEV, FLT_REC_STATUS.INJECTED, FLT_REC_STATUS.VALID, FLT_REC_STATUS.ACKED,
        FLT_REC_INFO.INFO, FLT_REC_TIME_SEC.SECONDS, FLT_REC_TIME_NS.NANOSECONDS, FLT_REC_TIME_NS.FRAC_NS,
        FLT_REC_TIME_NS.TS_VALID], (d.faults [r]).get F 0 = d.get F 0)

/-- R340 to R343, R346, R348: every fault is counted and logged; a merged one adds to the record's map, count and peak
severity; a fault's reaction byte starts its local reactions, a lock-up, or SAFE entry where no lock-up of the same cycle
supersedes it. Choices of the model in it: log entry 76. -/
def Obligations.FaultCountedMergedReacted : Prop :=
  ∀ (d e : Dev) (r : Raised) (cls : Nat), faultClass r.src = some cls → r.sev < 4 → e = d.faults [r] →
    (e.get FLT_CNT.COUNT cls = min (d.get FLT_CNT.COUNT cls + 1) (2 ^ FLT_CNT.COUNT.w - 1) ∧
      e.get FLT_LOG_HEAD.HEAD 0 = (d.get FLT_LOG_HEAD.HEAD 0 + 1) % 2 ^ 32 ∧
      e.get FLT_LOG_LO.SOURCE (d.get FLT_LOG_HEAD.HEAD 0 % 64) = r.src ∧
      e.get FLT_LOG_LO.SEV (d.get FLT_LOG_HEAD.HEAD 0 % 64) = r.sev) ∧
    (d.get FLT_REC_STATUS.VALID 0 = 1 ∧ d.get FLT_REC_STATUS.ACKED 0 = 0 ∨ d.get FLT_STATUS.ENTERING 0 = 1 →
      bitAt (e.get FLT_REC_MERGE_MAP.MAP 0) cls = true ∧
      e.get FLT_REC_STATUS.MERGE_COUNT 0 = min (d.get FLT_REC_STATUS.MERGE_COUNT 0 + 1) 65535 ∧
      e.get FLT_REC_STATUS.PEAK_SEV 0 = max (d.get FLT_REC_STATUS.PEAK_SEV 0) r.sev % 4 ∧
      e.get FLT_STATUS.FAULT_SEEN 0 = d.get FLT_STATUS.FAULT_SEEN 0) ∧
    (d.reactByte cls r.sev / 2 % 8 ≠ 0 → e.desk.reacts = d.desk.reacts ++ [⟨r.src, d.reactByte cls r.sev⟩]) ∧
    (d.reactByte cls r.sev / 2 % 8 = 0 → e.desk.reacts = d.desk.reacts) ∧
    (bitAt (d.reactByte cls r.sev) 5 = true → 1 ∈ e.desk.trigs ∧
      e.get FLT_STATUS.ENTERING 0 = d.get FLT_STATUS.ENTERING 0) ∧
    (bitAt (d.reactByte cls r.sev) 5 = false → e.desk.trigs = d.desk.trigs ∧
      (bitAt (d.reactByte cls r.sev) 4 = true → d.get FLT_STATUS.SAFE 0 = 0 →
        (d.get X.CMP_READY 0 = 1 → e.get FLT_STATUS.ENTERING 0 = 1) ∧ (d.get X.CMP_READY 0 = 0 → e.cmp.safeHeld = true)))

/-- The frame of faults and of the event controller's commands: nothing changes but the fault desk, event state, cause bits
and, for the commands, the vectors, targets and messages; no record of a lane, port, frame, class, ring or command changes.
-/
def Obligations.FaultAndEventFrames : Prop :=
  (∀ (d : Dev) (l : List Raised), Dev.keeps faultIds d (d.faults l) ∧ (d.faults l).desk.exits = d.desk.exits ∧
    d.faults l = { d with
      f := (d.faults l).f
      desk := (d.faults l).desk
      cmp := { d.cmp with safeHeld := (d.faults l).cmp.safeHeld } }) ∧
  (∀ (i : Instr) (s t : State), evcCommand i = true → exec i s = .next t → Dev.keeps evcIds s.dev t.dev ∧ t = { s with
    dev := { s.dev with
      f := t.dev.f
      desk := t.dev.desk
      out := t.dev.out
      free := t.dev.free
      cmp := { s.dev.cmp with safeHeld := t.dev.cmp.safeHeld } } })

/-- R300, R306: a command with DRY_RUN that passes steps 1 to 7 is judged and answered as it would be, counted as a dry run,
and commits nothing. -/
def Obligations.DryRunCommitsNothing : Prop :=
  ∀ (s s1 s2 : State) (k : KSpec) (p : Pkt) (t : Ticket), s.clocked = true → s.take k.opcode p = (s1, some t) →
    s1.dev.ending = false → k.preCheck s1.cx p s1.dev = none → p.dryRun = true →
    s2 = { s1 with dev := s1.dev.inc CMP_DRY_RUNS.COUNT 0 } →
    (∀ x, k.judge s2.cx p s2.dev = .ok x → s.kiland k p = .next (s2.reply t 0 0 x.body)) ∧
    (∀ r, k.judge s2.cx p s2.dev = .error r → s.kiland k p = .next (s2.refuse k t r))

/-- R302 to R306: what a reply, a refusal's included, leaves unchanged: the complex state, flash, the impression and the
packet buffer, every field but the reply counters, the mailbox status and the reply ring's, every record but those of rings.
-/
def Obligations.ReplyFrame : Prop :=
  ∀ (s e : State) (t : Ticket) (status detail : Nat) (body : List Nat), e = s.reply t status detail body →
    e.ctl = s.ctl ∧ e.pending = s.pending ∧ e.mem = { s.mem with mboxReply := e.mem.mboxReply } ∧
    Dev.keeps replyIds s.dev e.dev ∧
    e.dev = { s.dev with
      f := e.dev.f
      rings := e.dev.rings
      out := e.dev.out
      cmp := { s.dev.cmp with barrier := e.dev.cmp.barrier } } ∧
    e.dev.get CMP_CMDS.COUNT 0 ≥ min (s.dev.get CMP_CMDS.COUNT 0 + 1) (2 ^ CMP_CMDS.COUNT.w - 1)

/-- R302, R303, R313, Table 101: the reply the mailbox buffer holds: a header with SEQ, OPCODE, STATUS, the complex state
and mode, DETAIL, BODY_LEN and the CRC-32C of header and body, then the body; the mailbox goes to DONE. -/
def Obligations.MailboxReplyFormed : Prop :=
  ∀ (s e : State) (t : Ticket) (status detail : Nat) (body b : List Nat), 64 ≤ t.issuer → s.dev.cmp.barrier = none →
    e = s.reply t status detail body → b = replyBytes s.ctl t status detail body →
    (∀ i v, b[i]? = some v → (Tab.get e.mem.mboxReply i 0).toNat = v % 256) ∧
    e.dev.get CMP_MBOX_STATUS.STATE 0 = 3 ∧ e.dev.get CMP_MBOX_STATUS.DONE_SEEN 0 = 1 ∧
    e.dev.get CMP_MBOX_STATUS.REPLY_LEN 0 = (16 + 8 * body.length) % 2 ^ CMP_MBOX_STATUS.REPLY_LEN.w ∧
    ofLeBytes (b.take 4) = t.seq % 2 ^ 32 ∧ ofLeBytes ((b.drop 4).take 2) = t.opcode % 2 ^ 16 ∧
    ofLeBytes ((b.drop 6).take 2) = status % 16 + s.ctl.state.code * 16 + s.ctl.modeCode * 256 ∧
    ofLeBytes ((b.drop 8).take 2) = detail % 2 ^ 16 ∧ ofLeBytes ((b.drop 10).take 2) = 8 * body.length % 2 ^ 16 ∧
    ofLeBytes ((b.drop 12).take 4) = crcOf crc32c (b.take 12 ++ b.drop 16) % 2 ^ 32 ∧
    b.drop 16 = body.flatMap fun w => leBytes w 8

/-- R9, R302: configuration fields a command writes read back the values written, held to their widths, and every other
field keeps its value. -/
def Obligations.EditsReadBack : Prop :=
  ∀ (d : Dev) (l : List Edit), d.cmp.quiesce = false → l.Pairwise (fun a b => ¬(a.1.id = b.1.id ∧ a.2.1 = b.2.1)) →
    (∀ e ∈ l, (d.edit l).get e.1 e.2.1 = e.2.2 % 2 ^ e.1.w) ∧
    (∀ (G : Fld) (j : Nat), (∀ e ∈ l, ¬(e.1.id = G.id ∧ e.2.1 = j)) → (d.edit l).get G j = d.get G j) ∧
    d.edit l = { d with f := (d.edit l).f }

/-- R14: a counter saturates at its maximum and does not wrap; ring indices wrap modulo 2^32. -/
def Obligations.CountersSaturate : Prop :=
  (∀ (d : Dev) (F : Fld) (i n : Nat), (d.add F i n).get F i = min (d.get F i + n) (2 ^ F.w - 1) ∧
    (d.get F i ≤ 2 ^ F.w - 1 → d.get F i ≤ (d.add F i n).get F i) ∧
    (∀ G j, (G.id ≠ F.id ∨ j ≠ i) → (d.add F i n).get G j = d.get G j)) ∧
  (∀ (d : Dev) (r n : Nat), (d.nextUp r n).get RING_PROGRESS.NEXT r = (d.get RING_PROGRESS.NEXT r + n) % 2 ^ 32 ∧
    (d.publish r).get RING_STATE.HW_INDEX r = (d.get RING_STATE.HW_INDEX r + (d.ring r).unpub) % 2 ^ 32)

/-- R12, R29, R30: a read of an RC field clears it; one whose source is in an eight domain gives its mirror and takes that
value off the source, so that what was counted since the mirror was taken is not lost. Choices of the model in it: log
entries 12 and 13. -/
def Obligations.RcReadsSubtract : Prop :=
  ∀ (d : Dev) (F : Fld) (i n : Nat),
    (mirrored F = false → (d.rcClear F i).get F i = 0) ∧
    (mirrored F = true → (d.rcClear F i).get F i = (d.get F i - d.mirror F i) % 2 ^ F.w ∧ (d.rcClear F i).mirror F i = 0) ∧
    (mirrored F = true → d.get F i < 2 ^ F.w →
      (((d.mirrorOne i F).add F i n).rcClear F i).get F i = min (d.get F i + n) (2 ^ F.w - 1) - d.get F i) ∧
    (∀ G j, (G.id ≠ F.id ∨ j ≠ i) → (d.rcClear F i).get G j = d.get G j ∧ (d.rcClear F i).mirror G j = d.mirror G j)

/-- R147, R367: the XOFF state of a GALLEY or CORE class follows its hysteresis on the occupancy, its thresholds and
staleness, a GALLEY class standing at XOFF_TH while a channel is FAILED and the galley out of service; a
rise sets XOFF_SEEN, and no other class changes its state. Choices of the model in it: log entry 52. -/
def Obligations.HysteresisRight : Prop :=
  ∀ (d : Dev) (pc occ hi lo : Nat) (stale : Bool),
    (d.fcMode pc = fcGalley ∧ occ = (if d.keys GAL_CH_STATUS.FAILED ≠ [] ∧ d.get GAL_STATUS.IN_SERVICE 0 ≠ 1 then
        d.get GAL_PC_XOFF.XOFF_TH pc else d.get GAL_PC_STATUS.OCCUPANCY pc) ∧ hi = d.get GAL_PC_XOFF.XOFF_TH pc ∧
      lo = d.get GAL_PC_XON.XON_TH pc ∧ stale = false) ∨
    (d.fcMode pc = fcCore ∧ occ = (d.gal pc).report.getD 0 ∧ hi = 1024 * d.get GAL_PC_CORE.CORE_XOFF_KIB pc ∧
      lo = 1024 * d.get GAL_PC_CORE.CORE_XON_KIB pc ∧ stale = (d.gal pc).stale) →
    (d.get GAL_PC_STATUS.XOFF pc = 0 → (hi ≤ occ ∨ stale = true) →
      (d.hyst pc).get GAL_PC_STATUS.XOFF pc = 1 ∧ (d.hyst pc).get GAL_PC_STATUS.XOFF_SEEN pc = 1) ∧
    (d.get GAL_PC_STATUS.XOFF pc = 0 → occ < hi → stale = false → d.hyst pc = d) ∧
    (d.get GAL_PC_STATUS.XOFF pc = 1 → occ < lo → stale = false → (d.hyst pc).get GAL_PC_STATUS.XOFF pc = 0) ∧
    (d.get GAL_PC_STATUS.XOFF pc = 1 → (lo ≤ occ ∨ stale = true) → d.hyst pc = d) ∧
    (∀ qc, qc ≠ pc → (d.hyst pc).get GAL_PC_STATUS.XOFF qc = d.get GAL_PC_STATUS.XOFF qc)

/-- R287, R289: a vector commits only to an enabled target of its set that accepts it, and where the set holds one and
routing is round robin it commits; with lowest-priority routing to the member of lowest CUR_PRIO, ties to the lower
number. A claim takes the vector SENT to the target with the highest priority at its commit, above the target's
in-service priority, ties to the lower number. Choices of the model in it: log entry 47. -/
def Obligations.RoutingAndClaimRight : Prop :=
  ∀ (d : Dev),
    (∀ v t, d.routeTarget v = some t → d.accepts t v = true ∧ t ∈ d.setTargets (d.get EVC_VEC_CFG.TSET v) ∧
      (d.get EVC_VEC_CFG.ROUTE v ≠ 0 → ∀ u ∈ d.setTargets (d.get EVC_VEC_CFG.TSET v),
        d.get EVC_TGT_PRIO.CUR_PRIO t < d.get EVC_TGT_PRIO.CUR_PRIO u ∨
        d.get EVC_TGT_PRIO.CUR_PRIO t = d.get EVC_TGT_PRIO.CUR_PRIO u ∧ t ≤ u)) ∧
    (∀ v t, d.get EVC_VEC_CFG.ROUTE v = 0 → t ∈ d.setTargets (d.get EVC_VEC_CFG.TSET v) → d.accepts t v = true →
      (d.routeTarget v).isSome = true) ∧
    (∀ t v, Tab.wf (d.f.get EVC_VEC_STATUS.STATE.id []) 0 = true → d.claimVec t = some v →
      d.get EVC_VEC_STATUS.STATE v = 3 ∧ d.get EVC_VEC_STATUS.TARGET v = t ∧ d.get EVC_TGT_CFG.ENABLE t = 1 ∧
      d.isPrio t < d.get X.EVC_PRIO v ∧
      ∀ u, d.get EVC_VEC_STATUS.STATE u = 3 → d.get EVC_VEC_STATUS.TARGET u = t → d.isPrio t < d.get X.EVC_PRIO u →
        d.get X.EVC_PRIO u ≤ 15 →
        d.get X.EVC_PRIO u < d.get X.EVC_PRIO v ∨ (d.get X.EVC_PRIO u = d.get X.EVC_PRIO v ∧ v ≤ u)) ∧
    (∀ t u, d.claimVec t = none → d.get EVC_TGT_CFG.ENABLE t = 1 → d.get EVC_VEC_STATUS.STATE u = 3 →
      d.get EVC_VEC_STATUS.TARGET u = t → d.get X.EVC_PRIO u ≤ 15 → d.get X.EVC_PRIO u ≤ d.isPrio t)

/-- R35, R38: a reset request whose scope a reset in progress contains is absorbed; any other takes the place of the resets
it contains, so that no reset in progress contains another. A power-up asked of a DRAINING domain, and a power-down asked of
a POWERING one, wait. -/
def Obligations.ResetsAndDomainsOrdered : Prop :=
  ∀ (d : Dev),
    (∀ s, (∃ r ∈ d.resets, r.holds s = true) → d.resetAsk s = d) ∧
    (∀ s, (∀ r ∈ d.resets, r.holds s = false) → s ∈ (d.resetAsk s).resets ∧
      ∀ r, r ≠ s → (r ∈ (d.resetAsk s).resets ↔ r ∈ d.resets ∧ s.holds r = false)) ∧
    (∀ s, d.resets.Pairwise Scope.apart → (d.resetAsk s).resets.Pairwise Scope.apart) ∧
    (∀ k, (d.pd k).st = 3 → ((d.powerUp k).pd k).st = 3 ∧ (((d.powerUp k).domainOff k).pd k).st = 1) ∧
    (∀ k, (d.pd k).st = 0 → ((d.powerUp k).pd k).st = 1) ∧
    (∀ k, (d.pd k).st = 2 → ((d.powerDown k).pd k).st = 3) ∧
    (∀ k, (d.pd k).st = 1 → ((d.powerDown k).pd k).st = 1 ∧ ((d.powerDown k).pd k).downWait = true)
end

