-- ==== Sys2Proof/Laws/State.lean ====
section
/-!
SUPPORT. One lemma for each field of the device after each of its named updates, and for each part of the state after an
update of another: no later proof unfolds a record update.
-/
namespace Sys2Proof.Machine

section
variable (s : State) (d : Dev)

@[simp] theorem State.ctlSet_ctl (x : Ctl) : ({ s with ctl := x } : State).ctl = x := rfl
@[simp] theorem State.ctlSet_dev (x : Ctl) : ({ s with ctl := x } : State).dev = s.dev := rfl
@[simp] theorem State.ctlSet_mem (x : Ctl) : ({ s with ctl := x } : State).mem = s.mem := rfl
@[simp] theorem State.ctlSet_pending (x : Ctl) : ({ s with ctl := x } : State).pending = s.pending := rfl
@[simp] theorem State.devSet_ctl (x : Dev) : ({ s with dev := x } : State).ctl = s.ctl := rfl
@[simp] theorem State.devSet_dev (x : Dev) : ({ s with dev := x } : State).dev = x := rfl
@[simp] theorem State.devSet_mem (x : Dev) : ({ s with dev := x } : State).mem = s.mem := rfl
@[simp] theorem State.devSet_pending (x : Dev) : ({ s with dev := x } : State).pending = s.pending := rfl
@[simp] theorem State.memSet_ctl (x : Mems) : ({ s with mem := x } : State).ctl = s.ctl := rfl
@[simp] theorem State.memSet_dev (x : Mems) : ({ s with mem := x } : State).dev = s.dev := rfl
@[simp] theorem State.memSet_mem (x : Mems) : ({ s with mem := x } : State).mem = x := rfl
@[simp] theorem State.memSet_pending (x : Mems) : ({ s with mem := x } : State).pending = s.pending := rfl
@[simp] theorem State.pendingSet_ctl (x : List Instr) : ({ s with pending := x } : State).ctl = s.ctl := rfl
@[simp] theorem State.pendingSet_dev (x : List Instr) : ({ s with pending := x } : State).dev = s.dev := rfl
@[simp] theorem State.pendingSet_mem (x : List Instr) : ({ s with pending := x } : State).mem = s.mem := rfl
@[simp] theorem State.pendingSet_pending (x : List Instr) : ({ s with pending := x } : State).pending = x := rfl

@[simp] theorem Dev.put_mir (F : Fld) (i v : Nat) : (d.put F i v).mir = d.mir := rfl
@[simp] theorem Dev.put_tim (F : Fld) (i v : Nat) : (d.put F i v).tim = d.tim := rfl
@[simp] theorem Dev.put_pds (F : Fld) (i v : Nat) : (d.put F i v).pds = d.pds := rfl
@[simp] theorem Dev.put_lanes (F : Fld) (i v : Nat) : (d.put F i v).lanes = d.lanes := rfl
@[simp] theorem Dev.put_ports (F : Fld) (i v : Nat) : (d.put F i v).ports = d.ports := rfl
@[simp] theorem Dev.put_macs (F : Fld) (i v : Nat) : (d.put F i v).macs = d.macs := rfl
@[simp] theorem Dev.put_gals (F : Fld) (i v : Nat) : (d.put F i v).gals = d.gals := rfl
@[simp] theorem Dev.put_members (F : Fld) (i v : Nat) : (d.put F i v).members = d.members := rfl
@[simp] theorem Dev.put_classes (F : Fld) (i v : Nat) : (d.put F i v).classes = d.classes := rfl
@[simp] theorem Dev.put_buckets (F : Fld) (i v : Nat) : (d.put F i v).buckets = d.buckets := rfl
@[simp] theorem Dev.put_chks (F : Fld) (i v : Nat) : (d.put F i v).chks = d.chks := rfl
@[simp] theorem Dev.put_fifos (F : Fld) (i v : Nat) : (d.put F i v).fifos = d.fifos := rfl
@[simp] theorem Dev.put_rings (F : Fld) (i v : Nat) : (d.put F i v).rings = d.rings := rfl
@[simp] theorem Dev.put_txStore (F : Fld) (i v : Nat) : (d.put F i v).txStore = d.txStore := rfl
@[simp] theorem Dev.put_cmp (F : Fld) (i v : Nat) : (d.put F i v).cmp = d.cmp := rfl
@[simp] theorem Dev.put_resets (F : Fld) (i v : Nat) : (d.put F i v).resets = d.resets := rfl
@[simp] theorem Dev.put_desk (F : Fld) (i v : Nat) : (d.put F i v).desk = d.desk := rfl
@[simp] theorem Dev.put_out (F : Fld) (i v : Nat) : (d.put F i v).out = d.out := rfl
@[simp] theorem Dev.put_free (F : Fld) (i v : Nat) : (d.put F i v).free = d.free := rfl

@[simp] theorem Dev.emit_f (o : Output) : (d.emit o).f = d.f := rfl
@[simp] theorem Dev.emit_mir (o : Output) : (d.emit o).mir = d.mir := rfl
@[simp] theorem Dev.emit_tim (o : Output) : (d.emit o).tim = d.tim := rfl
@[simp] theorem Dev.emit_pds (o : Output) : (d.emit o).pds = d.pds := rfl
@[simp] theorem Dev.emit_lanes (o : Output) : (d.emit o).lanes = d.lanes := rfl
@[simp] theorem Dev.emit_ports (o : Output) : (d.emit o).ports = d.ports := rfl
@[simp] theorem Dev.emit_macs (o : Output) : (d.emit o).macs = d.macs := rfl
@[simp] theorem Dev.emit_gals (o : Output) : (d.emit o).gals = d.gals := rfl
@[simp] theorem Dev.emit_members (o : Output) : (d.emit o).members = d.members := rfl
@[simp] theorem Dev.emit_classes (o : Output) : (d.emit o).classes = d.classes := rfl
@[simp] theorem Dev.emit_buckets (o : Output) : (d.emit o).buckets = d.buckets := rfl
@[simp] theorem Dev.emit_chks (o : Output) : (d.emit o).chks = d.chks := rfl
@[simp] theorem Dev.emit_fifos (o : Output) : (d.emit o).fifos = d.fifos := rfl
@[simp] theorem Dev.emit_rings (o : Output) : (d.emit o).rings = d.rings := rfl
@[simp] theorem Dev.emit_txStore (o : Output) : (d.emit o).txStore = d.txStore := rfl
@[simp] theorem Dev.emit_cmp (o : Output) : (d.emit o).cmp = d.cmp := rfl
@[simp] theorem Dev.emit_resets (o : Output) : (d.emit o).resets = d.resets := rfl
@[simp] theorem Dev.emit_desk (o : Output) : (d.emit o).desk = d.desk := rfl
@[simp] theorem Dev.emit_free (o : Output) : (d.emit o).free = d.free := rfl
@[simp] theorem Dev.emit_get (o : Output) (G : Fld) (j : Nat) : (d.emit o).get G j = d.get G j := rfl
@[simp] theorem Dev.emit_on (o : Output) (G : Fld) (j : Nat) : (d.emit o).on G j = d.on G j := rfl

@[simp] theorem Dev.setLane_f (n : Nat) (l : LaneSt) : (d.setLane n l).f = d.f := rfl
@[simp] theorem Dev.setLane_mir (n : Nat) (l : LaneSt) : (d.setLane n l).mir = d.mir := rfl
@[simp] theorem Dev.setLane_tim (n : Nat) (l : LaneSt) : (d.setLane n l).tim = d.tim := rfl
@[simp] theorem Dev.setLane_pds (n : Nat) (l : LaneSt) : (d.setLane n l).pds = d.pds := rfl
@[simp] theorem Dev.setLane_ports (n : Nat) (l : LaneSt) : (d.setLane n l).ports = d.ports := rfl
@[simp] theorem Dev.setLane_macs (n : Nat) (l : LaneSt) : (d.setLane n l).macs = d.macs := rfl
@[simp] theorem Dev.setLane_gals (n : Nat) (l : LaneSt) : (d.setLane n l).gals = d.gals := rfl
@[simp] theorem Dev.setLane_members (n : Nat) (l : LaneSt) : (d.setLane n l).members = d.members := rfl
@[simp] theorem Dev.setLane_classes (n : Nat) (l : LaneSt) : (d.setLane n l).classes = d.classes := rfl
@[simp] theorem Dev.setLane_buckets (n : Nat) (l : LaneSt) : (d.setLane n l).buckets = d.buckets := rfl
@[simp] theorem Dev.setLane_chks (n : Nat) (l : LaneSt) : (d.setLane n l).chks = d.chks := rfl
@[simp] theorem Dev.setLane_fifos (n : Nat) (l : LaneSt) : (d.setLane n l).fifos = d.fifos := rfl
@[simp] theorem Dev.setLane_rings (n : Nat) (l : LaneSt) : (d.setLane n l).rings = d.rings := rfl
@[simp] theorem Dev.setLane_txStore (n : Nat) (l : LaneSt) : (d.setLane n l).txStore = d.txStore := rfl
@[simp] theorem Dev.setLane_cmp (n : Nat) (l : LaneSt) : (d.setLane n l).cmp = d.cmp := rfl
@[simp] theorem Dev.setLane_resets (n : Nat) (l : LaneSt) : (d.setLane n l).resets = d.resets := rfl
@[simp] theorem Dev.setLane_desk (n : Nat) (l : LaneSt) : (d.setLane n l).desk = d.desk := rfl
@[simp] theorem Dev.setLane_out (n : Nat) (l : LaneSt) : (d.setLane n l).out = d.out := rfl
@[simp] theorem Dev.setLane_free (n : Nat) (l : LaneSt) : (d.setLane n l).free = d.free := rfl
@[simp] theorem Dev.setLane_get (n : Nat) (l : LaneSt) (G : Fld) (j : Nat) : (d.setLane n l).get G j = d.get G j := rfl
@[simp] theorem Dev.setLane_on (n : Nat) (l : LaneSt) (G : Fld) (j : Nat) : (d.setLane n l).on G j = d.on G j := rfl

@[simp] theorem Dev.setPort_f (p : Nat) (r : PortSt) : (d.setPort p r).f = d.f := rfl
@[simp] theorem Dev.setPort_mir (p : Nat) (r : PortSt) : (d.setPort p r).mir = d.mir := rfl
@[simp] theorem Dev.setPort_tim (p : Nat) (r : PortSt) : (d.setPort p r).tim = d.tim := rfl
@[simp] theorem Dev.setPort_pds (p : Nat) (r : PortSt) : (d.setPort p r).pds = d.pds := rfl
@[simp] theorem Dev.setPort_lanes (p : Nat) (r : PortSt) : (d.setPort p r).lanes = d.lanes := rfl
@[simp] theorem Dev.setPort_macs (p : Nat) (r : PortSt) : (d.setPort p r).macs = d.macs := rfl
@[simp] theorem Dev.setPort_gals (p : Nat) (r : PortSt) : (d.setPort p r).gals = d.gals := rfl
@[simp] theorem Dev.setPort_members (p : Nat) (r : PortSt) : (d.setPort p r).members = d.members := rfl
@[simp] theorem Dev.setPort_classes (p : Nat) (r : PortSt) : (d.setPort p r).classes = d.classes := rfl
@[simp] theorem Dev.setPort_buckets (p : Nat) (r : PortSt) : (d.setPort p r).buckets = d.buckets := rfl
@[simp] theorem Dev.setPort_chks (p : Nat) (r : PortSt) : (d.setPort p r).chks = d.chks := rfl
@[simp] theorem Dev.setPort_fifos (p : Nat) (r : PortSt) : (d.setPort p r).fifos = d.fifos := rfl
@[simp] theorem Dev.setPort_rings (p : Nat) (r : PortSt) : (d.setPort p r).rings = d.rings := rfl
@[simp] theorem Dev.setPort_txStore (p : Nat) (r : PortSt) : (d.setPort p r).txStore = d.txStore := rfl
@[simp] theorem Dev.setPort_cmp (p : Nat) (r : PortSt) : (d.setPort p r).cmp = d.cmp := rfl
@[simp] theorem Dev.setPort_resets (p : Nat) (r : PortSt) : (d.setPort p r).resets = d.resets := rfl
@[simp] theorem Dev.setPort_desk (p : Nat) (r : PortSt) : (d.setPort p r).desk = d.desk := rfl
@[simp] theorem Dev.setPort_out (p : Nat) (r : PortSt) : (d.setPort p r).out = d.out := rfl
@[simp] theorem Dev.setPort_free (p : Nat) (r : PortSt) : (d.setPort p r).free = d.free := rfl
@[simp] theorem Dev.setPort_get (p : Nat) (r : PortSt) (G : Fld) (j : Nat) : (d.setPort p r).get G j = d.get G j := rfl
@[simp] theorem Dev.setPort_on (p : Nat) (r : PortSt) (G : Fld) (j : Nat) : (d.setPort p r).on G j = d.on G j := rfl

@[simp] theorem Dev.setPd_f (k : Nat) (p : PdSt) : (d.setPd k p).f = d.f := rfl
@[simp] theorem Dev.setPd_mir (k : Nat) (p : PdSt) : (d.setPd k p).mir = d.mir := rfl
@[simp] theorem Dev.setPd_tim (k : Nat) (p : PdSt) : (d.setPd k p).tim = d.tim := rfl
@[simp] theorem Dev.setPd_lanes (k : Nat) (p : PdSt) : (d.setPd k p).lanes = d.lanes := rfl
@[simp] theorem Dev.setPd_ports (k : Nat) (p : PdSt) : (d.setPd k p).ports = d.ports := rfl
@[simp] theorem Dev.setPd_macs (k : Nat) (p : PdSt) : (d.setPd k p).macs = d.macs := rfl
@[simp] theorem Dev.setPd_gals (k : Nat) (p : PdSt) : (d.setPd k p).gals = d.gals := rfl
@[simp] theorem Dev.setPd_members (k : Nat) (p : PdSt) : (d.setPd k p).members = d.members := rfl
@[simp] theorem Dev.setPd_classes (k : Nat) (p : PdSt) : (d.setPd k p).classes = d.classes := rfl
@[simp] theorem Dev.setPd_buckets (k : Nat) (p : PdSt) : (d.setPd k p).buckets = d.buckets := rfl
@[simp] theorem Dev.setPd_chks (k : Nat) (p : PdSt) : (d.setPd k p).chks = d.chks := rfl
@[simp] theorem Dev.setPd_fifos (k : Nat) (p : PdSt) : (d.setPd k p).fifos = d.fifos := rfl
@[simp] theorem Dev.setPd_rings (k : Nat) (p : PdSt) : (d.setPd k p).rings = d.rings := rfl
@[simp] theorem Dev.setPd_txStore (k : Nat) (p : PdSt) : (d.setPd k p).txStore = d.txStore := rfl
@[simp] theorem Dev.setPd_cmp (k : Nat) (p : PdSt) : (d.setPd k p).cmp = d.cmp := rfl
@[simp] theorem Dev.setPd_resets (k : Nat) (p : PdSt) : (d.setPd k p).resets = d.resets := rfl
@[simp] theorem Dev.setPd_desk (k : Nat) (p : PdSt) : (d.setPd k p).desk = d.desk := rfl
@[simp] theorem Dev.setPd_out (k : Nat) (p : PdSt) : (d.setPd k p).out = d.out := rfl
@[simp] theorem Dev.setPd_free (k : Nat) (p : PdSt) : (d.setPd k p).free = d.free := rfl
@[simp] theorem Dev.setPd_get (k : Nat) (p : PdSt) (G : Fld) (j : Nat) : (d.setPd k p).get G j = d.get G j := rfl
@[simp] theorem Dev.setPd_on (k : Nat) (p : PdSt) (G : Fld) (j : Nat) : (d.setPd k p).on G j = d.on G j := rfl

@[simp] theorem Dev.setMac_f (p : Nat) (m : MacSt) : (d.setMac p m).f = d.f := rfl
@[simp] theorem Dev.setMac_mir (p : Nat) (m : MacSt) : (d.setMac p m).mir = d.mir := rfl
@[simp] theorem Dev.setMac_tim (p : Nat) (m : MacSt) : (d.setMac p m).tim = d.tim := rfl
@[simp] theorem Dev.setMac_pds (p : Nat) (m : MacSt) : (d.setMac p m).pds = d.pds := rfl
@[simp] theorem Dev.setMac_lanes (p : Nat) (m : MacSt) : (d.setMac p m).lanes = d.lanes := rfl
@[simp] theorem Dev.setMac_ports (p : Nat) (m : MacSt) : (d.setMac p m).ports = d.ports := rfl
@[simp] theorem Dev.setMac_gals (p : Nat) (m : MacSt) : (d.setMac p m).gals = d.gals := rfl
@[simp] theorem Dev.setMac_members (p : Nat) (m : MacSt) : (d.setMac p m).members = d.members := rfl
@[simp] theorem Dev.setMac_classes (p : Nat) (m : MacSt) : (d.setMac p m).classes = d.classes := rfl
@[simp] theorem Dev.setMac_buckets (p : Nat) (m : MacSt) : (d.setMac p m).buckets = d.buckets := rfl
@[simp] theorem Dev.setMac_chks (p : Nat) (m : MacSt) : (d.setMac p m).chks = d.chks := rfl
@[simp] theorem Dev.setMac_fifos (p : Nat) (m : MacSt) : (d.setMac p m).fifos = d.fifos := rfl
@[simp] theorem Dev.setMac_rings (p : Nat) (m : MacSt) : (d.setMac p m).rings = d.rings := rfl
@[simp] theorem Dev.setMac_txStore (p : Nat) (m : MacSt) : (d.setMac p m).txStore = d.txStore := rfl
@[simp] theorem Dev.setMac_cmp (p : Nat) (m : MacSt) : (d.setMac p m).cmp = d.cmp := rfl
@[simp] theorem Dev.setMac_resets (p : Nat) (m : MacSt) : (d.setMac p m).resets = d.resets := rfl
@[simp] theorem Dev.setMac_desk (p : Nat) (m : MacSt) : (d.setMac p m).desk = d.desk := rfl
@[simp] theorem Dev.setMac_out (p : Nat) (m : MacSt) : (d.setMac p m).out = d.out := rfl
@[simp] theorem Dev.setMac_free (p : Nat) (m : MacSt) : (d.setMac p m).free = d.free := rfl
@[simp] theorem Dev.setMac_get (p : Nat) (m : MacSt) (G : Fld) (j : Nat) : (d.setMac p m).get G j = d.get G j := rfl
@[simp] theorem Dev.setMac_on (p : Nat) (m : MacSt) (G : Fld) (j : Nat) : (d.setMac p m).on G j = d.on G j := rfl

@[simp] theorem Dev.setGal_f (c : Nat) (g : GalClass) : (d.setGal c g).f = d.f := rfl
@[simp] theorem Dev.setGal_mir (c : Nat) (g : GalClass) : (d.setGal c g).mir = d.mir := rfl
@[simp] theorem Dev.setGal_tim (c : Nat) (g : GalClass) : (d.setGal c g).tim = d.tim := rfl
@[simp] theorem Dev.setGal_pds (c : Nat) (g : GalClass) : (d.setGal c g).pds = d.pds := rfl
@[simp] theorem Dev.setGal_lanes (c : Nat) (g : GalClass) : (d.setGal c g).lanes = d.lanes := rfl
@[simp] theorem Dev.setGal_ports (c : Nat) (g : GalClass) : (d.setGal c g).ports = d.ports := rfl
@[simp] theorem Dev.setGal_macs (c : Nat) (g : GalClass) : (d.setGal c g).macs = d.macs := rfl
@[simp] theorem Dev.setGal_members (c : Nat) (g : GalClass) : (d.setGal c g).members = d.members := rfl
@[simp] theorem Dev.setGal_classes (c : Nat) (g : GalClass) : (d.setGal c g).classes = d.classes := rfl
@[simp] theorem Dev.setGal_buckets (c : Nat) (g : GalClass) : (d.setGal c g).buckets = d.buckets := rfl
@[simp] theorem Dev.setGal_chks (c : Nat) (g : GalClass) : (d.setGal c g).chks = d.chks := rfl
@[simp] theorem Dev.setGal_fifos (c : Nat) (g : GalClass) : (d.setGal c g).fifos = d.fifos := rfl
@[simp] theorem Dev.setGal_rings (c : Nat) (g : GalClass) : (d.setGal c g).rings = d.rings := rfl
@[simp] theorem Dev.setGal_txStore (c : Nat) (g : GalClass) : (d.setGal c g).txStore = d.txStore := rfl
@[simp] theorem Dev.setGal_cmp (c : Nat) (g : GalClass) : (d.setGal c g).cmp = d.cmp := rfl
@[simp] theorem Dev.setGal_resets (c : Nat) (g : GalClass) : (d.setGal c g).resets = d.resets := rfl
@[simp] theorem Dev.setGal_desk (c : Nat) (g : GalClass) : (d.setGal c g).desk = d.desk := rfl
@[simp] theorem Dev.setGal_out (c : Nat) (g : GalClass) : (d.setGal c g).out = d.out := rfl
@[simp] theorem Dev.setGal_free (c : Nat) (g : GalClass) : (d.setGal c g).free = d.free := rfl
@[simp] theorem Dev.setGal_get (c : Nat) (g : GalClass) (G : Fld) (j : Nat) : (d.setGal c g).get G j = d.get G j := rfl
@[simp] theorem Dev.setGal_on (c : Nat) (g : GalClass) (G : Fld) (j : Nat) : (d.setGal c g).on G j = d.on G j := rfl

@[simp] theorem Dev.setRing_f (r : Nat) (x : RingSt) : (d.setRing r x).f = d.f := rfl
@[simp] theorem Dev.setRing_mir (r : Nat) (x : RingSt) : (d.setRing r x).mir = d.mir := rfl
@[simp] theorem Dev.setRing_tim (r : Nat) (x : RingSt) : (d.setRing r x).tim = d.tim := rfl
@[simp] theorem Dev.setRing_pds (r : Nat) (x : RingSt) : (d.setRing r x).pds = d.pds := rfl
@[simp] theorem Dev.setRing_lanes (r : Nat) (x : RingSt) : (d.setRing r x).lanes = d.lanes := rfl
@[simp] theorem Dev.setRing_ports (r : Nat) (x : RingSt) : (d.setRing r x).ports = d.ports := rfl
@[simp] theorem Dev.setRing_macs (r : Nat) (x : RingSt) : (d.setRing r x).macs = d.macs := rfl
@[simp] theorem Dev.setRing_gals (r : Nat) (x : RingSt) : (d.setRing r x).gals = d.gals := rfl
@[simp] theorem Dev.setRing_members (r : Nat) (x : RingSt) : (d.setRing r x).members = d.members := rfl
@[simp] theorem Dev.setRing_classes (r : Nat) (x : RingSt) : (d.setRing r x).classes = d.classes := rfl
@[simp] theorem Dev.setRing_buckets (r : Nat) (x : RingSt) : (d.setRing r x).buckets = d.buckets := rfl
@[simp] theorem Dev.setRing_chks (r : Nat) (x : RingSt) : (d.setRing r x).chks = d.chks := rfl
@[simp] theorem Dev.setRing_fifos (r : Nat) (x : RingSt) : (d.setRing r x).fifos = d.fifos := rfl
@[simp] theorem Dev.setRing_txStore (r : Nat) (x : RingSt) : (d.setRing r x).txStore = d.txStore := rfl
@[simp] theorem Dev.setRing_cmp (r : Nat) (x : RingSt) : (d.setRing r x).cmp = d.cmp := rfl
@[simp] theorem Dev.setRing_resets (r : Nat) (x : RingSt) : (d.setRing r x).resets = d.resets := rfl
@[simp] theorem Dev.setRing_desk (r : Nat) (x : RingSt) : (d.setRing r x).desk = d.desk := rfl
@[simp] theorem Dev.setRing_out (r : Nat) (x : RingSt) : (d.setRing r x).out = d.out := rfl
@[simp] theorem Dev.setRing_free (r : Nat) (x : RingSt) : (d.setRing r x).free = d.free := rfl
@[simp] theorem Dev.setRing_get (r : Nat) (x : RingSt) (G : Fld) (j : Nat) : (d.setRing r x).get G j = d.get G j := rfl
@[simp] theorem Dev.setRing_on (r : Nat) (x : RingSt) (G : Fld) (j : Nat) : (d.setRing r x).on G j = d.on G j := rfl

@[simp] theorem Dev.setFifo_f (e : Nat) (l : List EngOp) : (d.setFifo e l).f = d.f := rfl
@[simp] theorem Dev.setFifo_mir (e : Nat) (l : List EngOp) : (d.setFifo e l).mir = d.mir := rfl
@[simp] theorem Dev.setFifo_tim (e : Nat) (l : List EngOp) : (d.setFifo e l).tim = d.tim := rfl
@[simp] theorem Dev.setFifo_pds (e : Nat) (l : List EngOp) : (d.setFifo e l).pds = d.pds := rfl
@[simp] theorem Dev.setFifo_lanes (e : Nat) (l : List EngOp) : (d.setFifo e l).lanes = d.lanes := rfl
@[simp] theorem Dev.setFifo_ports (e : Nat) (l : List EngOp) : (d.setFifo e l).ports = d.ports := rfl
@[simp] theorem Dev.setFifo_macs (e : Nat) (l : List EngOp) : (d.setFifo e l).macs = d.macs := rfl
@[simp] theorem Dev.setFifo_gals (e : Nat) (l : List EngOp) : (d.setFifo e l).gals = d.gals := rfl
@[simp] theorem Dev.setFifo_members (e : Nat) (l : List EngOp) : (d.setFifo e l).members = d.members := rfl
@[simp] theorem Dev.setFifo_classes (e : Nat) (l : List EngOp) : (d.setFifo e l).classes = d.classes := rfl
@[simp] theorem Dev.setFifo_buckets (e : Nat) (l : List EngOp) : (d.setFifo e l).buckets = d.buckets := rfl
@[simp] theorem Dev.setFifo_chks (e : Nat) (l : List EngOp) : (d.setFifo e l).chks = d.chks := rfl
@[simp] theorem Dev.setFifo_rings (e : Nat) (l : List EngOp) : (d.setFifo e l).rings = d.rings := rfl
@[simp] theorem Dev.setFifo_txStore (e : Nat) (l : List EngOp) : (d.setFifo e l).txStore = d.txStore := rfl
@[simp] theorem Dev.setFifo_cmp (e : Nat) (l : List EngOp) : (d.setFifo e l).cmp = d.cmp := rfl
@[simp] theorem Dev.setFifo_resets (e : Nat) (l : List EngOp) : (d.setFifo e l).resets = d.resets := rfl
@[simp] theorem Dev.setFifo_desk (e : Nat) (l : List EngOp) : (d.setFifo e l).desk = d.desk := rfl
@[simp] theorem Dev.setFifo_out (e : Nat) (l : List EngOp) : (d.setFifo e l).out = d.out := rfl
@[simp] theorem Dev.setFifo_free (e : Nat) (l : List EngOp) : (d.setFifo e l).free = d.free := rfl
@[simp] theorem Dev.setFifo_get (e : Nat) (l : List EngOp) (G : Fld) (j : Nat) : (d.setFifo e l).get G j = d.get G j := rfl
@[simp] theorem Dev.setFifo_on (e : Nat) (l : List EngOp) (G : Fld) (j : Nat) : (d.setFifo e l).on G j = d.on G j := rfl

@[simp] theorem Dev.setChk_f (r : Nat) (l : List Nat) : (d.setChk r l).f = d.f := rfl
@[simp] theorem Dev.setChk_mir (r : Nat) (l : List Nat) : (d.setChk r l).mir = d.mir := rfl
@[simp] theorem Dev.setChk_tim (r : Nat) (l : List Nat) : (d.setChk r l).tim = d.tim := rfl
@[simp] theorem Dev.setChk_pds (r : Nat) (l : List Nat) : (d.setChk r l).pds = d.pds := rfl
@[simp] theorem Dev.setChk_lanes (r : Nat) (l : List Nat) : (d.setChk r l).lanes = d.lanes := rfl
@[simp] theorem Dev.setChk_ports (r : Nat) (l : List Nat) : (d.setChk r l).ports = d.ports := rfl
@[simp] theorem Dev.setChk_macs (r : Nat) (l : List Nat) : (d.setChk r l).macs = d.macs := rfl
@[simp] theorem Dev.setChk_gals (r : Nat) (l : List Nat) : (d.setChk r l).gals = d.gals := rfl
@[simp] theorem Dev.setChk_members (r : Nat) (l : List Nat) : (d.setChk r l).members = d.members := rfl
@[simp] theorem Dev.setChk_classes (r : Nat) (l : List Nat) : (d.setChk r l).classes = d.classes := rfl
@[simp] theorem Dev.setChk_buckets (r : Nat) (l : List Nat) : (d.setChk r l).buckets = d.buckets := rfl
@[simp] theorem Dev.setChk_fifos (r : Nat) (l : List Nat) : (d.setChk r l).fifos = d.fifos := rfl
@[simp] theorem Dev.setChk_rings (r : Nat) (l : List Nat) : (d.setChk r l).rings = d.rings := rfl
@[simp] theorem Dev.setChk_txStore (r : Nat) (l : List Nat) : (d.setChk r l).txStore = d.txStore := rfl
@[simp] theorem Dev.setChk_cmp (r : Nat) (l : List Nat) : (d.setChk r l).cmp = d.cmp := rfl
@[simp] theorem Dev.setChk_resets (r : Nat) (l : List Nat) : (d.setChk r l).resets = d.resets := rfl
@[simp] theorem Dev.setChk_desk (r : Nat) (l : List Nat) : (d.setChk r l).desk = d.desk := rfl
@[simp] theorem Dev.setChk_out (r : Nat) (l : List Nat) : (d.setChk r l).out = d.out := rfl
@[simp] theorem Dev.setChk_free (r : Nat) (l : List Nat) : (d.setChk r l).free = d.free := rfl
@[simp] theorem Dev.setChk_get (r : Nat) (l : List Nat) (G : Fld) (j : Nat) : (d.setChk r l).get G j = d.get G j := rfl
@[simp] theorem Dev.setChk_on (r : Nat) (l : List Nat) (G : Fld) (j : Nat) : (d.setChk r l).on G j = d.on G j := rfl

@[simp] theorem Dev.setMember_f (k : Nat) (m : Member) : (d.setMember k m).f = d.f := rfl
@[simp] theorem Dev.setMember_mir (k : Nat) (m : Member) : (d.setMember k m).mir = d.mir := rfl
@[simp] theorem Dev.setMember_tim (k : Nat) (m : Member) : (d.setMember k m).tim = d.tim := rfl
@[simp] theorem Dev.setMember_pds (k : Nat) (m : Member) : (d.setMember k m).pds = d.pds := rfl
@[simp] theorem Dev.setMember_lanes (k : Nat) (m : Member) : (d.setMember k m).lanes = d.lanes := rfl
@[simp] theorem Dev.setMember_ports (k : Nat) (m : Member) : (d.setMember k m).ports = d.ports := rfl
@[simp] theorem Dev.setMember_macs (k : Nat) (m : Member) : (d.setMember k m).macs = d.macs := rfl
@[simp] theorem Dev.setMember_gals (k : Nat) (m : Member) : (d.setMember k m).gals = d.gals := rfl
@[simp] theorem Dev.setMember_classes (k : Nat) (m : Member) : (d.setMember k m).classes = d.classes := rfl
@[simp] theorem Dev.setMember_buckets (k : Nat) (m : Member) : (d.setMember k m).buckets = d.buckets := rfl
@[simp] theorem Dev.setMember_chks (k : Nat) (m : Member) : (d.setMember k m).chks = d.chks := rfl
@[simp] theorem Dev.setMember_fifos (k : Nat) (m : Member) : (d.setMember k m).fifos = d.fifos := rfl
@[simp] theorem Dev.setMember_rings (k : Nat) (m : Member) : (d.setMember k m).rings = d.rings := rfl
@[simp] theorem Dev.setMember_txStore (k : Nat) (m : Member) : (d.setMember k m).txStore = d.txStore := rfl
@[simp] theorem Dev.setMember_cmp (k : Nat) (m : Member) : (d.setMember k m).cmp = d.cmp := rfl
@[simp] theorem Dev.setMember_resets (k : Nat) (m : Member) : (d.setMember k m).resets = d.resets := rfl
@[simp] theorem Dev.setMember_desk (k : Nat) (m : Member) : (d.setMember k m).desk = d.desk := rfl
@[simp] theorem Dev.setMember_out (k : Nat) (m : Member) : (d.setMember k m).out = d.out := rfl
@[simp] theorem Dev.setMember_free (k : Nat) (m : Member) : (d.setMember k m).free = d.free := rfl
@[simp] theorem Dev.setMember_get (k : Nat) (m : Member) (G : Fld) (j : Nat) : (d.setMember k m).get G j = d.get G j := rfl
@[simp] theorem Dev.setMember_on (k : Nat) (m : Member) (G : Fld) (j : Nat) : (d.setMember k m).on G j = d.on G j := rfl

@[simp] theorem Dev.setCls_f (c : Nat) (x : CoxClass) : (d.setCls c x).f = d.f := rfl
@[simp] theorem Dev.setCls_mir (c : Nat) (x : CoxClass) : (d.setCls c x).mir = d.mir := rfl
@[simp] theorem Dev.setCls_tim (c : Nat) (x : CoxClass) : (d.setCls c x).tim = d.tim := rfl
@[simp] theorem Dev.setCls_pds (c : Nat) (x : CoxClass) : (d.setCls c x).pds = d.pds := rfl
@[simp] theorem Dev.setCls_lanes (c : Nat) (x : CoxClass) : (d.setCls c x).lanes = d.lanes := rfl
@[simp] theorem Dev.setCls_ports (c : Nat) (x : CoxClass) : (d.setCls c x).ports = d.ports := rfl
@[simp] theorem Dev.setCls_macs (c : Nat) (x : CoxClass) : (d.setCls c x).macs = d.macs := rfl
@[simp] theorem Dev.setCls_gals (c : Nat) (x : CoxClass) : (d.setCls c x).gals = d.gals := rfl
@[simp] theorem Dev.setCls_members (c : Nat) (x : CoxClass) : (d.setCls c x).members = d.members := rfl
@[simp] theorem Dev.setCls_buckets (c : Nat) (x : CoxClass) : (d.setCls c x).buckets = d.buckets := rfl
@[simp] theorem Dev.setCls_chks (c : Nat) (x : CoxClass) : (d.setCls c x).chks = d.chks := rfl
@[simp] theorem Dev.setCls_fifos (c : Nat) (x : CoxClass) : (d.setCls c x).fifos = d.fifos := rfl
@[simp] theorem Dev.setCls_rings (c : Nat) (x : CoxClass) : (d.setCls c x).rings = d.rings := rfl
@[simp] theorem Dev.setCls_txStore (c : Nat) (x : CoxClass) : (d.setCls c x).txStore = d.txStore := rfl
@[simp] theorem Dev.setCls_cmp (c : Nat) (x : CoxClass) : (d.setCls c x).cmp = d.cmp := rfl
@[simp] theorem Dev.setCls_resets (c : Nat) (x : CoxClass) : (d.setCls c x).resets = d.resets := rfl
@[simp] theorem Dev.setCls_desk (c : Nat) (x : CoxClass) : (d.setCls c x).desk = d.desk := rfl
@[simp] theorem Dev.setCls_out (c : Nat) (x : CoxClass) : (d.setCls c x).out = d.out := rfl
@[simp] theorem Dev.setCls_free (c : Nat) (x : CoxClass) : (d.setCls c x).free = d.free := rfl
@[simp] theorem Dev.setCls_get (c : Nat) (x : CoxClass) (G : Fld) (j : Nat) : (d.setCls c x).get G j = d.get G j := rfl
@[simp] theorem Dev.setCls_on (c : Nat) (x : CoxClass) (G : Fld) (j : Nat) : (d.setCls c x).on G j = d.on G j := rfl

@[simp] theorem Dev.setBucket_f (b : Nat) (x : Bucket) : (d.setBucket b x).f = d.f := rfl
@[simp] theorem Dev.setBucket_mir (b : Nat) (x : Bucket) : (d.setBucket b x).mir = d.mir := rfl
@[simp] theorem Dev.setBucket_tim (b : Nat) (x : Bucket) : (d.setBucket b x).tim = d.tim := rfl
@[simp] theorem Dev.setBucket_pds (b : Nat) (x : Bucket) : (d.setBucket b x).pds = d.pds := rfl
@[simp] theorem Dev.setBucket_lanes (b : Nat) (x : Bucket) : (d.setBucket b x).lanes = d.lanes := rfl
@[simp] theorem Dev.setBucket_ports (b : Nat) (x : Bucket) : (d.setBucket b x).ports = d.ports := rfl
@[simp] theorem Dev.setBucket_macs (b : Nat) (x : Bucket) : (d.setBucket b x).macs = d.macs := rfl
@[simp] theorem Dev.setBucket_gals (b : Nat) (x : Bucket) : (d.setBucket b x).gals = d.gals := rfl
@[simp] theorem Dev.setBucket_members (b : Nat) (x : Bucket) : (d.setBucket b x).members = d.members := rfl
@[simp] theorem Dev.setBucket_classes (b : Nat) (x : Bucket) : (d.setBucket b x).classes = d.classes := rfl
@[simp] theorem Dev.setBucket_chks (b : Nat) (x : Bucket) : (d.setBucket b x).chks = d.chks := rfl
@[simp] theorem Dev.setBucket_fifos (b : Nat) (x : Bucket) : (d.setBucket b x).fifos = d.fifos := rfl
@[simp] theorem Dev.setBucket_rings (b : Nat) (x : Bucket) : (d.setBucket b x).rings = d.rings := rfl
@[simp] theorem Dev.setBucket_txStore (b : Nat) (x : Bucket) : (d.setBucket b x).txStore = d.txStore := rfl
@[simp] theorem Dev.setBucket_cmp (b : Nat) (x : Bucket) : (d.setBucket b x).cmp = d.cmp := rfl
@[simp] theorem Dev.setBucket_resets (b : Nat) (x : Bucket) : (d.setBucket b x).resets = d.resets := rfl
@[simp] theorem Dev.setBucket_desk (b : Nat) (x : Bucket) : (d.setBucket b x).desk = d.desk := rfl
@[simp] theorem Dev.setBucket_out (b : Nat) (x : Bucket) : (d.setBucket b x).out = d.out := rfl
@[simp] theorem Dev.setBucket_free (b : Nat) (x : Bucket) : (d.setBucket b x).free = d.free := rfl
@[simp] theorem Dev.setBucket_get (b : Nat) (x : Bucket) (G : Fld) (j : Nat) : (d.setBucket b x).get G j = d.get G j := rfl
@[simp] theorem Dev.setBucket_on (b : Nat) (x : Bucket) (G : Fld) (j : Nat) : (d.setBucket b x).on G j = d.on G j := rfl

@[simp] theorem Dev.emit_out_head (o : Output) : (d.emit o).out = o :: d.out := rfl

end

end Sys2Proof.Machine
end

