-- ==== Sys2Proof/Laws/Tab.lean ====
section
/-!
SUPPORT. Sparse tables: a read after a write to the same key gives the value written, a write leaves every other key
alone, and every operation keeps the canonical form.
-/
namespace Sys2Proof.Machine

theorem Tab.get_drop_same {α : Type} (t : Tab α) (k : Nat) (a : α) : (t.drop k).get k a = a := by
  induction t with
  | nil => rfl
  | cons p r ih =>
    obtain ⟨k', v⟩ := p
    by_cases h : k' = k <;> simp [Tab.drop, Tab.get, h, ih]

theorem Tab.get_drop_ne {α : Type} (t : Tab α) {k j : Nat} (a : α) (h : k ≠ j) : (t.drop k).get j a = t.get j a := by
  induction t with
  | nil => rfl
  | cons p r ih =>
    obtain ⟨k', v⟩ := p
    by_cases hk : k' = k
    · subst hk; simp [Tab.drop, Tab.get, h, ih]
    · simp [Tab.drop, Tab.get, hk, ih]

theorem Tab.get_insert_same {α : Type} (t : Tab α) (k : Nat) (v a : α) (h : ∀ p ∈ t, p.1 ≠ k) :
    (t.insert k v).get k a = v := by
  induction t with
  | nil => simp [Tab.insert, Tab.get]
  | cons p r ih =>
    obtain ⟨k', v'⟩ := p
    by_cases hk : k < k'
    · simp [Tab.insert, Tab.get, hk]
    · have hne : k' ≠ k := h (k', v') (by simp)
      simp [Tab.insert, Tab.get, hk, hne, ih fun p hp => h p (by simp [hp])]

theorem Tab.get_insert_ne {α : Type} (t : Tab α) {k j : Nat} (v a : α) (h : k ≠ j) :
    (t.insert k v).get j a = t.get j a := by
  induction t with
  | nil => simp [Tab.insert, Tab.get, h]
  | cons p r ih =>
    obtain ⟨k', v'⟩ := p
    by_cases hk : k < k'
    · simp [Tab.insert, Tab.get, hk, h]
    · simp [Tab.insert, Tab.get, hk, ih]

theorem Tab.drop_ne {α : Type} (t : Tab α) (k : Nat) : ∀ p ∈ t.drop k, p.1 ≠ k := by
  induction t with
  | nil => simp [Tab.drop]
  | cons p r ih =>
    obtain ⟨k', v⟩ := p
    by_cases h : k' = k
    · simpa [Tab.drop, h] using ih
    · intro q hq
      simp only [Tab.drop, h, if_false, List.mem_cons] at hq
      rcases hq with rfl | hq
      · exact h
      · exact ih q hq

/-- A read after a write to the same key gives the value written. -/
@[simp] theorem Tab.get_set_same {α : Type} [DecidableEq α] (t : Tab α) (k : Nat) (v a : α) :
    (t.set k v a).get k a = v := by
  by_cases h : v = a
  · simp [Tab.set, h, Tab.get_drop_same]
  · simp [Tab.set, h, Tab.get_insert_same _ _ _ _ (Tab.drop_ne t k)]

/-- A write leaves every other key alone. -/
theorem Tab.get_set_ne {α : Type} [DecidableEq α] (t : Tab α) {k j : Nat} (v a b : α) (h : k ≠ j) :
    (t.set k v a).get j b = t.get j b := by
  by_cases hv : v = a
  · simp [Tab.set, hv, Tab.get_drop_ne t b h]
  · simp [Tab.set, hv, Tab.get_insert_ne _ _ _ h, Tab.get_drop_ne t b h]

theorem Tab.get_set {α : Type} [DecidableEq α] (t : Tab α) (k j : Nat) (v a : α) :
    (t.set k v a).get j a = if k = j then v else t.get j a := by
  by_cases h : k = j
  · subst h; simp
  · simp [h, Tab.get_set_ne t v a a h]

theorem Tab.risingFrom_mono {α : Type} {t : Tab α} {m n : Nat} (h : t.risingFrom n = true) (hmn : m ≤ n) :
    t.risingFrom m = true := by
  cases t with
  | nil => rfl
  | cons p r =>
    obtain ⟨k', v⟩ := p
    simp only [Tab.risingFrom, Bool.and_eq_true, decide_eq_true_eq] at h ⊢
    exact ⟨Nat.le_trans hmn h.1, h.2⟩

theorem Tab.risingFrom_drop {α : Type} {t : Tab α} {n : Nat} (k : Nat) (h : t.risingFrom n = true) :
    (t.drop k).risingFrom n = true := by
  induction t generalizing n with
  | nil => rfl
  | cons p r ih =>
    obtain ⟨k', v⟩ := p
    simp only [Tab.risingFrom, Bool.and_eq_true, decide_eq_true_eq] at h
    by_cases hk : k' = k
    · simp only [Tab.drop, hk, if_true]
      exact Tab.risingFrom_mono (ih h.2) (by omega)
    · simp [Tab.drop, hk, Tab.risingFrom, h.1, ih h.2]

theorem Tab.risingFrom_insert {α : Type} {t : Tab α} {n k : Nat} (v : α) (h : t.risingFrom n = true) (hk : n ≤ k)
    (hne : ∀ p ∈ t, p.1 ≠ k) : (t.insert k v).risingFrom n = true := by
  induction t generalizing n with
  | nil => simp [Tab.insert, Tab.risingFrom, hk]
  | cons p r ih =>
    obtain ⟨k', v'⟩ := p
    simp only [Tab.risingFrom, Bool.and_eq_true, decide_eq_true_eq] at h
    by_cases hl : k < k'
    · simp [Tab.insert, Tab.risingFrom, hl, hk, h.2]
    · have : k' ≠ k := hne (k', v') (by simp)
      simp only [Tab.insert, hl, if_false, Tab.risingFrom, Bool.and_eq_true, decide_eq_true_eq]
      exact ⟨h.1, ih h.2 (by omega) fun p hp => hne p (by simp [hp])⟩

theorem Tab.all_drop {α : Type} {t : Tab α} (k : Nat) {q : Nat × α → Bool} (h : t.all q = true) :
    (t.drop k).all q = true := by
  induction t with
  | nil => rfl
  | cons p r ih =>
    obtain ⟨k', v⟩ := p
    simp only [List.all_cons, Bool.and_eq_true] at h
    by_cases hk : k' = k <;> simp [Tab.drop, hk, h.1, ih h.2]

theorem Tab.all_insert {α : Type} {t : Tab α} (k : Nat) (v : α) {q : Nat × α → Bool} (h : t.all q = true)
    (hv : q (k, v) = true) : (t.insert k v).all q = true := by
  induction t with
  | nil => simp [Tab.insert, hv]
  | cons p r ih =>
    obtain ⟨k', v'⟩ := p
    simp only [List.all_cons, Bool.and_eq_true] at h
    by_cases hl : k < k'
    · simp only [Tab.insert, hl, if_true, List.all_cons, Bool.and_eq_true]; exact ⟨hv, h⟩
    · simp [Tab.insert, hl, h.1, ih h.2]

/-- A write keeps the canonical form. -/
theorem Tab.wf_set {α : Type} [DecidableEq α] {t : Tab α} (k : Nat) (v a : α) (h : t.wf a = true) :
    (t.set k v a).wf a = true := by
  simp only [Tab.wf, Bool.and_eq_true] at h ⊢
  by_cases hv : v = a
  · simp only [Tab.set, hv, if_true]
    exact ⟨Tab.risingFrom_drop k h.1, Tab.all_drop k h.2⟩
  · simp only [Tab.set, hv, if_false]
    exact ⟨Tab.risingFrom_insert v (Tab.risingFrom_drop k h.1) (Nat.zero_le k) (Tab.drop_ne t k),
      Tab.all_insert k v (Tab.all_drop k h.2) (by simp [hv])⟩

theorem Tab.risingFrom_filter {α : Type} {t : Tab α} {n : Nat} (q : Nat × α → Bool) (h : t.risingFrom n = true) :
    Tab.risingFrom (t.filter q) n = true := by
  induction t generalizing n with
  | nil => rfl
  | cons p r ih =>
    obtain ⟨k', v⟩ := p
    simp only [Tab.risingFrom, Bool.and_eq_true, decide_eq_true_eq] at h
    by_cases hq : q (k', v) = true
    · simp [hq, Tab.risingFrom, h.1, ih h.2]
    · simp only [List.filter_cons, hq]
      exact Tab.risingFrom_mono (ih h.2) (by omega)

/-- Forgetting entries keeps the canonical form. -/
theorem Tab.wf_filter {α : Type} [DecidableEq α] {t : Tab α} (q : Nat × α → Bool) (a : α) (h : t.wf a = true) :
    Tab.wf (t.filter q) a = true := by
  simp only [Tab.wf, Bool.and_eq_true] at h ⊢
  refine ⟨Tab.risingFrom_filter q h.1, ?_⟩
  rw [List.all_eq_true] at h ⊢
  exact fun x hx => h.2 x (List.mem_filter.mp hx).1

end Sys2Proof.Machine
end

