-- ==== Sys2Proof/Laws/Fields.lean ====
section
/-!
SUPPORT. Register fields: a read after a write of the same field and object gives the value held to its width, a write
leaves every other field and object alone; counters saturate (R14); what each record's read gives after its write.
-/
namespace Sys2Proof.Machine
open F

theorem fldGet_put (t : Tab (Tab Nat)) (F : Fld) (i v : Nat) : fldGet (fldPut t F i v) F i = v % 2 ^ F.w := by
  simp [fldGet, fldPut]

theorem fldGet_put_id {F G : Fld} (t : Tab (Tab Nat)) (i j v : Nat) (h : F.id ≠ G.id) :
    fldGet (fldPut t F i v) G j = fldGet t G j := by
  simp [fldGet, fldPut, Tab.get_set_ne _ _ _ _ h]

theorem fldGet_put_obj (t : Tab (Tab Nat)) (F : Fld) (i j v : Nat) (h : i ≠ j) :
    fldGet (fldPut t F i v) F j = fldGet t F j := by
  simp [fldGet, fldPut, Tab.get_set_ne _ _ _ _ h]

/-- A field read after its own write. -/
@[simp] theorem Dev.get_put (d : Dev) (F : Fld) (i v : Nat) : (d.put F i v).get F i = v % 2 ^ F.w := fldGet_put d.f F i v

/-- A write leaves another field alone. -/
theorem Dev.get_put_id {F G : Fld} (d : Dev) (i j v : Nat) (h : F.id ≠ G.id) : (d.put F i v).get G j = d.get G j :=
  fldGet_put_id d.f i j v h

/-- A write leaves another object's field alone. -/
theorem Dev.get_put_obj (d : Dev) (F : Fld) (i j v : Nat) (h : i ≠ j) : (d.put F i v).get F j = d.get F j :=
  fldGet_put_obj d.f F i j v h

theorem Dev.get_put_other {F G : Fld} (d : Dev) (i j v : Nat) (h : F.id ≠ G.id ∨ (F = G ∧ i ≠ j)) :
    (d.put F i v).get G j = d.get G j := by
  rcases h with h | ⟨rfl, h⟩
  · exact d.get_put_id i j v h
  · exact d.get_put_obj F i j v h

/-- A counter after an event: one more, held to its width (R14). -/
theorem Dev.get_inc (d : Dev) (F : Fld) (i : Nat) :
    (d.inc F i).get F i = min (d.get F i + 1) (2 ^ F.w - 1) := by
  have hp : 0 < 2 ^ F.w := Nat.pow_pos (by decide)
  simp only [Dev.inc, Dev.add, Dev.get_put]
  exact Nat.mod_eq_of_lt (by omega)

theorem Dev.get_add (d : Dev) (F : Fld) (i n : Nat) :
    (d.add F i n).get F i = min (d.get F i + n) (2 ^ F.w - 1) := by
  have hp : 0 < 2 ^ F.w := Nat.pow_pos (by decide)
  simp only [Dev.add, Dev.get_put]
  exact Nat.mod_eq_of_lt (by omega)

theorem Dev.get_inc_id {F G : Fld} (d : Dev) (i j : Nat) (h : F.id ≠ G.id) : (d.inc F i).get G j = d.get G j :=
  d.get_put_id i j _ h

theorem Dev.get_add_id {F G : Fld} (d : Dev) (i j n : Nat) (h : F.id ≠ G.id) : (d.add F i n).get G j = d.get G j :=
  d.get_put_id i j _ h

theorem Dev.get_wrap_id {F G : Fld} (d : Dev) (i j n : Nat) (h : F.id ≠ G.id) : (d.wrap F i n).get G j = d.get G j :=
  d.get_put_id i j _ h

theorem Dev.get_clr_id {F G : Fld} (d : Dev) (i j : Nat) (h : F.id ≠ G.id) : (d.clr F i).get G j = d.get G j :=
  d.get_put_id i j _ h

@[simp] theorem Dev.puts_nil (d : Dev) (i : Nat) : d.puts i [] = d := rfl
@[simp] theorem Dev.puts_cons (d : Dev) (i : Nat) (p : Fld × Nat) (l : List (Fld × Nat)) :
    d.puts i (p :: l) = (d.put p.1 i p.2).puts i l := rfl
@[simp] theorem Dev.clrs_nil (d : Dev) (i : Nat) : d.clrs i [] = d := rfl
@[simp] theorem Dev.clrs_cons (d : Dev) (i : Nat) (F : Fld) (l : List Fld) :
    d.clrs i (F :: l) = (d.clr F i).clrs i l := rfl
@[simp] theorem Dev.each_nil (d : Dev) (g : Dev → Nat → Dev) : d.each [] g = d := rfl
@[simp] theorem Dev.each_cons (d : Dev) (x : Nat) (l : List Nat) (g : Dev → Nat → Dev) :
    d.each (x :: l) g = (g d x).each l g := rfl

/-- A write of several fields leaves a field that is none of them alone. -/
theorem Dev.get_puts_id {G : Fld} (d : Dev) (i j : Nat) (l : List (Fld × Nat)) (h : ∀ p ∈ l, p.1.id ≠ G.id) :
    (d.puts i l).get G j = d.get G j := by
  induction l generalizing d with
  | nil => rfl
  | cons p r ih =>
    rw [Dev.puts_cons, ih _ fun q hq => h q (by simp [hq])]
    exact d.get_put_id i j p.2 (h p (by simp))

theorem Dev.get_clrs_id {G : Fld} (d : Dev) (i j : Nat) (l : List Fld) (h : ∀ F ∈ l, F.id ≠ G.id) :
    (d.clrs i l).get G j = d.get G j := by
  induction l generalizing d with
  | nil => rfl
  | cons F r ih =>
    rw [Dev.clrs_cons, ih _ fun q hq => h q (by simp [hq])]
    exact d.get_clr_id i j (h F (by simp))

/-- What holds of a device and is kept by an action on every object holds after the actions on a list of them. -/
theorem Dev.each_keeps {P : Dev → Prop} {g : Dev → Nat → Dev} (h : ∀ d x, P d → P (g d x)) (l : List Nat) (d : Dev)
    (hd : P d) : P (d.each l g) := by
  induction l generalizing d with
  | nil => exact hd
  | cons x r ih => exact ih _ (h d x hd)

theorem Dev.lane_set (d : Dev) (n : Nat) (l : LaneSt) : (d.setLane n l).lane n = l := by simp [Dev.lane, Dev.setLane]
theorem Dev.lane_set_ne (d : Dev) {n m : Nat} (l : LaneSt) (h : n ≠ m) : (d.setLane n l).lane m = d.lane m := by
  simp [Dev.lane, Dev.setLane, Tab.get_set_ne _ _ _ _ h]
theorem Dev.port_set (d : Dev) (p : Nat) (r : PortSt) : (d.setPort p r).port p = r := by simp [Dev.port, Dev.setPort]
theorem Dev.port_set_ne (d : Dev) {p q : Nat} (r : PortSt) (h : p ≠ q) : (d.setPort p r).port q = d.port q := by
  simp [Dev.port, Dev.setPort, Tab.get_set_ne _ _ _ _ h]
theorem Dev.pd_set (d : Dev) (k : Nat) (p : PdSt) : (d.setPd k p).pd k = p := by simp [Dev.pd, Dev.setPd]
theorem Dev.pd_set_ne (d : Dev) {k j : Nat} (p : PdSt) (h : k ≠ j) : (d.setPd k p).pd j = d.pd j := by
  simp [Dev.pd, Dev.setPd, Tab.get_set_ne _ _ _ _ h]
theorem Dev.mac_set (d : Dev) (p : Nat) (m : MacSt) : (d.setMac p m).mac p = m := by simp [Dev.mac, Dev.setMac]
theorem Dev.gal_set (d : Dev) (c : Nat) (g : GalClass) : (d.setGal c g).gal c = g := by simp [Dev.gal, Dev.setGal]
theorem Dev.ring_set (d : Dev) (r : Nat) (x : RingSt) : (d.setRing r x).ring r = x := by simp [Dev.ring, Dev.setRing]
theorem Dev.ring_set_ne (d : Dev) {r q : Nat} (x : RingSt) (h : r ≠ q) : (d.setRing r x).ring q = d.ring q := by
  simp [Dev.ring, Dev.setRing, Tab.get_set_ne _ _ _ _ h]

/-- A one-bit field written 1 or 0. -/
theorem Dev.on_put (d : Dev) (F : Fld) (i v : Nat) : (d.put F i v).on F i = (v % 2 ^ F.w == 1) := by simp [Dev.on]

end Sys2Proof.Machine
end

