-- ==== Sys2Proof/Laws/Buffers.lean ====
section
/-!
SUPPORT. Addressed buffers: every operation on one keeps its canonical form, and bytes written read back. Replies and reads of
registers: what one leaves alone.
-/
namespace Sys2Proof.Machine
open F

/-- A write of bytes keeps the canonical form. -/
theorem putCells_wf (l : List Byte) : ∀ (t : List Host.Cell) (a : Nat) (x : Byte), Tab.wf t x = true →
    Tab.wf (putCells t a x l) x = true := by
  induction l with
  | nil => intro t a x h; exact h
  | cons b r ih => intro t a x h; exact ih _ _ _ (Tab.wf_set a b x h)

/-- Forgetting a range keeps the canonical form. -/
theorem clearCells_wf (t : List Host.Cell) (lo hi : Nat) (x : Byte) (h : Tab.wf t x = true) :
    Tab.wf (clearCells t lo hi) x = true := Tab.wf_filter _ x h

/-- What a command does to flash keeps its canonical form. -/
theorem flashDo_wf (l : List FlashOp) : ∀ t : List Host.Cell, Tab.wf t 0xFF = true → Tab.wf (flashDo t l) 0xFF = true := by
  induction l with
  | nil => intro t h; exact h
  | cons o r ih =>
    intro t h
    cases o with
    | erase c => exact ih _ (clearCells_wf _ _ _ _ h)
    | write c off b => exact ih _ (putCells_wf _ _ _ _ h)

/-- A write of bytes leaves every address outside them alone. -/
theorem putCells_out (l : List Byte) : ∀ (t : List Host.Cell) (a b : Nat) (x y : Byte), (b < a ∨ a + l.length ≤ b) →
    Tab.get (putCells t a x l) b y = Tab.get t b y := by
  induction l with
  | nil => intro t a b x y _; rfl
  | cons v r ih =>
    intro t a b x y h
    simp only [List.length_cons] at h
    show Tab.get (putCells (Tab.set t a v x) (a + 1) x r) b y = _
    rw [ih _ _ _ _ _ (by omega)]
    exact Tab.get_set_ne t v x y (by omega)

/-- Bytes written read back. -/
theorem putCells_in (l : List Byte) : ∀ (t : List Host.Cell) (a i : Nat) (x v : Byte), l[i]? = some v →
    Tab.get (putCells t a x l) (a + i) x = v := by
  induction l with
  | nil => intro t a i x v h; simp at h
  | cons b r ih =>
    intro t a i x v h
    show Tab.get (putCells (Tab.set t a b x) (a + 1) x r) (a + i) x = v
    cases i with
    | zero =>
      simp only [List.getElem?_cons_zero, Option.some.injEq] at h
      rw [putCells_out _ _ _ _ _ _ (by omega), Nat.add_zero, Tab.get_set_same]
      exact h
    | succ i =>
      have e : a + (i + 1) = a + 1 + i := by omega
      rw [e]
      exact ih _ _ _ _ _ (by simpa using h)

/-- A query without CLEAR answers its words and leaves the device alone. -/
theorem Dev.readRegs_noclear (c : Ctl) (l : List (Place × Nat × Nat)) (d : Dev) :
    d.readRegs c false l = (l.map fun r => d.viewWord c (flds r.1 r.2.1) r.2.2, d) := by
  induction l with
  | nil => rfl
  | cons r l ih => obtain ⟨p, o, i⟩ := r; simp [Dev.readRegs, Dev.readReg, ih]

/-- The ports of an accepted layout lie within the eight (R17). -/
theorem layoutPorts_fit : ∀ v k i r, layoutPorts v k i = some r → ∀ x ∈ r, x.1 + 2 ^ x.2 ≤ 8 := by
  intro v k
  induction k with
  | zero =>
    intro i r hr x hx
    simp [layoutPorts] at hr
    obtain ⟨_, rfl⟩ := hr
    simp at hx
  | succ k ih =>
    intro i r hr x hx
    simp only [layoutPorts] at hr
    split at hr
    · simp at hr; subst hr; simp at hx
    · split at hr
      · exact ih _ _ hr x hx
      · split at hr
        · simp only [Option.map_eq_some_iff] at hr
          obtain ⟨r', hr', rfl⟩ := hr
          rcases List.mem_cons.mp hx with rfl | hx
          · rename_i hc; simp at hc; dsimp only; omega
          · exact ih _ _ hr' x hx
        · simp at hr

/-- A reply to the mailbox: its buffer holds the packet, the mailbox is DONE, and the rest of the state is as it was but for
the reply counters. -/
theorem State.replyOne_mbox (s : State) (t : Ticket) (status detail : Nat) (body : List Nat) (h : ¬t.issuer < 64) :
    s.replyOne t status detail body = { s with
      dev := (s.dev.countReply status).puts 0 [(CMP_MBOX_STATUS.STATE, 3), (CMP_MBOX_STATUS.DONE_SEEN, 1),
        (CMP_MBOX_STATUS.REPLY_LEN, (replyBytes s.ctl t status detail body).length)]
      mem := { s.mem with mboxReply := putCells [] 0 0 (byteList (replyBytes s.ctl t status detail body)) } } := by
  simp [State.replyOne, h]

/-- One reply leaves the complex state and the queue of commands alone. -/
theorem State.replyOne_ctl (s : State) (t : Ticket) (status detail : Nat) (body : List Nat) :
    (s.replyOne t status detail body).ctl = s.ctl ∧ (s.replyOne t status detail body).pending = s.pending := by
  unfold State.replyOne
  dsimp only
  split <;> exact ⟨rfl, rfl⟩

end Sys2Proof.Machine
end

