-- ==== Sys2Proof/Laws/Coding.lean ====
section
/-!
SUPPORT. What the line coding keeps: bits and numbers, precoding and its removal, filler deletion, and the segments of a body.
-/
namespace Sys2Proof.Machine

@[simp] theorem toBits_length (n w : Nat) : (toBits n w).length = w := by
  induction w generalizing n with
  | zero => rfl
  | succ w ih => simp [toBits, ih]

theorem ofBits_toBits (n w : Nat) : ofBits (toBits n w) = n % 2 ^ w := by
  induction w generalizing n with
  | zero => simp [toBits, ofBits, Nat.mod_one]
  | succ w ih =>
    have h : n % 2 ^ (w + 1) = n % 2 + 2 * (n / 2 % 2 ^ w) := by rw [Nat.pow_succ', Nat.mod_mul]
    rcases Nat.mod_two_eq_zero_or_one n with h0 | h0 <;> simp [toBits, ofBits, ih, h, h0, flag]

@[simp] theorem precode_length (prev : Nat) (l : List Nat) : (precode prev l).length = l.length := by
  induction l generalizing prev with
  | nil => rfl
  | cons g l ih => simp [precode, ih]

/-- A receiver that removes precoding gets the levels that were sent (R45). -/
theorem unprecode_precode (prev : Nat) (l : List Nat) (h : ∀ g ∈ l, g < 4) : unprecode prev (precode prev l) = l := by
  induction l generalizing prev with
  | nil => rfl
  | cons g l ih =>
    have hg : g < 4 := h g (by simp)
    simp only [precode, unprecode, ih _ fun x hx => h x (by simp [hx]), List.cons.injEq, and_true]
    omega

/-- Filler deletion leaves 8 bytes of a gap that has them, and repays no more than is owed (R70). -/
theorem deleteGap_owed (l : List Oct) (owed : Nat) :
    ∃ n, deleteGap l owed = (l.take 1 ++ l.drop (1 + n), owed - n) ∧ n ≤ owed ∧ (8 ≤ gapLen l → n + 8 ≤ gapLen l) ∧ n % 8 = 0 := by
  refine ⟨_, rfl, ?_, ?_, ?_⟩ <;> omega

/-- A body of L bytes takes ceil(L / 16) segments, none outside its port's positions (R20, R21). -/
theorem chunks_length {α : Type} (n fuel : Nat) (l : List α) (hn : 0 < n) (h : l.length ≤ n * fuel) :
    (chunks n fuel l).length = (l.length + n - 1) / n := by
  induction fuel generalizing l with
  | zero =>
    have : l = [] := List.eq_nil_of_length_eq_zero (by simpa using h)
    subst this; simp [chunks, Nat.div_eq_of_lt (Nat.sub_lt hn Nat.one_pos)]
  | succ k ih =>
    cases l with
    | nil => simp [chunks, Nat.div_eq_of_lt (Nat.sub_lt hn Nat.one_pos)]
    | cons a r =>
      have hd : ((a :: r).drop n).length ≤ n * k := by
        rw [List.length_drop]; rw [Nat.mul_succ] at h; omega
      simp only [chunks, List.length_cons]
      rw [ih _ hd, List.length_drop, List.length_cons]
      by_cases hl : r.length + 1 ≤ n
      · have e1 : r.length + 1 - n + n - 1 = n - 1 := by omega
        rw [e1, Nat.div_eq_of_lt (by omega)]
        have e2 : r.length + 1 + n - 1 = r.length + n := by omega
        rw [e2, Nat.add_div_right _ hn, Nat.div_eq_of_lt (by omega)]
      · have e : r.length + 1 + n - 1 = (r.length + 1 - n + n - 1) + n := by omega
        rw [e, Nat.add_div_right _ hn]

theorem segments_length (base w start slice : Nat) (bytes : List Byte) :
    (segments base w start slice bytes).length = (bytes.length + 15) / 16 := by
  simp only [segments, List.length_map, List.length_zipIdx]
  exact chunks_length 16 _ bytes (by decide) (by omega)

theorem segments_inside (base w start slice : Nat) (bytes : List Byte) (hw : 0 < w) :
    ∀ x ∈ segments base w start slice bytes, base ≤ x.position ∧ x.position < base + w := by
  intro x hx
  simp only [segments, List.mem_map] at hx
  obtain ⟨c, -, rfl⟩ := hx
  have := Nat.mod_lt (start + c.2) hw
  exact ⟨by simp, by simp; omega⟩

end Sys2Proof.Machine
end

