-- ==== Sys2Proof/Laws/Keeps.lean ====
section
/-!
SUPPORT. Which register fields an operation may change: `Dev.keeps S d e` says that `e` reads as `d` in every field whose
number is not in `S`. One lemma for each way of building an operation, then one for each shared operation.
-/
namespace Sys2Proof.Machine
open F

namespace Dev.keeps

theorem refl (S : List Nat) (d : Dev) : Dev.keeps S d d := fun _ _ _ => rfl

theorem trans {S : List Nat} {d e g : Dev} (h : Dev.keeps S d e) (k : Dev.keeps S e g) : Dev.keeps S d g :=
  fun G j hG => (k G j hG).trans (h G j hG)

theorem mono {S T : List Nat} {d e : Dev} (h : Dev.keeps T d e) (hs : ∀ x ∈ T, x ∈ S) : Dev.keeps S d e :=
  fun G j hG => h G j fun hT => hG (hs _ hT)

/-- A step by an operation with its own set. -/
theorem step {S T : List Nat} {d e g : Dev} (k : Dev.keeps T e g) (hs : ∀ x ∈ T, x ∈ S) (h : Dev.keeps S d e) :
    Dev.keeps S d g := h.trans (k.mono hs)

theorem put {S : List Nat} {d e : Dev} {F : Fld} {i v : Nat} (hF : F.id ∈ S) (h : Dev.keeps S d e) :
    Dev.keeps S d (e.put F i v) :=
  fun G j hG => (e.get_put_id i j v fun hh => hG (hh ▸ hF)).trans (h G j hG)

theorem add {S : List Nat} {d e : Dev} {F : Fld} {i n : Nat} (hF : F.id ∈ S) (h : Dev.keeps S d e) :
    Dev.keeps S d (e.add F i n) := put hF h
theorem inc {S : List Nat} {d e : Dev} {F : Fld} {i : Nat} (hF : F.id ∈ S) (h : Dev.keeps S d e) :
    Dev.keeps S d (e.inc F i) := put hF h
theorem wrap {S : List Nat} {d e : Dev} {F : Fld} {i n : Nat} (hF : F.id ∈ S) (h : Dev.keeps S d e) :
    Dev.keeps S d (e.wrap F i n) := put hF h
theorem clr {S : List Nat} {d e : Dev} {F : Fld} {i : Nat} (hF : F.id ∈ S) (h : Dev.keeps S d e) :
    Dev.keeps S d (e.clr F i) := put hF h

theorem puts {S : List Nat} {d e : Dev} {i : Nat} {l : List (Fld × Nat)}
    (hl : (l.all fun p => S.contains p.1.id) = true) (h : Dev.keeps S d e) : Dev.keeps S d (e.puts i l) := by
  intro G j hG
  refine (e.get_puts_id i j l fun p hp hh => hG ?_).trans (h G j hG)
  have := List.all_eq_true.mp hl p hp
  rw [hh] at this
  simpa using this

theorem clrs {S : List Nat} {d e : Dev} {i : Nat} {l : List Fld} (hl : (l.all fun F => S.contains F.id) = true)
    (h : Dev.keeps S d e) : Dev.keeps S d (e.clrs i l) := by
  intro G j hG
  refine (e.get_clrs_id i j l fun F hF hh => hG ?_).trans (h G j hG)
  have := List.all_eq_true.mp hl F hF
  rw [hh] at this
  simpa using this

/-- An update that leaves the register fields alone. -/
theorem other {S : List Nat} {d e g : Dev} (hf : g.f = e.f) (h : Dev.keeps S d e) : Dev.keeps S d g :=
  fun G j hG => (show g.get G j = e.get G j by simp [Dev.get, hf]).trans (h G j hG)

theorem each {S : List Nat} {d e : Dev} {l : List Nat} {g : Dev → Nat → Dev} (hg : ∀ x n, Dev.keeps S x (g x n))
    (h : Dev.keeps S d e) : Dev.keeps S d (e.each l g) :=
  Dev.each_keeps (P := fun x => Dev.keeps S d x) (fun x n hx => hx.trans (hg x n)) l e h

theorem foldl {α : Type} {S : List Nat} {d e : Dev} {l : List α} {g : Dev → α → Dev}
    (hg : ∀ x n, Dev.keeps S x (g x n)) (h : Dev.keeps S d e) : Dev.keeps S d (l.foldl g e) := by
  induction l generalizing e with
  | nil => exact h
  | cons a r ih => exact ih (h.trans (hg e a))

theorem ite {S : List Nat} {d a b : Dev} {c : Prop} [Decidable c] (ha : Dev.keeps S d a) (hb : Dev.keeps S d b) :
    Dev.keeps S d (if c then a else b) := by split <;> assumption

/-- A record update beside the register fields. -/
theorem upd {S : List Nat} {d e : Dev} {mir tim pds lanes ports macs gals members classes buckets chks fifos rings txStore cmp
    resets desk out free} (h : Dev.keeps S d e) : Dev.keeps S d
      ⟨e.f, mir, tim, pds, lanes, ports, macs, gals, members, classes, buckets, chks, fifos, rings, txStore, cmp, resets, desk,
        out, free⟩ := other rfl h

theorem setLane {S d e n l} (h : Dev.keeps S d e) : Dev.keeps S d (e.setLane n l) := other rfl h
theorem setPort {S d e p r} (h : Dev.keeps S d e) : Dev.keeps S d (e.setPort p r) := other rfl h
theorem setPd {S d e k p} (h : Dev.keeps S d e) : Dev.keeps S d (e.setPd k p) := other rfl h
theorem setMac {S d e p m} (h : Dev.keeps S d e) : Dev.keeps S d (e.setMac p m) := other rfl h
theorem setGal {S d e c g} (h : Dev.keeps S d e) : Dev.keeps S d (e.setGal c g) := other rfl h
theorem setRing {S d e r x} (h : Dev.keeps S d e) : Dev.keeps S d (e.setRing r x) := other rfl h
theorem setMember {S d e k m} (h : Dev.keeps S d e) : Dev.keeps S d (e.setMember k m) := other rfl h
theorem setCls {S d e c x} (h : Dev.keeps S d e) : Dev.keeps S d (e.setCls c x) := other rfl h
theorem setBucket {S d e b x} (h : Dev.keeps S d e) : Dev.keeps S d (e.setBucket b x) := other rfl h
theorem emit {S d e o} (h : Dev.keeps S d e) : Dev.keeps S d (e.emit o) := other rfl h

theorem portPut {S : List Nat} {d e : Dev} {p : Nat} {F : Fld} {v : Nat} (hF : F.id ∈ S) (h : Dev.keeps S d e) :
    Dev.keeps S d (e.portPut p F v) := each (fun x _ => put hF (refl S x)) h

end Dev.keeps

theorem Dev.vecGather_keeps (d : Dev) (v : Nat) : Dev.keeps eventIds d (d.vecGather v) := by
  unfold Dev.vecGather
  repeat' first
    | with_reducible exact Dev.keeps.refl _ _ | with_reducible apply Dev.keeps.ite | with_reducible apply Dev.keeps.puts | decide

theorem Dev.vecStart_keeps (d : Dev) (v : Nat) : Dev.keeps eventIds d (d.vecStart v) :=
  Dev.keeps.puts rfl (Dev.keeps.refl _ _)

theorem Dev.vecEvent_keeps (d : Dev) (v : Nat) : Dev.keeps eventIds d (d.vecEvent v) := by
  unfold Dev.vecEvent
  dsimp only
  split <;> repeat' first
    | with_reducible exact Dev.keeps.refl _ _ | with_reducible apply Dev.keeps.puts | with_reducible apply Dev.keeps.put | with_reducible apply Dev.keeps.inc
    | with_reducible apply Dev.keeps.step (Dev.vecGather_keeps _ _) | with_reducible apply Dev.keeps.step (Dev.vecStart_keeps _ _) | decide

theorem Dev.fire_keeps (d : Dev) (s x : Nat) (sw : Bool) : Dev.keeps eventIds d (d.fire s x sw) := by
  unfold Dev.fire
  dsimp only
  repeat' first
    | with_reducible exact Dev.keeps.refl _ _ | with_reducible apply Dev.keeps.ite | with_reducible apply Dev.keeps.puts | with_reducible apply Dev.keeps.put | with_reducible apply Dev.keeps.inc
    | with_reducible apply Dev.keeps.step (Dev.vecEvent_keeps _ _) | decide | rfl

theorem Dev.event_keeps (d : Dev) (s x : Nat) (sw : Bool) : Dev.keeps eventIds d (d.event s x sw) := by
  unfold Dev.event
  dsimp only
  repeat' first
    | with_reducible exact Dev.keeps.refl _ _ | with_reducible apply Dev.keeps.ite | with_reducible apply Dev.keeps.put
    | with_reducible exact Dev.fire_keeps _ _ _ _ | with_reducible apply Dev.keeps.step (Dev.fire_keeps _ _ _ _) | decide

theorem all_ite {α : Type} {c : Prop} [Decidable c] {a b : List α} {q : α → Bool} (ha : a.all q = true)
    (hb : b.all q = true) : (if c then a else b).all q = true := by split <;> assumption

/-- Every cause bit lies in a field of `causeIds`. -/
theorem srcFlags_causes (s : Nat) : ((srcFlags s).all fun g => causeIds.contains g.fld.id) = true := by
  unfold srcFlags
  dsimp only
  repeat' with_reducible apply all_ite
  all_goals first
    | rfl
    | split <;> rfl

theorem Dev.seen_keeps (d : Dev) (s b : Nat) : Dev.keeps seenIds d (d.seen s b) := by
  unfold Dev.seen
  split
  · exact Dev.keeps.refl _ _
  · rename_i g hg
    dsimp only
    have hid : g.fld.id ∈ seenIds :=
      List.mem_append.mpr (.inl
      (by simpa using List.all_eq_true.mp (srcFlags_causes s) g (List.mem_of_getElem? hg)))
    repeat' first
      | with_reducible exact Dev.keeps.refl _ _ | with_reducible apply Dev.keeps.ite | with_reducible apply Dev.keeps.put
      | with_reducible apply Dev.keeps.step (Dev.event_keeps _ _ _ _) | assumption | decide


theorem Dev.logFault_keeps (d : Dev) (r : Raised) (m : Bool) : Dev.keeps faultIds d (d.logFault r m) :=
  Dev.keeps.wrap (by decide) (Dev.keeps.puts rfl (Dev.keeps.refl _ _))

theorem Dev.openRecord_keeps (d : Dev) (r : Raised) : Dev.keeps faultIds d (d.openRecord r) :=
  Dev.keeps.puts rfl (Dev.keeps.refl _ _)

theorem Dev.mergeRecord_keeps (d : Dev) (r : Raised) (c : Nat) : Dev.keeps faultIds d (d.mergeRecord r c) :=
  Dev.keeps.inc (by decide) (Dev.keeps.inc (by decide) (Dev.keeps.puts rfl (Dev.keeps.refl _ _)))

theorem Dev.askSafe_keeps (d : Dev) : Dev.keeps faultIds d d.askSafe := by
  unfold Dev.askSafe
  split
  · exact Dev.keeps.refl _ _
  · split
    · exact Dev.keeps.put (by decide) (Dev.keeps.refl _ _)
    · exact Dev.keeps.other rfl (Dev.keeps.refl _ _)

theorem Dev.askLockup_f (d : Dev) (c : Nat) : (d.askLockup c).f = d.f := by
  unfold Dev.askLockup; split <;> rfl

theorem seen_fault : ∀ x ∈ seenIds, x ∈ faultIds := fun _ h => List.mem_append.mpr (.inr h)

theorem Dev.raise1_keeps (d : Dev) (r : Raised) (b : Bool) : Dev.keeps faultIds d (d.raise1 r b) := by
  unfold Dev.raise1
  split
  · exact Dev.keeps.refl _ _
  · extract_lets byte first d1 d2 d3 d4 k d5 d6
    have h1 : Dev.keeps faultIds d d1 :=
      (Dev.keeps.inc (by decide) (Dev.keeps.refl _ _)).trans (Dev.logFault_keeps _ _ _)
    have h2 : Dev.keeps faultIds d d2 := by
      refine Dev.keeps.ite ?_ ?_
      · exact h1.trans (Dev.openRecord_keeps _ _)
      · exact h1.trans (Dev.mergeRecord_keeps _ _ _)
    have h3 : Dev.keeps faultIds d d3 := Dev.keeps.ite (h2.trans ((Dev.seen_keeps _ _ _).mono seen_fault)) h2
    have h4 : Dev.keeps faultIds d d4 := Dev.keeps.ite (Dev.keeps.put (by decide) h3) h3
    have h5 : Dev.keeps faultIds d d5 := Dev.keeps.ite (Dev.keeps.other rfl h4) h4
    have h6 : Dev.keeps faultIds d d6 := Dev.keeps.ite (Dev.keeps.other (Dev.askLockup_f _ _) h5) h5
    exact Dev.keeps.ite (h6.trans (Dev.askSafe_keeps _)) h6

theorem Dev.faults_keeps (d : Dev) (l : List Raised) : Dev.keeps faultIds d (d.faults l) :=
  Dev.keeps.foldl (fun x r => Dev.raise1_keeps x r _) (Dev.keeps.refl _ _)

/-- A fault changes nothing but the fault desk, the event state and the cause bits. -/
theorem Dev.fault_keeps (d : Dev) (c u s i : Nat) : Dev.keeps faultIds d (d.fault c u s i) := Dev.faults_keeps d _

end Sys2Proof.Machine
end

