-- ==== Sys2Proof/Laws/Outcome.lean ====
section
/-!
SUPPORT. What the gates of Power.lean answer: with the clocks running a next state with the effect, without them the state
unchanged, with CHIP_REF lost the one fault.
-/
namespace Sys2Proof.Machine

theorem State.awake_iff (s : State) : s.awake = true ↔ s.ctl.supply = true ∧ s.ctl.refLost = false := by
  simp [State.awake]

theorem State.clocked_iff (s : State) :
    s.clocked = true ↔ s.ctl.supply = true ∧ s.ctl.refLost = false ∧ s.ctl.live = true := by
  simp [State.clocked, State.awake, and_assoc]

theorem State.aclk_awake {s : State} (h : s.awake = true) (g : State → State) : s.aclk g = .next (g s) := by
  obtain ⟨hs, hr⟩ := s.awake_iff.mp h
  simp [State.aclk, hs, hr]

theorem State.core_clocked {s : State} (h : s.clocked = true) (g : State → State) : s.core g = .next (g s) := by
  obtain ⟨hs, hr, hl⟩ := s.clocked_iff.mp h
  simp [State.core, State.aclk, hs, hr, hl]

theorem State.onDev_clocked {s : State} (h : s.clocked = true) (g : Ctl → Dev → Dev) :
    s.onDev g = .next { s with dev := g s.ctl s.dev } := State.core_clocked h _

theorem State.onIsland_awake {s : State} (h : s.awake = true) (g : Ctl → Dev → Dev) :
    s.onIsland g = .next { s with dev := g s.ctl s.dev } := State.aclk_awake h _

theorem State.clocked_awake {s : State} (h : s.clocked = true) : s.awake = true := by
  simp [State.clocked] at h; exact h.1

/-- Everything an ACLK command can answer. -/
theorem State.aclk_cases (s : State) (g : State → State) :
    (s.ctl.refLost = true ∧ s.aclk g = .fault .chipRefAbsent) ∨
    (s.ctl.refLost = false ∧ s.ctl.supply = false ∧ s.aclk g = .next s) ∨
    (s.awake = true ∧ s.aclk g = .next (g s)) := by
  unfold State.aclk State.awake
  cases h : s.ctl.refLost <;> cases k : s.ctl.supply <;> simp

/-- Everything a clocked command can answer. -/
theorem State.core_cases (s : State) (g : State → State) :
    (s.ctl.refLost = true ∧ s.core g = .fault .chipRefAbsent) ∨
    (s.clocked = false ∧ s.core g = .next s) ∨
    (s.clocked = true ∧ s.core g = .next (g s)) := by
  unfold State.core State.aclk State.clocked State.awake
  cases h : s.ctl.refLost <;> cases k : s.ctl.supply <;> cases l : s.ctl.live <;> simp [l]

end Sys2Proof.Machine
end

