-- ==== Sys2Proof/Laws/Kiland.lean ====
section
/-!
SUPPORT. A Kiland command that passes its checks commits what its meaning leaves (R304, R306): what every command row cites.
-/
namespace Sys2Proof.Machine

/-- Everything a passed command does. -/
theorem State.kiland_next {s s1 : State} {k : KSpec} {p : Pkt} {t : Ticket} {x : Done} (h : s.Passes k p s1 t)
    (hr : k.run s1.cx p s1.dev = .ok x) (ha : s1.admits k x.dev) : s.kiland k p = .next ((s1.commit p t x).lastReply t) := by
  have hj : k.judge s1.cx p s1.dev = .ok x := by
    have ha' : x.dev.admitRef s1.cx.ctl s1.cx.cfgMode k.admits = none := ha
    simp [KSpec.judge, hr, ha']
  simp [State.kiland, State.core_clocked h.clocked, State.execute, h.taken, h.going, h.checks, h.real, hj]

/-- A command whose effect falls under no admission. -/
theorem State.admits_zero (s : State) {k : KSpec} (h : k.admits = 0) (d : Dev) : s.admits k d := by
  simp [State.admits, Dev.admitRef, h]

/-- A plain effect: the device it leaves, and the reply. -/
theorem State.commit_done {s : State} {p : Pkt} (t : Ticket) (d : Dev) (body : List Nat) (hp : p.dryRun = false) :
    (s.commit p t (done d body)).lastReply t = s.answered d t body := by
  simp [State.commit, hp, done, State.answered, State.replied, CtlOp.apply, flashDo]

/-- An edit of configuration fields: the device after it, and the reply. -/
theorem State.commit_edit {s : State} {p : Pkt} (t : Ticket) (d : Dev) (l : List Edit) (g : Dev → Dev)
    (hp : p.dryRun = false) : (s.commit p t (doneEdit d l g)).lastReply t = s.answered (g (d.edit l)) t [] := by
  simp [State.commit, hp, doneEdit, State.answered, State.replied, CtlOp.apply, flashDo]

/-- An effect whose reply waits. -/
theorem State.commit_wait {s : State} {p : Pkt} (t : Ticket) (d : Dev) (w : Wait) (hp : p.dryRun = false) :
    (s.commit p t (doneWait d w)).lastReply t = s.waiting d t w := by
  simp [State.commit, hp, doneWait, State.waiting, State.held, CtlOp.apply, flashDo]

end Sys2Proof.Machine
end

