-- ==== Sys2Proof/WellFormed.lean ====
section
/-!
DEFINITION. When a command is well formed: every number in it names something that exists on the chip (Tables 1 to 5, 88,
93, 100, 134). An event about nothing the chip has is no event; the machine leaves its state alone where one is given.
-/
namespace Sys2Proof

/-- A lane, an eight, a port with the eight recirculation ports (R3, R19), a class, a function, a partner context. -/
def laneOk (n : Nat) : Bool := decide (n < 1024)
def eightOk (n : Nat) : Bool := decide (n < 128)
def portOk (n : Nat) : Bool := decide (n < 1032)
def classOk (n : Nat) : Bool := decide (n < 16)
def functionOk (n : Nat) : Bool := decide (n < 64)
def partnerOk (n : Nat) : Bool := decide (n < 16384)

/-- A software proof engine (Table 71), a queue and a ring of the host engine (R243), a target, a vector and a source of
the event controller (R280), a sideband line. -/
def engineOk (n : Nat) : Bool := decide (n < 16)
def queueOk (n : Nat) : Bool := decide (n < 4096)
def ringOk (n : Nat) : Bool := decide (n < 8448)
def targetOk (n : Nat) : Bool := decide (n < 256)
def vectorOk (n : Nat) : Bool := decide (n < 1024)
def sourceOk (n : Nat) : Bool := decide (n < 65536)
def lineOk (n : Nat) : Bool := decide (n < 258)

/-- An extent of the galley, a cell of an extent, a channel (R134). -/
def extentOk (n : Nat) : Bool := decide (n < 65536)
def cellOk (n : Nat) : Bool := decide (n < 8192)
def channelOk (n : Nat) : Bool := decide (n < 64)

/-- A power domain (Table 17), a bank domain among them. -/
def domainOk (n : Nat) : Bool := decide (n < 35)
def bankDomainOk (n : Nat) : Bool := decide (n < 32)

/-- An issuer of Kiland commands: a function, or 64 for the mailbox (R299). -/
def issuerOk (n : Nat) : Bool := decide (n ≤ 64)

/-- An offset of the register window (R376), an access width in bytes, a word of the impression, a byte of an image
copy. -/
def offsetOk (n : Nat) : Bool := decide (n < 0x4000000)
def sizeOk (n : Nat) : Bool := n == 1 || n == 2 || n == 4 || n == 8
def wordAddrOk (n : Nat) : Bool := decide (n < 32768)
def flashOffsetOk (n : Nat) : Bool := decide (n < 0x1000000)

/-- A reset scope of Table 19. -/
def scopeOk : Machine.Scope → Bool
  | .bank b => decide (b < 16)
  | .eight e => eightOk e
  | .port p => portOk p

/-- A shaper that is refilled. -/
def selOk : ShaperSel → Bool
  | .port p => portOk p
  | .partner q => partnerOk q

/-- A packet whose header fields fit theirs and whose parameter words are those its PLEN counts (Table 100, R300). -/
def Pkt.wf (p : Pkt) : Bool :=
  issuerOk p.issuer && decide (p.seq < 2 ^ 32) && decide (p.plen < 2 ^ 16) && decide (p.target < 2 ^ 16) &&
    p.words.length == p.plen / 8 && p.words.all fun w => decide (w < 2 ^ 64)

/-- A head decision is made on 64 bytes (R114). -/
def HeadRx.wf (h : HeadRx) : Bool := portOk h.port && h.bytes.length == 64

/-- Transmit metadata is one 64-bit word (Table 43). -/
def StartTx.wf (x : StartTx) : Bool := portOk x.port && decide (x.md < 2 ^ 64)

/-- A command is well formed. -/
def Instr.wf (i : Instr) : Bool :=
  match i with
  | .sessionInfo p => p.wf
  | .stateGet p => p.wf
  | .cpxReset p => p.wf
  | .complexReset => true
  | .bankReset p => p.wf
  | .eightReset p => p.wf
  | .portReset p => p.wf
  | .resetComplete scope => scopeOk scope
  | .modeSet p => p.wf
  | .modeSwitchCommit => true
  | .startModeSwitch => true
  | .imageInfo p => p.wf
  | .imageWriteBegin p => p.wf
  | .imageWriteData p => p.wf
  | .imageWriteEnd p => p.wf
  | .imageRead p => p.wf
  | .imageAbort p => p.wf
  | .commandWaitEnd issuer => issuerOk issuer
  | .kilLen issuer => issuerOk issuer
  | .commandPacketRefused issuer _ => issuerOk issuer
  | .laneLaunch p => p.wf
  | .laneStop p => p.wf
  | .laneEasy p => p.wf
  | .laneWake p => p.wf
  | .laneLaunchCfg p => p.wf
  | .laneEqSet p => p.wf
  | .lanePolarity p => p.wf
  | .lanePattern p => p.wf
  | .laneRosterGet p => p.wf
  | .portLayout p => p.wf
  | .portMacCfg p => p.wf
  | .portSaSet p => p.wf
  | .portDeal p => p.wf
  | .portCountersGet p => p.wf
  | .galPortCfg p => p.wf
  | .galClassCfg p => p.wf
  | .galMap p => p.wf
  | .galHeadroom p => p.wf
  | .galStatusGet p => p.wf
  | .galScrubCfg p => p.wf
  | .galFlush p => p.wf
  | .galCountersGet p => p.wf
  | .coxPortShape p => p.wf
  | .coxClassCfg p => p.wf
  | .ptnSet p => p.wf
  | .ptnPolice p => p.wf
  | .coxTelem p => p.wf
  | .coxCountersGet p => p.wf
  | .coxGuarQuery p => p.wf
  | .timStep p => p.wf
  | .timFreq p => p.wf
  | .timSlew p => p.wf
  | .timGet p => p.wf
  | .timLaneLat p => p.wf
  | .timPortCfg p => p.wf
  | .gateClassCfg p => p.wf
  | .gatePortCfg p => p.wf
  | .gateListLoad p => p.wf
  | .gateListCommit p => p.wf
  | .gateStop p => p.wf
  | .gateCountersGet p => p.wf
  | .timEnable p => p.wf
  | .prfProfileSet p => p.wf
  | .prfStreamSet p => p.wf
  | .prfRecReset p => p.wf
  | .prfTxAliveSet p => p.wf
  | .prfStatusGet p => p.wf
  | .hpeFnCfg p => p.wf
  | .hpeQueueAssign p => p.wf
  | .hpeQueueCfg p => p.wf
  | .hpeQueueStart p => p.wf
  | .hpeFnReset p => p.wf
  | .hpeStatusGet p => p.wf
  | .evcSrcCfg p => p.wf
  | .evcVecCfg p => p.wf
  | .evcTgtCfg p => p.wf
  | .evcTsetSet p => p.wf
  | .evcSbCfg p => p.wf
  | .evcStatusGet p => p.wf
  | .fltStatusGet p => p.wf
  | .fltAck p => p.wf
  | .fltReactionSet p => p.wf
  | .fltSafeCfg p => p.wf
  | .fltInject p => p.wf
  | .lckCfg p => p.wf
  | .lckTrigger p => p.wf
  | .lckImpressionRead p => p.wf
  | .lckImpressionClear p => p.wf
  | .fence p => p.wf
  | .barrier p => p.wf
  | .registerWrite _ offset size _ => offsetOk offset && sizeOk size
  | .rcRead _ offset size => offsetOk offset && sizeOk size
  | .accessError _ offset size _ => offsetOk offset && sizeOk size
  | .cpxPdCtlWrite _ => true
  | .mboxGo _ => true
  | .doorbell function _ => functionOk function
  | .doorbellFence function _ queue => functionOk function && queueOk queue
  | .hpePageReset function => functionOk function
  | .functionLevelReset function => functionOk function
  | .functionResetDone f => functionOk f
  | .stepGo _ _ => true
  | .timebaseStep => true
  | .slewGo => true
  | .slewDone => true
  | .snapGo => true
  | .prfEngCfg engine _ _ => engineOk engine
  | .preset engine _ _ => engineOk engine
  | .start engine => engineOk engine
  | .prfEngFeedB engine _ => engineOk engine
  | .prfEngFeedH engine _ => engineOk engine
  | .prfEngFeedW engine _ => engineOk engine
  | .engineFifoEntry engine => engineOk engine
  | .prfEngResultRead engine _ => engineOk engine
  | .inject lane => laneOk lane
  | .evcPendSet source => sourceOk source
  | .evcPendClr source => sourceOk source
  | .evcTgtClaim target => targetOk target
  | .evcTgtEoi target vector _ => targetOk target && vectorOk vector
  | .evcVecMask vector _ => vectorOk vector
  | .ackedWrite => true
  | .lckSideTrigger => true
  | .lckSideRelease => true
  | .lckSideClear => true
  | .imprTrigger => true
  | .imprRelease => true
  | .imprClear => true
  | .imprData addr => addr.all wordAddrOk
  | .islandPowerOn => true
  | .p9ChipReset => true
  | .chipRefLoss => true
  | .pllLock => true
  | .pllUnlock => true
  | .compositorBoot => true
  | .bootRetry => true
  | .imageLoadComplete failA failB => failA.all flashOffsetOk && failB.all flashOffsetOk
  | .galleyTrainingDone _ => true
  | .galleyClearDone => true
  | .readyEntry _ => true
  | .fwHeartbeat => true
  | .fwWatchdog => true
  | .domainOn k => domainOk k
  | .domainOff k => domainOk k
  | .bankPower k => bankDomainOk k
  | .domainIdleOff k => bankDomainOk k
  | .refWindowEnd eight _ => eightOk eight
  | .txPllLocked eight => eightOk eight
  | .txPllUnlock eight => eightOk eight
  | .losAssert lane => laneOk lane
  | .losDeassert lane => laneOk lane
  | .cdrLock lane => laneOk lane
  | .cdrUnlock lane => laneOk lane
  | .rxPpmUpdate lane _ => laneOk lane
  | .attentionDeclared lane _ => laneOk lane
  | .attnSendDone port => portOk port
  | .wakeWaitExpiry port => portOk port
  | .quietPeriodEnd port => portOk port
  | .clause73Complete port _ => portOk port
  | .detectTimeout port => portOk port
  | .trainingFrame lane _ => laneOk lane
  | .trainingLockLoss lane => laneOk lane
  | .eyeMeasurement lane _ => laneOk lane
  | .peakTrackStep lane _ => laneOk lane
  | .trainTimeout port => portOk port
  | .codingTxStart port => portOk port
  | .rosterTimeout port => portOk port
  | .codewordReceived port _ _ => portOk port
  | .commaBlock lane _ => laneOk lane
  | .alignLossTimeout port => portOk port
  | .hiserWindowEnd port => portOk port
  | .txEasyEntryDone port => portOk port
  | .easyExpectLapse port => portOk port
  | .wakeTimeout port => portOk port
  | .modPrsChange eight _ => eightOk eight
  | .modIntChange eight _ => eightOk eight
  | .cpxWake _ => true
  | .lockupReq _ => true
  | .sidebandGlitch line => lineOk line
  | .sidebandLatchEdge line => lineOk line
  | .filterClockStop line => lineOk line
  | .rxHeadDecision h => h.wf
  | .headHandoff port _ _ => portOk port
  | .rxFrameEnd e => portOk e.port
  | .rxRmOverflow port _ => portOk port
  | .aliveJudgement partner _ _ port => partnerOk partner && portOk port
  | .recordAgeWalk => true
  | .rxPauseTimerLoad port => portOk port
  | .rxPauseTimerExpiry port timer => portOk port && decide (timer < 9)
  | .recircLateDiscard port => portOk port
  | .occupancyReport port cls _ => portOk port && classOk cls
  | .reportStale port cls => portOk port && classOk cls
  | .xoffFallReport port prio => portOk port && decide (prio < 8)
  | .fcRefreshExpiry port => portOk port
  | .controlFrameSend port => portOk port
  | .galleyRelease port _ _ => portOk port
  | .galleyAgeCheck port cls => portOk port && classOk cls
  | .scrubVisit extent cell _ _ => extentOk extent && cellOk cell
  | .scrubPassDone => true
  | .extentSwap extent => extentOk extent
  | .queueArrive port cls partner _ => portOk port && classOk cls && partner.all partnerOk
  | .queueFront port cls partner _ => portOk port && classOk cls && partner.all partnerOk
  | .queueDrop port cls partner _ => portOk port && classOk cls && partner.all partnerOk
  | .coxDecision port => portOk port
  | .shaperRefill which => selOk which
  | .policerRefill partner => partnerOk partner
  | .ageingWalk => true
  | .telemetryWalk => true
  | .txFrameStart x => x.wf
  | .txFrameEnd port _ _ => portOk port
  | .txUnderrun port => portOk port
  | .stampMove => true
  | .gateEntryBoundary port => portOk port
  | .switchGuardStart port => portOk port
  | .gateSwitch port => portOk port
  | .windowCutoff port cls => portOk port && classOk cls
  | .indexLineReadDone ring _ => ringOk ring
  | .descriptorFetchDone ring _ => ringOk ring
  | .descriptorRetry ring _ => ringOk ring
  | .txQueueService _ => true
  | .hostTxHandoff => true
  | .hostRxFrame queue _ => queueOk queue
  | .hostRxDeliver queue => queueOk queue
  | .starveTimeout queue => queueOk queue
  | .publishTimer ring => ringOk ring
  | .recordPost ring => ringOk ring
  | .recordRingPoll ring => ringOk ring
  | .hostReadFault ring => ringOk ring
  | .sourceEvent source _ => sourceOk source
  | .coalTimerExpiry vector => vectorOk vector
  | .routeCommit => true
  | .faultReaction => true
  | .safeEntry => true
  | .safeExit => true
  | .lockupEntry => true
  | .captureComplete => true
  | .autoRelease => true
  | .lockupRelease => true
  | .islandSupplyLoss => true
  | .chipRefReturn => true
  | .mirrorRefresh eight _ _ => eightOk eight
  | .galleyChannelError channel => channelOk channel
  | .patternCheckerLock rx => laneOk rx.lane
  | .patternCheckerLost lane _ _ => laneOk lane

end Sys2Proof
end

