-- ==== Sys2Proof/Tests/Slice0.lean ====
section
/-!
SUPPORT. The model's own tests: the checks of WellFormed refuse an ill-formed term each; worked examples and tables of the
spec; and, for every statement with hypotheses, states and operands that meet them, clause by clause.
-/
open Sys2Proof Sys2Proof.Machine Sys2Proof.Machine.F

namespace Sys2Proof.Tests

set_option Elab.async false

/-- A device with some fields written. -/
def fields (l : List (Fld × Nat × Nat)) (d : Dev) : Dev := l.foldl (fun d e => d.put e.1 e.2.1 e.2.2) d

/-- A device that serves function 0: the ports of eights 0 and 1 only (lanes 0 and 8, eight wide), domains 0, 1, 32, 33 on, the
function enabled with its command and reply rings running and one descriptor of a packet of up to 8192 bytes ready. -/
def base : Dev := { Dev.blank with
  f := [((LN_EIGHT_PORTMAP.FIRST 0).id, (List.range 126).map fun e => (e + 2, 0)), (COX_PORT_GUAR.AVAIL_KBPS.id, [(8, 1584000000)]),
    (COX_PORT_GUAR.FREE_KBPS.id, [(8, 1584000000)]), (GATE_GUARD.GUARD_NEED_NS.id, [(8, 47)]), (RING_STATE.STATE.id, [(8192, 1), (8193, 1)]),
    (HPE_FN_CFG.ENABLE.id, [(0, 1)])]
  pds := [(0, ⟨2, false, false⟩), (1, ⟨2, false, false⟩), (32, ⟨2, false, false⟩), (33, ⟨2, false, false⟩)]
  rings := [(8192, { RingSt.reset with ready := [8192 * 2 ^ 64] })] }

/-- The base device with some fields written. -/
def with_ (l : List (Fld × Nat × Nat)) : Dev := fields l base

/-- A RUNNING complex in a mode, with a device. -/
def runs (m : Mode) (d : Dev) : State :=
  ⟨⟨.running, some m, true, true, false, true, true, none, false, none⟩, d, ⟨[], [], [], []⟩, []⟩

/-- A complex in another complex state. -/
def stands (x : CpxState) (d : Dev) : State :=
  ⟨⟨x, none, true, true, false, true, true, none, false, none⟩, d, ⟨[], [], [], []⟩, []⟩

/-- A packet of function 0. -/
def packet (target : Nat) (words : List Nat) : Pkt := ⟨0, 7, 8 * words.length, false, false, false, target, words⟩

/-- The premise `Passes` of a Kiland command of function 0, and one more of the state after its take, as a test. -/
def passes (s : State) (k : KSpec) (p : Pkt) (more : State → Bool := fun _ => true) : Bool :=
  match s.take k.opcode p with
  | (s1, some _) => s.clocked && !s1.dev.ending && (k.preCheck s1.cx p s1.dev).isNone && !p.dryRun && more s1
  | _ => false

/-- What `passes` tests is `Passes`. -/
theorem passes_holds (s : State) (k : KSpec) (p : Pkt) (more : State → Bool) (h : passes s k p more = true) :
    ∃ s1 t, s.Passes k p s1 t ∧ more s1 = true := by
  unfold passes at h
  split at h
  · next s1 t e =>
    simp only [Bool.and_eq_true, Bool.not_eq_true', Option.isNone_iff_eq_none] at h
    exact ⟨s1, t, ⟨h.1.1.1.1, e, h.1.1.1.2, h.1.1.2, h.1.2⟩, h.2⟩
  · cases h

/-- The state after a command of function 0 is taken from the base device in FABRIC. -/
def taken : State := ((runs .fabric base).take 0 (packet 0 [])).1

/-- Its configuration is admitted, by every admission a command's effect falls under. -/
theorem taken_admitted : (taken.dev.admitRef taken.ctl taken.cx.cfgMode 2).isNone = true ∧
    (taken.dev.admitRef taken.ctl taken.cx.cfgMode 1).isNone = true := by decide +kernel

/-- A clause whose effect leaves the configuration of `taken` as it was, which is admitted. -/
def same (s : State) (d : Dev) : Bool := decide (s = taken ∧ d = taken.dev)

/-- The image of a register's configuration fields as they are. -/
def image (d : Dev) (p : Place) (off i : Nat) : Nat := (cfgFlds p off).foldl (fun n F => n + d.get F i * 2 ^ F.lo) 0

/-- A list of one entry of 1000 ns, all gates open, in the staging slot of port 8, the timebase at one second; the same list in
force for a stop. -/
def staged : Dev := (with_ [(TIM_CTL.EN, 0, 1)]).listLoad 8 0 1 [0xFFFF + 1000 * 2 ^ 32]
def listed : Dev := fields [(GATE_PORT_STATUS.STATE, 8, gsRun)] (staged.put (slotCycle 0) 8 1000)

/-! ## WellFormed: one ill-formed command for each check -/

theorem test_wf_numbers : [Instr.losAssert 1024, .txPllLocked 128, .codingTxStart 1032, .galleyAgeCheck 0 16, .functionResetDone 64,
    .policerRefill 16384, .start 16, .hostRxDeliver 4096, .publishTimer 8448, .evcTgtClaim 256, .coalTimerExpiry 1024,
    .evcPendSet 65536, .sidebandGlitch 258, .extentSwap 65536, .scrubVisit 0 8192 false none, .galleyChannelError 64,
    .domainOn 35, .bankPower 32, .kilLen 65].all (fun i => !i.wf) = true := by decide

theorem test_wf_accesses : [Instr.rcRead .host 0x4000000 8, .rcRead .host 0 3, .imprData (some 32768),
    .imageLoadComplete (some 0x1000000) none, .resetComplete (.bank 16), .shaperRefill (.partner 16384),
    .rxPauseTimerExpiry 0 9, .xoffFallReport 0 8].all (fun i => !i.wf) = true := by decide

theorem test_wf_packets : [Instr.fence ⟨65, 0, 0, false, false, false, 0, []⟩, .fence ⟨0, 0, 8, false, false, false, 0, []⟩,
    .fence ⟨0, 2 ^ 32, 0, false, false, false, 0, []⟩, .rxHeadDecision ⟨0, true, true, [], false, false, 0, 0⟩,
    .txFrameStart ⟨0, 2 ^ 64, [], 0, 0⟩].all (fun i => !i.wf) = true := by decide

theorem test_wf_accepts : [Instr.losAssert 1023, .rcRead .host 0x3FFFFF8 8, .imprData none, .fence (packet 0 []),
    .evcTgtEoi 255 1023 true, .resetComplete (.port 1031)].all (fun i => i.wf) = true := by decide

/-! ## Worked examples and tables of the spec -/

def ascii9 : List Nat := [0x31, 0x32, 0x33, 0x34, 0x35, 0x36, 0x37, 0x38, 0x39]

/-- R223 and its example: the check values of the presets over "123456789". -/
theorem test_crc_check_values : crcOf crc32 ascii9 = 0xCBF43926 ∧ crcOf crc32c ascii9 = 0xE3069283 := by decide +kernel

/-- R223's example: the last FEED_B 0x39 on engine 3, and the read of its result. -/
theorem test_engine_result : (match exec (.prfEngResultRead 3 true) (runs .fabric
      ((with_ [(PRF_ENG_CFG.WIDTH, 3, 32), (PRF_ENG_CFG.REFIN, 3, 1), (PRF_ENG_CFG.REFOUT, 3, 1), (PRF_ENG_POLY.POLY, 3, 0x1EDC6F41),
        (PRF_ENG_INIT.INIT, 3, 0xFFFFFFFF), (PRF_ENG_XOROUT.XOROUT, 3, 0xFFFFFFFF)]).setFifo 3
        [.start, .feed 4 0x34333231, .feed 4 0x38373635, .feed 1 0x39])) with
    | .next s => s.dev.out
    | _ => []) = [.readData 0x2601330 0xE3069283] := by decide +kernel

/-- The headroom example of R146: 800G, 80 km, MAX_FRAME 9216, TX_IPG 12, PART_RESP_NS 200. -/
theorem test_headroom : headroomOf 4 80000 9216 12 200 = 80076558 := by decide

/-- The packet example of group 0x05: QUOTA_EXT 40 on class 3 of port 64 is refused with 84,270,862 bytes needed, 41 is not. -/
def wide64 (quota : Nat) : Dev := with_ [(LN_EIGHT_PORTMAP.FIRST 0, 8, 1), (LN_EIGHT_PORTMAP.WIDTH 0, 8, 2), (GAL_FC_CFG.FIBRE_M, 64, 80000),
  (MAC_PORT_CFG.PFC_EN, 64, 1), (MAC_PORT_CFG.MAX_FRAME, 64, 9216), (GAL_PC_CFG.FC_MODE, 1027, fcGalley),
  (GAL_PC_CFG.QUOTA_EXT, 1027, quota), (GAL_PC_CFG.XON_GAP_KIB, 1027, 4096)]
theorem test_quota : (wide64 40).admitGalleyPort true 64 = some ⟨64, 3, 0x0505, 84270862⟩ ∧
    (wide64 41).admitGalleyPort true 64 = none ∧
    (wide64 41).admitGalleyPort false 64 = some ⟨64, 0xFF, 0x0501, 80000⟩ := by decide +kernel

/-- The example of R173: partner 812, shaped at 100 then 10 Mb/s: 4,194,304 and 419,430 in units of 2^-16 byte, and a debt that
163 refills pay. -/
def refills : Nat → Bucket → Bucket
  | 0, b => b
  | n + 1, b => refills n (b.refilled 10000 500 5120 16024)
theorem test_refills : refillInc 100000 5120 = 4194304 ∧ refillInc 10000 5120 = 419430 ∧
    (refills 162 ⟨-1038 * 65536, 100000, false⟩).tok < 0 ∧ 0 < (refills 163 ⟨-1038 * 65536, 100000, false⟩).tok := by decide +kernel

/-- The example of R180 on an 800G port: the classes the example does not name are
shaped to 1 kb/s; class 0's weight 32 is refused with GUAR_WEIGHT, 40 is admitted. -/
def fairPort (w0 : Nat) : Dev := with_ ([(LN_EIGHT_PORTMAP.FIRST 0, 8, 1), (LN_EIGHT_PORTMAP.WIDTH 0, 8, 2),
    (COX_CLASS_CFG.KIND, 1039, 1), (COX_CLASS_CFG.KIND, 1038, 1), (COX_CLASS_SHAPER.RATE_KBPS, 1039, 50000000),
    (COX_CLASS_SHAPER.RATE_KBPS, 1038, 50000000)] ++
  ([(3, 128, 300), (2, 64, 150), (1, 32, 50), (0, w0, 100)].flatMap fun x =>
    [(COX_CLASS_CFG.WEIGHT, 1024 + x.1, x.2.1), (COX_CLASS_GUAR.GUAR_KBPS, 1024 + x.1, x.2.2 * 1000000)]) ++
  ((List.range 10).flatMap fun i => [(COX_CLASS_CFG.KIND, 1028 + i, 1), (COX_CLASS_SHAPER.RATE_KBPS, 1028 + i, 1)]))

theorem test_guarantees : (fairPort 32).admitCoxPort 64 = some ⟨64, 0, 0x0602, 100000000⟩ ∧ (fairPort 40).admitCoxPort 64 = none := by
  decide +kernel

/-- The heat list of Table 68 at 200G and 1.6T. -/
def heatPort : Dev := with_ ([(GATE_CLASS_CFG.SCHED, 143, 1), (COX_CLASS_CFG.KIND, 143, 1), (GATE_CLASS_CFG.MAX_LEN, 143, 256),
  (MAC_PORT_CFG.MAX_FRAME, 8, 12000), (MAC_PORT_CFG.TX_IPG, 8, 12), (MAC_PORT_CFG.PFC_EN, 8, 1)])
def heat68 (guard : Nat) : Heat := ⟨[(0x8000, 10000), (0x7FFF, 90000 - guard), (0, guard)], 100000, 0⟩
theorem test_guard_need : heatPort.guardNeed 8 1 (heat68 300).anywhere = 481 ∧ heatPort.guardNeed 8 8 (heat68 300).anywhere = 61 := by
  decide +kernel
theorem test_bound_refused : (match heatPort.admitClass 8 1 (heat68 300) 15 with
    | .error e => e
    | .ok _ => (0, 0)) = (0x0702, 773) := by decide +kernel
theorem test_bound_admitted : [(1, 481), (8, 300)].map (fun x => match heatPort.admitClass 8 x.1 (heat68 x.2) 15 with
    | .error _ => (0, 0)
    | .ok r => (r, r + heatPort.xNs 8 x.1 15)) = [(304, 316), (244, 246)] := by decide +kernel

/-- Table 74: profile 5 and record 77 over the frames of the trace that reach judgement: outcome, LAST and map after each. -/
def trace74 : List (Nat × Nat) → Dev → List (Judged × Nat × Nat)
  | [], _ => []
  | (a, v) :: r, d =>
    let x := d.judge 5 77 a v 64
    (x.1, x.2.get PRF_REC_STATUS.LAST 77, x.2.get PRF_REC_STATUS.MAP 77) :: trace74 r x.2
theorem test_table_74 : trace74 [(10, 1), (10, 1), (11, 2), (11, 2), (12, 3), (14, 4), (13, 5), (14, 6), (40, 7), (15, 8)]
    (with_ [(PRF_PROF_CFG.ACW, 5, 1), (PRF_PROF_SEQ.WINDOW, 5, 16), (PRF_PROF_SEQ.HIST, 5, 8), (PRF_PROF_CFG.COMPARE, 5, 1),
      (PRF_PROF_CFG.RESYNC, 5, 3), (PRF_REC_STATUS.FRESH, 77, 1)]) =
    [(.pass, 10, 0xFF), (.duplicate, 10, 0xFF), (.pass, 11, 0xFF), (.duplicate, 11, 0xFF), (.pass, 12, 0xFF), (.pass, 14, 0xFE),
      (.pass, 14, 0xFF), (.duplicate, 14, 0xFF), (.outOfWindow, 14, 0xFF), (.pass, 15, 0xFF)] := by decide +kernel

/-- The address example of R376: lane 613, port 608, and the event source 0x1301. -/
def port608 : Dev := with_ [(LN_EIGHT_PORTMAP.FIRST 0, 76, 1), (LN_EIGHT_PORTMAP.WIDTH 0, 76, 3)]
theorem test_addresses : [0x1945008, 0x1940808, 0x1948110, 0x21980C0, 0x220A800, 0x2443000, 0x27AC028, 0x194C0C0,
    0x3044C04].map port608.slotOf = [.reg .lane 613 8, .reg .pcs 608 8, .reg .mac 608 0x110, .reg .galclass 9731 0,
      .reg .coxport 608 0, .reg .gateport 608 0, .reg .txalive 38917 0, .reg .launch 613 8, .reg .srccfg 0x1301 0] := by
  decide +kernel

/-- R121: a 64-byte frame with one VLAN tag may give a length up to 42 and no less than what it carries. -/
theorem test_length_with_tag : lenMismatch true 1 42 64 = false ∧ lenMismatch true 1 43 64 = true ∧ lenMismatch true 0 46 64 = false := by
  decide

/-- The doorbell example: transmit queue 40 of function 3 with a fence. -/
theorem test_doorbell_word : bitsOf 0x8028 0 12 = 40 ∧ bitsOf 0x8028 12 3 = 0 ∧ bitAt 0x8028 15 = true := by decide

/-- R253's example on a ring of 256: GEN 1 up to index 0xFFFFFFFF and GEN 0 from index 0; the tail is 20 ahead. -/
theorem test_ring_marks : (with_ [(RING_CFG.LOG2_SIZE, 40, 8)]).wantGen 40 0xFFFFFFF0 = 1 ∧
    (with_ [(RING_CFG.LOG2_SIZE, 40, 8)]).wantGen 40 3 = 0 ∧ idxSub 4 0xFFFFFFF0 = 20 := by decide +kernel

/-- Table 96, first step: of vectors 100 (PRIO 5 at its commit) and 200 (PRIO 9) SENT to target 4, a claim takes 200, and its source 0x254A
is the line of eight 20. -/
theorem test_claim : (with_ [(EVC_VEC_STATUS.STATE, 100, 3), (EVC_VEC_STATUS.STATE, 200, 3), (EVC_VEC_STATUS.TARGET, 100, 4),
    (EVC_VEC_STATUS.TARGET, 200, 4), (X.EVC_PRIO, 100, 5), (X.EVC_PRIO, 200, 9), (EVC_TGT_CFG.ENABLE, 4, 1)]).claimVec 4 =
    some 200 ∧ srcEight 20 10 = 0x254A := by decide +kernel

/-! ## States and operands that meet the hypotheses of each statement, clause by clause -/

theorem wit_session : [passes (runs .fabric base) kSessionInfo (packet 0 []), passes (runs .fabric base) kStateGet (packet 0 []),
    passes (runs .fabric base) kCpxReset (packet 0 []) fun s => !s.dev.resetting,
    passes (runs .fabric base) kBankReset (packet 15 []), passes (runs .fabric base) kEightReset (packet 127 []),
    passes (runs .fabric base) kPortReset (packet 8 []) fun s => s.dev.isPort 8].all id = true := by decide +kernel

/-- An open session of function 0 on copy 1, with 8 of 112 bytes still to come. -/
def session (next : Nat) : Dev :=
  let d := with_ [(CMP_IMG_WRITE.ACTIVE, 0, 1), (CMP_IMG_WRITE.COPY, 0, 1), (CMP_IMG_WRITE.NEXT_OFFSET, 0, next)]
  { d with cmp := { d.cmp with session := some ⟨1, 112, []⟩ } }

/-- A good copy of 112 bytes with an empty forme (Tables 111, 112): its body's first 16 bytes, the rest of it erased flash,
and its header. -/
def goodTable : List Nat := leBytes (1 + 15 * 2 ^ 8 + 80 * 2 ^ 32) 16
def goodHeader : List Nat :=
  let h := leBytes (0x39535845 + 2 ^ 32 + 9 * 2 ^ 40 + 15 * 2 ^ 48 + 2 ^ 56 + 2 ^ 64 + 112 * 2 ^ 96) 56 ++
    leBytes (crcOf crc32c (goodTable ++ List.replicate 32 255)) 4
  h ++ leBytes (crcOf crc32c h) 4

/-- The session that has written it but for the header. -/
def written : State :=
  let s := runs .fabric (session 112)
  { s with
    dev := { s.dev with cmp := { s.dev.cmp with session := some ⟨1, 112, byteList goodHeader⟩ } }
    mem := { s.mem with flash := putCells [] (copyBase 1 + 64) 0xFF (byteList goodTable) } }

theorem wit_image_good : passes written kImageWriteEnd (packet 1 []) (fun s => match s.dev.holds (packet 1 []) with
    | some x => (checkCopy s.mem.flash (nats x.header) 1).1 == 0 && leField (nats x.header) 8 4 == x.generation &&
      leField (nats x.header) 12 4 == x.length
    | none => false) = true := by decide +kernel

theorem wit_image : [passes (runs .fabric base) kImageInfo (packet 0 []),
    passes (runs .fabric base) kImageWriteBegin (packet 1 [112 + 2 ^ 32]) fun s => decide (s.dev.cmp.session = none ∧
      s.dev.cmp.inUse ≠ some 1 ∧ s.dev.get (copyStatus 0) 0 ≠ 1),
    passes (runs .fabric (fields [(copyStatus 1, 0, 1), (copyGen 1, 0, 0xFFFFFFFD)] (session 8))) kImageWriteBegin
      (packet 0 [16777216 + 0xFFFFFFFE * 2 ^ 32]) fun s => s.dev.cmp.session.isSome && s.dev.get (copyStatus 1) 0 == 1 &&
        decide (s.dev.get (copyGen 1) 0 < 0xFFFFFFFE),
    [0, 104].all fun o => passes (runs .fabric (session o)) kImageWriteData (packet 1 [o, 0]) fun s =>
      (s.dev.holds (packet 1 [o, 0])).isSome && decide (s.dev.get CMP_IMG_WRITE.NEXT_OFFSET 0 = o) &&
        ((byteList ((wordBytes [0]).drop (64 - o))).isEmpty == (o == 0)),
    passes (runs .fabric (session 112)) kImageWriteEnd (packet 1 []) fun s => match s.dev.holds (packet 1 []) with
      | some x => (checkCopy s.mem.flash (nats x.header) 1).1 != 0
      | none => false,
    passes (runs .fabric (session 0)) kImageRead (packet 0 [16777208 + 8 * 2 ^ 32]) fun s => s.dev.cmp.session.isSome &&
      s.dev.get CMP_IMG_WRITE.COPY 0 != 0,
    passes (runs .fabric (session 0)) kImageAbort (packet 1 []) fun s => (s.dev.holds (packet 1 [])).isSome].all id = true := by
  decide +kernel

theorem wit_lane : [passes (runs .fabric base) kLaneLaunch (packet 8 []) fun s => s.dev.isLanePort 8 && s.cx.mode != 5,
    passes (runs .fabric base) kLaneStop (packet 8 []) fun s => s.dev.isLanePort 8,
    passes (runs .economy (fields [(LN_LAUNCH_STATUS.STATE, 8, 5), (PCS_STATUS.PROFILE_LIVE, 8, 2)]
        (base.setPort 8 { PortSt.reset with words := (List.replicate 8 none).set 1 (some 8) }))) kLaneEasy (packet 8 []) fun s =>
      s.cx.mode == 4 && s.dev.laneState 8 == 5 && s.dev.get PCS_STATUS.PROFILE_LIVE 8 == 2 && s.dev.get LN_EASY.TX_EASY 8 == 0 &&
      !(s.dev.port 8).txWake && !(s.dev.port 8).entering && bitAt ((((s.dev.port 8).words[1]?).join).getD 0) 3,
    passes (runs .fabric (with_ [(LN_EASY.TX_EASY, 8, 1)])) kLaneWake (packet 8 []) fun s => s.dev.isLanePort 8 &&
      !(s.dev.port 8).entering && s.dev.get LN_EASY.TX_EASY 8 == 1,
    passes (runs .economy (base.setPort 8 { PortSt.reset with entering := true })) kLaneWake (packet 8 []) fun s =>
      s.dev.isLanePort 8 && (s.dev.port 8).entering,
    passes (runs .fabric base) kLaneLaunchCfg (packet 8 [image base .launch 0 8]) fun s => s.dev.laneState 8 == 0 &&
      fieldsOk launchCfg (image base .launch 0 8),
    passes (runs .fabric base) kLaneEqSet (packet 8 [image base .lane 0x10 8, image base .lane 0x18 8]) fun s =>
      (s.dev.portOf 8).isSome && fieldsOk (cfgFlds .lane 0x10) (image base .lane 0x10 8) &&
      fieldsOk (cfgFlds .lane 0x18) (image base .lane 0x18 8),
    passes (runs .fabric base) kLanePolarity (packet 8 [0]) fun s => (s.dev.portOf 8).isSome && s.dev.laneState 8 == 0,
    passes (runs .proof base) kLanePattern (packet 8 [0, 0, 0, 0]) fun s => s.dev.isLanePort 8 && (s.dev.portOf 8).isSome &&
      s.cx.mode == 5 && fieldsOk [LN_PAT_CTL.TX_PAT, LN_PAT_CTL.RX_PAT] 0 && fieldsOk [LN_CTL.LOOPBACK] 0,
    passes (runs .fabric base) kLaneRosterGet (packet 8 []) fun s => s.dev.isLanePort 8].all id = true := by decide +kernel

/-- The layout in force at an eight as an image of LN_EIGHT_PORTMAP: one port of eight lanes at lane 0. -/
def oneWide : Nat := 0x3333333B

theorem wit_port : [passes (runs .fabric base) kPortLayout (packet 1 [oneWide]) fun s =>
      decide (layoutPorts oneWide 8 0 = some [(0, 3)] ∧ s.dev.layoutNow 1 = [(0, 3)] ∧
        (List.range 8).all (fun i => s.dev.laneState (8 + i) == 0) = true ∧ s.dev.members = []),
    passes (runs .fabric base) kPortMacCfg (packet 8 [image base .mac 0 8]) fun s => s.dev.isPort 8 &&
      fieldsOk (macCfg 8) (image base .mac 0 8) && MAC_PORT_CFG.PFC_EN.of (image base .mac 0 8) == 0 &&
      same s ((s.dev.edit (imageEdits (macCfg 8) 8 (image base .mac 0 8))).derivePort 8),
    passes (runs .fabric base) kPortSaSet (packet 1031 [2 ^ 48 - 1]) fun s => s.dev.isPort 1031,
    passes (runs .fabric base) kPortDeal (packet 15 [8]) fun _ => MAC_BANK_DEAL.SLICE_EN.of 8 != 0,
    passes (runs .fabric base) kPortDeal (packet 16 [1]) fun _ => MAC_BANK_DEAL.SLICE_EN.of 1 != 0,
    passes (runs .fabric base) kPortCountersGet (packet 1024 []) fun s => s.dev.isPort 1024].all id = true := by decide +kernel

theorem wit_layout : (((taken.dev.edit ((List.range 8).flatMap fun i => [(LN_EIGHT_PORTMAP.WIDTH i, 1, bitsOf oneWide (4 * i) 2),
    (LN_EIGHT_PORTMAP.FIRST i, 1, bitsOf oneWide (4 * i + 3) 1)])).layoutAfter 1 oneWide (taken.dev.layoutNow 1) [(0, 3)]).admitRef
      taken.ctl taken.cx.cfgMode kPortLayout.admits).isNone = true := by decide +kernel

theorem wit_galley : [passes (runs .fabric base) kGalPortCfg (packet 8 [image base .galport 0 8]) fun s => s.dev.isLanePort 8 &&
      fieldsOk (cfgFlds .galport 0) (image base .galport 0 8) &&
      same s ((s.dev.edit (imageEdits (cfgFlds .galport 0) 8 (image base .galport 0 8))).derivePort 8),
    passes (runs .fabric base) kGalClassCfg (packet 8 [15, image base .galclass 0 143, image base .galclass 8 143]) fun s =>
      fieldsOk (cfgFlds .galclass 0) (image base .galclass 0 143) && fieldsOk (cfgFlds .galclass 8) (image base .galclass 8 143) &&
      s.dev.get GAL_PC_STATUS.OCCUPANCY 143 == 0 && same s (((s.dev.edit (imageEdits (cfgFlds .galclass 0) 143
        (image base .galclass 0 143) ++ imageEdits (cfgFlds .galclass 8) 143 (image base .galclass 8 143))).derivePort 8).galleyTotals),
    passes (runs .fabric base) kGalMap (packet 8 [image base .galport 8 8, image base .galport 0x10 8]) fun s =>
      same s (((s.dev.edit (imageEdits (cfgFlds .galport 8) 8 (image base .galport 8 8) ++
        imageEdits (cfgFlds .galport 0x10) 8 (image base .galport 0x10 8))).fcRemap 8).derivePort 8),
    passes (runs .fabric base) kGalHeadroom (packet 8 [0, 0, 0]) fun s => s.dev.isLanePort 8,
    passes (runs .fabric base) kGalStatusGet (packet 0 []),
    passes (runs .fabric base) kGalScrubCfg (packet 0 [image base .glob 0x2000010 0, image base .glob 0x2000000 0]) fun _ =>
      fieldsOk (cfgFlds .glob 0x2000010) (image base .glob 0x2000010 0) &&
      fieldsOk [GAL_CTL.CE_THRESH, GAL_CTL.AGE_MAX] (image base .glob 0x2000000 0),
    passes (runs .fabric base) kGalFlush (packet 8 [15]) fun s => s.dev.laneState 8 != 5,
    passes (runs .service base) kGalFlush (packet 8 [16]) fun s => s.cx.mode == 6,
    passes (runs .fabric base) kGalCountersGet (packet 8 []) fun s => s.dev.isLanePort 8].all id = true := by decide +kernel

theorem wit_cox : [passes (runs .fabric base) kCoxPortShape (packet 8 [image base .coxport 0 8]) fun s => s.dev.isPort 8 &&
      fieldsOk (cfgFlds .coxport 0) (image base .coxport 0 8) && same s (
        (let n := s.dev.edit (imageEdits (cfgFlds .coxport 0) 8 (image base .coxport 0 8))
        ((n.bucketClip (bkPort 8) (n.get COX_PORT_SHAPER.BURST 8)).coxDerive 8).coxRefresh 8)),
    (let p := packet 8 [0, image base .coxclass 0 128, image base .coxclass 8 128, image base .coxclass 0x10 128]
     passes (runs .fabric base) kCoxClassCfg p fun s => fieldsOk (cfgFlds .coxclass 0) (p.word 1) &&
      fieldsOk (cfgFlds .coxclass 8) (p.word 2) && same s (
        let n := s.dev.edit (coxClassEdits 128 p)
        (n.bucketClip (bkClass 128) (n.get COX_CLASS_SHAPER.BURST 128)).derivePort 8)),
    (let p := packet 16383 [image base .ptn 0 16383, image base .ptn 8 16383, image base .ptn 0x10 16383]
     passes (runs .fabric base) kPtnSet p fun s => fieldsOk (cfgFlds .ptn 0) (p.word 0) && fieldsOk (cfgFlds .ptn 8) (p.word 1) &&
      fieldsOk (cfgFlds .ptn 0x10) (p.word 2) && PTN_CFG.ENABLE.of (p.word 0) == 0 && s.dev.ptnDepth 16383 == 0 &&
      decide (s = taken)),
    (let p := packet 0 [0, image base .ptn 0x18 0, image base .ptn 0x20 0, image base .ptn 0x10 0]
     passes (runs .fabric base) kPtnPolice p fun s => fieldsOk (cfgFlds .ptn 0x18) (p.word 1) &&
      fieldsOk (cfgFlds .ptn 0x20) (p.word 2) && fieldsOk [PTN_GUAR.TEST_B] (p.word 3) &&
      decide (PTN_POL_RATE.CIR_KBPS.of (p.word 1) ≤ PTN_POL_RATE.PIR_KBPS.of (p.word 1)) && decide (s = taken)),
    passes (runs .fabric base) kCoxTelem (packet 0 [image base .glob 0x2200000 0]) fun s =>
      fieldsOk (cfgFlds .glob 0x2200000) (image base .glob 0x2200000 0) && s.dev.get HPE_FN_CFG.ENABLE 0 == 1,
    passes (runs .fabric base) kCoxCountersGet (packet 16511 [0]) fun s => s.dev.isPort (16511 / 16),
    passes (runs .fabric base) kCoxCountersGet (packet 16383 [1]),
    passes (runs .fabric base) kCoxGuarQuery (packet 1031 []) fun s => s.dev.isPort 1031].all id = true := by decide +kernel

theorem wit_ptn_set : (((taken.dev.edit (ptnEdits (packet 16383 [image base .ptn 0 16383, image base .ptn 8 16383,
    image base .ptn 0x10 16383]))).ptnAfter 16383 (taken.dev.ptnKey 16383) (taken.dev.get PTN_CFG.POLICE_EN 16383)).admitRef taken.ctl
      taken.cx.cfgMode kPtnSet.admits).isNone = true := by decide +kernel

theorem wit_ptn_police : (let p := packet 0 [0, image base .ptn 0x18 0, image base .ptn 0x20 0, image base .ptn 0x10 0]
    let x := taken.dev.edit (imageEdits [PTN_CFG.POLICE_EN, PTN_CFG.COLOUR_AWARE] 0 (p.word 0) ++
      imageEdits (cfgFlds .ptn 0x18) 0 (p.word 1) ++ imageEdits (cfgFlds .ptn 0x20) 0 (p.word 2) ++
      imageEdits [PTN_GUAR.TEST_B] 0 (p.word 3))
    let y := ((x.bucketClip (bkTc 0) (x.get PTN_POL_BURST.CBS 0)).bucketClip (bkTp 0) (x.get PTN_POL_BURST.PBS 0)).policerFill 0
      (taken.dev.get PTN_CFG.POLICE_EN 0)
    y.isPort (y.get PTN_CFG.PORT 0) && ((y.coxDerive (y.get PTN_CFG.PORT 0)).admitRef taken.ctl taken.cx.cfgMode
      kPtnPolice.admits).isNone) = true := by decide +kernel

theorem wit_time : [passes (runs .fabric base) kTimStep (packet 0 [1, 999999999, 0]) fun _ =>
      decide (TIM_STEP_NS.NANOSECONDS.of 999999999 ≤ 999999999),
    passes (runs .fabric base) kTimFreq (packet 0 [1]) fun _ => clipFreq (TIM_FREQ_ADJ.FREQ_ADJ.of 1) == TIM_FREQ_ADJ.FREQ_ADJ.of 1,
    passes (runs .fabric base) kTimSlew (packet 0 [500 * 2 ^ TIM_SLEW.RATE_PPM.lo]) fun _ =>
      TIM_SLEW.RATE_PPM.of (500 * 2 ^ TIM_SLEW.RATE_PPM.lo) == 500,
    passes (runs .fabric base) kTimGet (packet 0 []), passes (runs .fabric base) kTimLaneLat (packet 1023 [0]),
    passes (runs .fabric base) kTimPortCfg (packet 1031 [image (base.put TIM_PORT_CFG.STAMP_EN 1031 1) .timport 0 1031]) fun s =>
      s.dev.isPort 1031 && s.dev.get HPE_FN_CFG.ENABLE 0 == 1,
    passes (runs .fabric (with_ [(GATE_PORT_STATUS.STATE, 8, 1)])) kGateClassCfg (packet 8 [15, image base .gateclass 0 143]) fun s =>
      s.dev.isLanePort 8 && fieldsOk (cfgFlds .gateclass 0) (image base .gateclass 0 143) &&
      s.dev.get GATE_PORT_STATUS.STATE 8 != gsNone,
    passes (runs .fabric base) kGatePortCfg (packet 8 [image base .gateport 0 8]) fun s =>
      same s ((s.dev.edit (imageEdits (cfgFlds .gateport 0) 8 (image base .gateport 0 8))).derivePort 8),
    passes (runs .fabric base) kGateListLoad (packet 8 [2 ^ 16, 10 * 2 ^ 32]) fun s => s.dev.isLanePort 8 &&
      !s.dev.stagingPends 8 && decide (s.dev.storeUsed - s.dev.get (slotCount (s.dev.staging 8)) 8 + 1 ≤ 131072),
    passes (runs .fabric ((with_ [(TIM_CTL.EN, 0, 1)]).listLoad 8 0 2 [0])) kGateListLoad (packet 8 [1, 10 * 2 ^ 32]) fun s =>
      s.dev.isLanePort 8 && !s.dev.stagingPends 8 && decide (1 + 1 ≤ s.dev.get (slotCount (s.dev.staging 8)) 8),
    passes (runs .fabric staged) kGateListCommit (packet 8 [1000, 5]) fun s => s.dev.isLanePort 8 &&
      ((s.dev.heat 8 (s.dev.staging 8)).entries.map (·.2)).foldl (· + ·) 0 == 1000 && (s.dev.imminent 8).isNone,
    passes (runs .fabric listed) kGateStop (packet 8 []) fun s => s.dev.isLanePort 8 &&
      s.dev.get GATE_PORT_STATUS.STATE 8 == gsRun && (s.dev.imminent 8).isNone,
    passes (runs .fabric base) kGateCountersGet (packet 8 []) fun s => s.dev.isLanePort 8,
    passes (runs .fabric base) kGateCountersGet (packet 1031 []),
    passes (runs .fabric base) kTimEnable (packet 0 [1]) fun _ => TIM_CTL.EN.of 1 == 1,
    passes (runs .fabric base) kTimEnable (packet 0 [0]) fun s => TIM_CTL.EN.of 0 == 0 &&
      s.dev.keys GATE_PORT_STATUS.STATE == [] && s.dev.keys GATE_PORT_STATUS.PENDING == []].all id = true := by decide +kernel

def gateTaken (d : Dev) : Dev := ((runs .fabric d).take 0 (packet 8 [])).1.dev

theorem wit_gate_class : (((gateTaken (with_ [(GATE_PORT_STATUS.STATE, 8, 1)])).edit (imageEdits (cfgFlds .gateclass 0) 143
    (image base .gateclass 0 143))).derivePort 8 |>.admitRef taken.ctl 0 kGateClassCfg.admits).isNone = true := by decide +kernel

theorem wit_gate_commit : (((gateTaken staged).listCommit 8 1000 5 0).derivePort 8 |>.admitRef taken.ctl 0
    kGateListCommit.admits).isNone = true := by decide +kernel

theorem wit_gate_stop : (((gateTaken listed).gateStop 8).derivePort 8 |>.admitRef taken.ctl 0
    kGateStop.admits).isNone = true := by decide +kernel

theorem wit_proof : [(let p := packet 63 ((List.range 5).map fun i => image base .prof (8 * i) 63);
      passes (runs .fabric base) kPrfProfileSet p fun s => (List.range 5).all (fun i => fieldsOk (cfgFlds .prof (8 * i)) (p.word i)) &&
        (s.dev.edit (profEdits p)).spanOk 63 && !s.dev.profInUse 63),
    (let p := packet 16383 [image base .stream 0 16383];
      passes (runs .fabric base) kPrfStreamSet p fun s =>
        !(s.dev.edit (imageEdits (cfgFlds .stream 0) 16383 (p.word 0))).recMixed && PRF_RX_STREAM.ENABLE.of (p.word 0) == 0),
    passes (runs .fabric base) kPrfRecReset (packet 16383 []), passes (runs .fabric base) kPrfRecReset (packet 16384 []),
    passes (runs .fabric base) kPrfTxAliveSet (packet 1031 [63, 1]) fun s => s.dev.isPort 1031,
    passes (runs .fabric base) kPrfStatusGet (packet 16383 [])].all id = true := by decide +kernel

/-- A RUNNING complex that the mailbox asks for a command, its packet with header and CRC as R300 lays them out. -/
def asks (m : Mode) (d : Dev) (opcode target : Nat) (words : List Nat) : State :=
  let h := leBytes (opcode + 2 ^ 16 + 7 * 2 ^ 32 + 8 * words.length * 2 ^ 64 + target * 2 ^ 80) 28
  let b := words.flatMap fun w => leBytes w 8
  let s := runs m (fields [(CMP_MBOX_STATUS.STATE, 0, 2), (CMP_MBOX_CTL.CMD_LEN, 0, 32 + 8 * words.length)] d)
  { s with mem := { s.mem with mboxCmd := putCells [] 0 0 (byteList (h ++ leBytes (crcOf crc32c (h ++ b)) 4 ++ b)) } }

/-- The packet as the model reads it. -/
def mboxPacket (target : Nat) (words : List Nat) : Pkt := { packet target words with issuer := 64 }

theorem wit_mailbox : [passes (asks .fabric base 0x0101 0 []) kSessionInfo (mboxPacket 0 []),
    passes (asks .fabric { base with pds := [(0, ⟨2, false, false⟩)] } 0x0901 63 [1]) kHpeFnCfg (mboxPacket 63 [1]) fun s =>
      !s.dev.pdOn 33 && HPE_FN_CFG.ENABLE.of 1 == 1].all id = true := by decide +kernel

theorem wit_host : [passes (runs .fabric base) kHpeFnCfg (packet 63 [1]) fun s => s.dev.pdOn 33 && HPE_FN_CFG.ENABLE.of 1 == 1,
    passes (runs .fabric base) kHpeFnCfg (packet 63 [0]) fun s => (s.dev.fnRings 63).all fun r => s.dev.ringState r == 0,
    passes (runs .fabric base) kHpeQueueAssign (packet 4095 [1]) fun s => s.dev.ringState (ringOf 1 4095 0) == 0 &&
      s.dev.get HPE_FN_CFG.ENABLE 0 == 1,
    passes (runs .fabric base) kHpeQueueAssign (packet 4095 [0xFFFF0000]) fun s => s.dev.ringState (ringOf 0 4095 0) == 0,
    (let p := packet 4095 [1, 0, 0, image base .ring 0x10 8191, image base .ring 0x20 8191]
     passes (runs .fabric base) kHpeQueueCfg p fun s => kindOk 1 4095 && fieldsOk (ringCfg 1) (p.word 3) &&
      fieldsOk [RING_RX_HOLD.HOLD_KIB] (p.word 4) && s.dev.ringState (ringOf 1 4095 4095) == 0),
    passes (runs .fabric (with_ [(HPE_FN_CFG.ENABLE, 63, 1), (RING_STATE.STATE, ringReply 63, 1)])) kHpeQueueStart (packet 63 [2, 5])
      fun s => kindOk 2 63 && s.dev.ringState (ringOf 2 63 63) == 0 && s.dev.ringOwner (ringOf 2 63 63) == some 63 &&
        s.dev.get HPE_FN_CFG.ENABLE 63 == 1 && s.dev.ringRuns (ringReply 63),
    passes (runs .fabric base) kHpeFnReset (packet 63 []), passes (runs .fabric base) kHpeStatusGet (packet 63 [7]),
    passes (runs .fabric base) kHpeStatusGet (packet 4095 [1]) fun _ => kindOk 1 4095].all id = true := by decide +kernel

theorem wit_evc : [passes (runs .fabric base) kEvcSrcCfg (packet 0 [1, image base .srccfg 0 0]) fun s =>
      (srcKind 0).isSome && !s.dev.srcBusy 0 (EVC_SRC_CFG.VECTOR.of (image base .srccfg 0 0))
        (EVC_SRC_CFG.ENABLE.of (image base .srccfg 0 0)),
    passes (runs .fabric base) kEvcVecCfg (packet 1023 [image base .vec 0 1023]) fun _ =>
      fieldsOk (cfgFlds .vec 0) (image base .vec 0 1023),
    passes (runs .fabric base) kEvcTgtCfg (packet 255 [0, 2 ^ 64 - 4]), passes (runs .fabric base) kEvcTsetSet (packet 63 [1, 0, 0, 2 ^ 63]),
    passes (runs .fabric base) kEvcSbCfg (packet 0 [image base .glob 0x3001000 0]) fun _ =>
      fieldsOk (cfgFlds .glob 0x3001000) (image base .glob 0x3001000 0),
    passes (runs .fabric base) kEvcStatusGet (packet 1023 [0]), passes (runs .fabric base) kEvcStatusGet (packet 255 [1])].all id = true := by
  decide +kernel

theorem wit_fault : [passes (runs .fabric base) kFltStatusGet (packet 0 []),
    passes (runs .fabric (with_ [(FLT_REC_STATUS.VALID, 0, 1), (FLT_STATUS.HELD, 0, 1)])) kFltAck (packet 0 []) fun s =>
      s.dev.get FLT_REC_STATUS.VALID 0 == 1 && s.dev.get FLT_STATUS.HELD 0 == 1,
    passes (runs .fabric base) kFltReactionSet (packet 56 [image base .react 0 56]) fun _ => decide (56 ∈ faultClasses) &&
      reactOk 56 (image base .react 0 56),
    passes (runs .fabric base) kFltSafeCfg (packet 0 [image base .glob 0x3400030 0]) fun _ =>
      fieldsOk (cfgFlds .glob 0x3400030) (image base .glob 0x3400030 0),
    passes (runs .fabric base) kFltInject (packet 0x290 [3]) fun s => faultClass 0x290 == some 50 &&
      s.dev.isLanePort (faultUnit 0x290),
    passes (runs .fabric base) kLckCfg (packet 0 [image base .glob 0x3600000 0]),
    passes (runs .fabric (with_ [(LCK_CFG.CMD_EN, 0, 1)])) kLckTrigger (packet 0 []) fun s => s.dev.get LCK_CFG.CMD_EN 0 == 1,
    passes (runs .fabric (with_ [(LCK_STATUS.VALID, 0, 1)])) kLckImpressionRead (packet 0 [262136 + 8 * 2 ^ 32]) fun s =>
      s.dev.get LCK_STATUS.VALID 0 == 1 && bitsOf (262136 + 8 * 2 ^ 32) 0 18 == 262136 && bitsOf (262136 + 8 * 2 ^ 32) 32 14 == 8,
    passes (runs .fabric base) kLckImpressionClear (packet 0 []), passes (runs .fabric base) kFence (packet 0 []),
    passes (runs .fabric base) kBarrier (packet 0 []) fun s => s.dev.cmp.waits == [],
    passes (runs .fabric { base with cmp := { base.cmp with waits := [⟨⟨1, 0, 0x0104, 0, 0, 0, false⟩, .reset (.bank 0)⟩] } }) kBarrier
      (packet 0 []) fun s => s.dev.cmp.waits != []].all id = true := by decide +kernel

/-- A dry run passes the same checks. -/
theorem wit_dry_run : (match (runs .fabric base).take 0x0501 { packet 8 [image base .galport 0 8] with dryRun := true } with
    | (s1, some _) => !s1.dev.ending && (kGalPortCfg.preCheck s1.cx { packet 8 [image base .galport 0 8] with dryRun := true } s1.dev).isNone
    | _ => false) = true := by decide +kernel

/-- Whether a combined configuration is built, and whether it is refused. -/
def builds (s : State) (cur : Option Mode) (m : Mode) : Bool := (s.dev.modeBuild s.cx cur m) matches .ok _

theorem wit_mode_same : passes (runs .fabric base) kModeSet (packet 0 []) = true := by decide +kernel

/-- ECONOMY left with no port EASY, one on its way in; and entered with no function enabled, domain 33 on its way off. -/
theorem wit_mode_economy : (passes (runs .economy (base.setPort 8 { PortSt.reset with entering := true })) kModeSet (packet 0 [])
      (fun s => builds s (some .economy) .fabric && s.dev.easyTx == [] && s.dev.pdOn 33 && s.dev.enteringTx == [8]) &&
    passes (asks .fabric (with_ [(HPE_FN_CFG.ENABLE, 0, 0)]) 0x0201 4 []) kModeSet (mboxPacket 4 []) fun s =>
      match s.dev.modeBuild s.cx (some .fabric) .economy with
      | .ok x => (Dev.modeEnter x .economy).get X.CMP_ECO 0 == 1
      | .error _ => false) = true := by decide +kernel

theorem wit_mode_set : passes (runs .fabric base) kModeSet (packet 2 []) (fun s => builds s (some .fabric) .timed) = true := by
  decide +kernel

theorem wit_mode_leave_economy : passes (runs .economy (with_ [(LN_EASY.TX_EASY, 8, 1)])) kModeSet (packet 0 [])
    (fun s => builds s (some .economy) .fabric && s.dev.easyTx == [8]) = true := by decide +kernel

/-- A start-up at a step. -/
def starts (step : Nat) (l : List (Fld × Nat × Nat)) : State := stands .powered (with_ ((CPX_START.STEP, 0, step) :: l))
def loads (l : List (Fld × Nat × Nat)) : State := stands .imageLoad (with_ ((CPX_START.STEP, 0, 7) :: l))
def dark (s : State) : State := { s with ctl := { s.ctl with chipRef := false, refLost := true } }

theorem wit_supply : [!State.reset.ctl.supply, (runs .fabric base).ctl.supply && (runs .fabric base).ctl.chipRef,
    (dark (runs .fabric base)).ctl.supply && (dark (runs .fabric base)).ctl.refLost &&
      !(dark (runs .fabric base)).ctl.chipRef].all id = true := by decide +kernel

theorem wit_start_up : [(starts 2 []).awake && (starts 2 []).ctl.state == .powered && (starts 2 []).dev.get CPX_START.STEP 0 == 2,
    (let s := { starts 3 [] with ctl := { (starts 3 []).ctl with pll := false } }
     s.awake && s.ctl.d34 && !s.ctl.pll && s.dev.get CPX_START.STEP 0 == 3),
    (runs .fabric base).awake && (runs .fabric base).ctl.pll && (runs .fabric base).ctl.state != .locked,
    (starts 4 [(CPX_START.BOOT_TRIES, 0, 1)]).ctl.pll && (starts 4 [(CPX_START.BOOT_TRIES, 0, 1)]).dev.get CPX_START.BOOT_TRIES 0 < 2,
    decide (2 ≤ (starts 4 [(CPX_START.BOOT_TRIES, 0, 2)]).dev.get CPX_START.BOOT_TRIES 0),
    (let s := stands .imageLoad (with_ [(CPX_START.STEP, 0, 5)])
     s.clocked && s.ctl.state == .imageLoad && s.dev.get CPX_START.STEP 0 == 5),
    (loads []).clocked && (loads []).dev.get CPX_START.STEP 0 == 7 && (loads []).dev.pdOn 32 && !(loads []).dev.trainEnded &&
      bitList (2 ^ 63) 64 == [63],
    (let s := loads [(GAL_STATUS.TRAINED, 0, 1)]
     s.dev.get GAL_STATUS.TRAINED 0 == 1 && s.dev.get GAL_STATUS.CLEARED 0 == 0),
    (let s := loads [(GAL_STATUS.IN_SERVICE, 0, 1)]
     let s := { s with dev := { s.dev with pds := (List.range 34).map fun k => (k, ⟨2, false, false⟩) } }
     s.clocked && s.dev.readyDue),
    (let s := runs .fabric { base with cmp := { base.cmp with resetDue := some 2 } }
     s.clocked && s.dev.cmp.resetDue == some 2)].all id = true := by decide +kernel

/-- The base device with one domain in a state. -/
def domain (k : Nat) (st : Nat) : Dev := base.setPd k ⟨st, false, false⟩

/-- The base device with function 1's command waiting. -/
def waits (w : Wait) : Dev := { base with cmp := { base.cmp with waits := [⟨⟨1, 0, 0x0104, 0, 0, 0, false⟩, w⟩] } }

theorem wit_power : [((domain 33 1).pd 33).st == 1 && (domain 33 1).get CPX_START.STEP 0 != 7 && (domain 33 1).cmp.waits == [],
    ((domain 31 1).pd 31).st == 1 && (domain 31 1).bankPorts 15 == [] && !((domain 31 1).pd 31).downWait,
    [0, 1].all fun f => (let d := (with_ [(HPE_FN_CFG.ENABLE, 0, f)]).setPd 33 ⟨1, false, true⟩
     (d.pd 33).st == 1 && (d.pd 33).downWait && d.mayPowerDown 33 == (f == 0) && d.get X.CMP_ECO 0 == 0),
    ((domain 30 3).pd 30).st == 3 && !((domain 30 3).domainOff 30).eightRuns 120, (let d := (with_ [(X.CMP_ECO, 0, 1)]).setPd 33 ⟨3, false, false⟩
     d.pd 33 == ⟨3, false, false⟩ && d.get X.CMP_ECO 0 == 1), (runs .fabric base).ctl.serving && base.pdOn 1 && base.bankIdle 1,
    (starts 2 []).awake && !(starts 2 []).ctl.live, decide (2447 < 2448) &&
      (with_ [(LN_EIGHT_STATUS.REF_OK, 127, 1)]).get LN_EIGHT_STATUS.REF_OK 127 == 1,
    (let d := with_ [(LN_LAUNCH_CTL.ENABLE, 8, 1), (LN_EIGHT_STATUS.REF_OK, 1, 1)]
     d.pllWanted 1 && d.get LN_EIGHT_STATUS.REF_OK 1 == 1 && (d.eightPorts 1).all fun p => !(d.port p).pllWait && !(d.port p).txWake),
    (let d := with_ [(LN_EIGHT_STATUS.TX_PLL_LOCK, 127, 1), (LN_EIGHT_STATUS.REF_OK, 127, 0)]
     d.get LN_EIGHT_STATUS.TX_PLL_LOCK 127 == 1 && d.get LN_EIGHT_STATUS.REF_OK 127 == 0),
    (let d := { base with resets := [.bank 15] }
     decide (Scope.bank 15 ∈ d.resets) && d.scopeSettled (.bank 15)),
    (with_ [(HPE_FN_STATUS.RESET_BUSY, 63, 1)]).get HPE_FN_STATUS.RESET_BUSY 63 == 1].all id = true := by decide +kernel

/-- The mailbox with a length, its bytes all 0: a packet whose CRC does not hold. -/
def mboxOf (n : Nat) : State := runs .fabric (with_ [(CMP_MBOX_STATUS.STATE, 0, 2), (CMP_MBOX_CTL.CMD_LEN, 0, n)])

/-- Function 0 with one descriptor of a packet of a length ready. -/
def offers (n : Nat) : State := runs .fabric { base with rings := [(8192, { RingSt.reset with ready := [n * 2 ^ 64] })] }

theorem wit_compositor : [[Wait.flash [0], .easy 8].all (fun w => (((waits w).cmp.waits.find? fun x => x.t.issuer == 1).map (·.why)) ==
      some w) && !((waits (.easy 8)).port 8).entering,
    [31, 8193].all fun n => match (mboxOf n).turn 64 with
      | some s => s.mboxTakes false && !s.dev.ending
      | none => false,
    [31, 8193].all fun n => match (offers n).turn 0 with
      | some s => (s.visit 0 matches .desc _) && !((s.dev.takeCmd 0).inc (RING_CNT.COUNT 1) (ringCmd 0)).ending
      | none => false,
    (match (mboxOf 32).turn 64 with
      | some s => s.mboxTakes true && !s.dev.ending && (packetRefusal listedOpcodes s.mboxBytes).isSome
      | none => false),
    (match (offers 32).turn 0 with
      | some s => (s.visit 0 matches .desc _) && (packetRefusal listedOpcodes (List.replicate 32 0)).isSome &&
          !((s.dev.askPkt 0 (32 * 2 ^ 64)).takeCmd 0).ending
      | none => false)].all id = true := by decide +kernel

/-- A start mode in READY, one that can be entered and one with a class that is scheduled where the mode has none. -/
def startMode (d : Dev) : State := stands .ready { d with cmp := { d.cmp with startMode := some 0 } }
def startBuilds (d : Dev) : Bool :=
  ((startMode d).dev.get FLT_STATUS.ENTERING 0 == 0) && (Dev.modeBuild (startMode d).cx { (startMode d).dev.put CPX_START.STEP 0 0 with
    cmp := { (startMode d).dev.cmp with startMode := none } } none .fabric matches .ok _)

theorem wit_start_mode : startBuilds base = true := by decide +kernel
theorem wit_start_mode_refused : startBuilds (with_ [(GATE_CLASS_CFG.SCHED, 128, 1), (COX_CLASS_CFG.KIND, 128, 1)]) = false := by
  decide +kernel
theorem wit_mode_switch : (let s := { runs .economy base with ctl := { (runs .economy base).ctl with switching := some .fabric } }
    s.dev.easyTx == [] && s.dev.pdOn 33 && builds s (some .economy) .fabric) = true := by decide +kernel

/-- The attention sequence twice (Table 24, R59) as runs of ACLK cycles at a level. -/
def attention : List (Bool × Nat) :=
  let w := [(true, 256), (false, 128), (true, 128), (false, 64), (true, 64), (false, 192), (true, 64), (false, 128)]
  w ++ w

/-- Word 0 of a comma block (Table 26) of lane index `i` and sequence number `q`. -/
def comma (i q : Nat) : Nat := 0xA74CE1 * 2 ^ 40 + i * 2 ^ 37 + (7 - i) * 2 ^ 32 + q * 2 ^ 24 + 0x3B96 * 2 ^ 8

/-- The base device with port 8's record changed. -/
def port8 (g : PortSt → PortSt) (l : List (Fld × Nat × Nat)) : Dev := (with_ l).setPort 8 (g PortSt.reset)

/-- A training frame word with its CRC-32C (Table 33). -/
def frameWord : Nat := crcOf crc32c (leBytes 0 12) * 2 ^ 96

theorem wit_lanes : [(with_ [(LN_STATUS.LOS, 1023, 0)]).get LN_STATUS.LOS 1023 == 0 && base.portOf 1023 == none,
    (let d := port8 (fun r => { r with easyArmed := true }) [(LN_STATUS.LOS, 8, 0), (LN_LAUNCH_STATUS.STATE, 8, stActive)]
     d.get LN_STATUS.LOS 8 == 0 && d.portOf 8 == some 8 && (d.port 8).easyArmed && d.laneState 8 == stActive && d.rxAwake 8),
    (let d := with_ [(LN_STATUS.LOS, 8, 0), (LN_LAUNCH_STATUS.STATE, 8, stDetect)]
     d.portOf 15 == some 8 && !(d.port 8).easyArmed && !(d.port 8).codingRx && d.laneState 8 != stOff && d.rxAwake 8 &&
       d.get LN_CTL.LOOPBACK 8 == 0 && d.get LN_STATUS.CDR_LOCK 8 == 0),
    (with_ [(LN_CTL.LOOPBACK, 8, 3)]).get LN_CTL.LOOPBACK 8 == 3,
    (let d := port8 (fun r => { r with codingRx := true }) [(LN_LAUNCH_STATUS.STATE, 8, stActive), (LN_STATUS.CDR_LOCK, 8, 1)]
     (d.port 8).codingRx && d.get LN_STATUS.CDR_LOCK 8 == 1 && d.get LN_STATUS.COMMA_STATE 8 == 0 && d.rxAwake 8),
    (let d := port8 (fun r => { r with codingRx := true }) [(LN_STATUS.LOS, 15, 0)]
     d.get LN_STATUS.LOS 15 == 0 && (d.port 8).codingRx && d.get LN_STATUS.COMMA_STATE 15 == 0),
    (with_ [(LN_STATUS.CDR_LOCK, 1023, 1)]).get LN_STATUS.CDR_LOCK 1023 == 1 && (signedOf 2000 16).natAbs == 2000 &&
      (signedOf (2 ^ 16 - 2001) 16).natAbs == 2001,
    (let d := with_ [(LN_EASY.ATTN_ARMED, 1023, 1)]
     attnDecodes attention && d.get LN_EASY.ATTN_ARMED 1023 == 1 && d.portOf 1023 == none),
    (let d := with_ [(LN_EASY.ATTN_ARMED, 9, 1), (LN_EASY.RX_EASY, 8, 1)]
     d.portOf 9 == some 8 && d.get LN_EASY.RX_EASY 8 == 1 && d.pdOn (rxDomain 8)),
    (let d := (with_ [(LN_EASY.ATTN_ARMED, 9, 1), (LN_EASY.RX_EASY, 8, 1)]).setPd 1 ⟨0, false, false⟩
     !d.pdOn (rxDomain 8) && (d.pd (rxDomain 8)).st == 0),
    [stTrain, stLock, stRoster].all fun x => (with_ [(LN_LAUNCH_STATUS.STATE, 15, x)]).laneState 15 == x &&
      [1, 2].all fun k => (with_ [(LN_LAUNCH_STATUS.PARTNER, 8, k)]).get LN_LAUNCH_STATUS.PARTNER 8 == k,
    frameWordOk frameWord && !frameWordOk 0, base.laneState 1023 != stLock && (base.lane 1023).search == none,
    (let x : Search := ⟨1, [4, 8], 0, 0⟩
     ((base.setLane 8 { LaneSt.reset with search := some x }).lane 8).search == some x && (searchStep x 5).todo == [8]),
    (searchStep ⟨2, [48], 24, 9⟩ 5).todo == [] && base.portOf 1023 == none,
    (let d := with_ [(LN_RX_EQ.TRACK, 8, 1), (LN_LAUNCH_STATUS.STATE, 8, stActive), (LN_EQ_LIVE.PEAK, 8, 27)]
     d.get LN_EQ_LIVE.PEAK 8 + 1 == 28 && d.get LN_RX_EQ.TRACK 8 == 1 && d.laneState 8 == stActive && d.rxAwake 8 &&
       decide (28 ≤ (d.lane 8).trained + 4)),
    (with_ [(LN_PAT_CTL.TX_PAT, 8, 1)]).get LN_PAT_CTL.TX_PAT 8 != 0,
    (with_ [(LN_PAT_CTL.RX_PAT, 8, 1)]).get LN_PAT_CTL.RX_PAT 8 != 0 && (runs .proof base).clocked &&
      base.get LN_CTL.LOOPBACK 8 == 0].all id = true := by decide +kernel

theorem wit_commas : (let d := fun x => port8 (fun r => { r with codingRx := true }) [(LN_STATUS.CDR_LOCK, 9, 1), (LN_STATUS.COMMA_STATE, 9, x)]
    [1, 2, 3].all (fun x => (d x).portOf 9 == some 8 && ((d x).port 8).codingRx && (d x).get LN_STATUS.CDR_LOCK 9 == 1 &&
      (d x).get LN_STATUS.COMMA_STATE 9 == x) && commaValid 1 (comma 7 255) && commaValid 3 (comma 7 255 + 2 ^ 8) &&
      !commaValid 1 (comma 7 255 + 2 ^ 8) && !commaValid 3 0 && bitsOf (comma 7 255) 37 3 != ((d 3).lane 9).expIdx) = true := by
  decide +kernel

/-- A launch state of port 8. -/
def inState (x : Nat) (l : List (Fld × Nat × Nat)) : Dev := with_ ((LN_LAUNCH_STATUS.STATE, 8, x) :: l)

/-- A port at the threshold of its HI_SER window. -/
def hiser (b : Nat) : Dev := port8 (fun r => { r with codingRx := true, hiCw := 8192, hiErr := 1 })
  [(PCS_CTL.HISER_EN, 8, 1), (PCS_CTL.HISER_THRESH, 8, 1), (PCS_STATUS.HI_SER, 8, b)]

theorem wit_launch : [(let d := inState stDetect [(LN_LAUNCH_STATUS.QUIET, 8, 1), (LN_LAUNCH_STATUS.PRS_ABSENT, 8, 1)]
      d.laneState 8 == stDetect && d.get LN_LAUNCH_STATUS.QUIET 8 == 1 && d.get LN_LAUNCH_STATUS.PRS_ABSENT 8 == 1),
    (inState stDetect [(LN_LAUNCH_STATUS.QUIET, 8, 1), (LN_LAUNCH_STATUS.PRS_ABSENT, 8, 0)]).get LN_LAUNCH_STATUS.PRS_ABSENT 8 == 0,
    (let d := inState stDetect [(LN_LAUNCH_STATUS.QUIET, 8, 0), (LN_LAUNCH_STATUS.PRS_ABSENT, 8, 0), (LN_LAUNCH_CTL.DETECT_COUNT, 8, 1)]
     d.attempting 8 && d.get LN_LAUNCH_CTL.NEG 8 == 0 && d.get LN_LAUNCH_CTL.DETECT_COUNT 8 == 1),
    (let d := inState stDetect [(LN_LAUNCH_STATUS.QUIET, 8, 0), (LN_LAUNCH_STATUS.PRS_ABSENT, 8, 0), (LN_LAUNCH_CTL.DETECT_COUNT, 8, 0)]
     d.attempting 8 && d.get LN_LAUNCH_CTL.DETECT_COUNT 8 == 0),
    (let d := (inState stLock []).setPort 8 { PortSt.reset with trainT := true }
     (d.port 8).trainT && d.laneState 8 == stLock),
    (let d := (inState stRoster []).setPort 8 { PortSt.reset with rosterT := true, gotDone := true, sel := 2 }
     (d.port 8).rosterT && d.laneState 8 == stRoster && (d.port 8).gotDone && (d.port 8).sel != 0 && !(d.port 8).codingTx),
    (let d := (inState stEasy []).setPort 8 { PortSt.reset with wakeT := true }
     (d.port 8).wakeT && d.laneState 8 == stEasy),
    (let d := port8 (fun r => { r with codingRx := true, hiCw := 8191 }) []
     (d.port 8).codingRx && decide ((d.port 8).hiCw < 8192) && d.get PCS_STATUS.HI_SER 8 == 0 && d.get PCS_CTL.FEC_DETECT 8 == 0),
    (let d := inState stActive [(PCS_STATUS.ALIGNED, 8, 0)]
     d.get PCS_STATUS.ALIGNED 8 == 0 && d.rxAwake 8 && !(d.port 8).rxWake),
    (let d := port8 (fun r => { r with codingRx := true, hiCw := 8192 }) [(PCS_CTL.HISER_EN, 8, 1), (PCS_CTL.HISER_THRESH, 8, 1)]
     d.get PCS_CTL.HISER_EN 8 == 1 && decide (8192 ≤ (d.port 8).hiCw) && decide ((d.port 8).hiErr < d.get PCS_CTL.HISER_THRESH 8)),
    [0, 1].all fun b => decide ((hiser b).get PCS_CTL.HISER_THRESH 8 ≤ ((hiser b).port 8).hiErr) &&
      (hiser b).get PCS_STATUS.HI_SER 8 == b,
    (let d := (inState stActive []).setPort 8 { PortSt.reset with entering := true }
     (d.port 8).entering && d.laneState 8 == stActive && (d.mac 8).tx == none),
    (with_ [(LN_ATTN.BUSY, 8, 1)]).get LN_ATTN.BUSY 8 == 1,
    (let d := port8 (fun r => { r with txWake := true, codingTx := true }) [(LN_EASY.RX_EASY, 8, 1)]
     (d.port 8).txWake && (d.port 8).codingTx && !d.rxAwake 8)].all id = true := by decide +kernel

theorem wit_launch_moves : [decide (15 ∈ (base.toOff 8).portLanes 8), decide (15 ∈ (base.toDetect 8 false).portLanes 8),
    decide (15 ∈ (base.toTrain 8 3).portLanes 8), decide (15 ∈ (base.failure 8 1).portLanes 8)].all id = true := by decide +kernel

/-- A complex locked up by cause 3 while it ran. -/
def locked (release : Bool) (l : List (Fld × Nat × Nat)) : State :=
  ⟨⟨.locked, some .fabric, true, true, false, true, true, none, release, some (3, 0, 3)⟩, with_ l, ⟨[], [], [], []⟩, []⟩

theorem wit_sideband : [base.modPrs 127 != !base.modPrs 127 && (runs .fabric base).awake && (runs .fabric base).ctl.live &&
      !(starts 2 []).ctl.live && (starts 2 []).awake, base.modInt 127 != !base.modInt 127,
    base.get EVC_SRC_CFG.ENABLE (srcEight 127 10) == 0, [true, false].all fun b =>
      (with_ [(EVC_SB_MISC.WAKE, 0, if b then 0 else 1), (EVC_SRC_CFG.ENABLE, srcWake, 1)]).get EVC_SB_MISC.WAKE 0 == (if b then 0 else 1),
    [true, false].all fun b => (with_ [(EVC_SB_MISC.LOCKUP, 0, if b then 0 else 1), (LCK_CFG.PIN_EN, 0, 1)]).get EVC_SB_MISC.LOCKUP 0 ==
      (if b then 0 else 1), decide (base.get EVC_SB_MISC.GLITCH_SEEN 0 < 2),
    (locked false []).ctl.state == .locked && !(locked false []).ctl.live, (starts 4 []).ctl.state == .powered && (starts 4 []).ctl.d34,
    base.eightRuns 7 && !base.eightRuns 8].all id = true := by decide +kernel

def zeros (n : Nat) : List Byte := List.replicate n 0

/-- A head at port 8 with its preamble, delimiter and error flags; a port that is up, its receive coding running. -/
def headAt (pre sfd err : Bool) : HeadRx := ⟨8, pre, sfd, zeros 64, false, err, 8, 0⟩
def upPort (l : List (Fld × Nat × Nat)) : Dev := port8 (fun r => { r with codingRx := true })
  ([(LN_LAUNCH_STATUS.STATE, 8, stActive), (PCS_STATUS.ALIGNED, 8, 1), (MAC_PORT_CFG.RX_EN, 8, 1)] ++ l)

/-- A frame in reception at a stage. -/
def rxAt (x : RxStage) : RxFrame := ⟨x, ⟨⟨0, 0, 0⟩, false, none, 0, 0, none, 3, none⟩, zeros 64, 0, 0, 0, 1518, false, 3, 0, false, false, [], none⟩
def receives (p : Nat) (x : RxStage) : Dev := base.setMac p { MacSt.reset with rx := some (rxAt x) }

theorem wit_receive : [(let d := port8 (fun r => { r with codingRx := true }) []
      d.isLanePort 8 && (d.mac 8).rx == none && d.rxFed 8 && (d.port 8).codingRx && !(d.port 8).rmDrop && !d.rxUp 8 &&
        !d.portResetting 8 && (headAt true false false).bytes.length == 64),
    (upPort []).rxUp 8 && (readTags (nats (zeros 64))).lt != 0x8808 && !(upPort []).rxMarked 8,
    (upPort [(PCS_STATUS.HI_SER, 8, 1)]).rxMarked 8 && (upPort [(PCS_STATUS.HI_SER, 8, 1)]).rxUp 8,
    (let d := receives 1024 .waiting
     d.isPort 1024 && (d.mac 1024).rx == some (rxAt .waiting) &&
       bitAt 1 (nextSlice (d.sliceMask 1024) (d.mac 1024).lastSlice) && ((rxAt .waiting).stage == .waiting)),
    [RxStage.gone, .control, .body, .storing, .dropped].all fun x => ((receives 8 x).mac 8).rx == some (rxAt x),
    (verdictOf 64 false false (zeros 65)).1 == 3,
    (let d := base.setMac 1031 { MacSt.reset with loop := [⟨zeros 64, none, false⟩] }
     (d.mac 1031).rx == none && (d.mac 1031).loop != [])].all id = true := by decide +kernel

theorem wit_verdict_and_gap : decide ((zeros 64).length ≤ 64 ∧ 64 < (zeros 65).length ∧ 12 ≤ 12 ∧ 64 ≤ 64 ∧ 3 ≤ 3) = true := by decide

/-- One stored frame of class 15 of port 8, and the clock when it is too old. -/
def stored (ticks : Nat) : Dev :=
  let d := (with_ [(GAL_STATUS.IN_SERVICE, 0, 1), (GAL_CTL.AGE_MAX, 0, 1), (GAL_PC_CORE.CORE_XOFF_KIB, 143, 1)]).setGal 143
    { GalClass.reset with q := [⟨⟨⟨0, 0, 0⟩, false, none, 0, 0, none, 3, none⟩, zeros 64, 0, false, false, 0, 0, 0, false⟩], report := some 0 }
  { d with tim := { d.tim with ticks := ticks } }

theorem wit_galley_events : [base.isLanePort 8, !(base.gal 143).stale &&
      (with_ [(GAL_PC_CFG.FC_MODE, 143, fcCore)]).fcMode 143 != fcNone,
    ((stored 400400).gal 143).q.all fun x => (stored 400400).tooOld x, ((stored 400000).gal 143).q.all fun x => !(stored 400000).tooOld x,
    (let d := ((stored 0).readySample 8 1).galAgeAll 143
     (stored 0).galNext 8 == some 15 && !(stored 0).dealBusy 8 && (d.gal 143).q.all (fun x => !x.hurt) && (d.gal 143).q != [] &&
       d.sliceReady 8 (2 ^ nextSlice (d.sliceMask 8) (d.mac 8).lastSlice) && !d.sliceReady 8 0),
    (let d := base.setMac 8 { MacSt.reset with pauses := [⟨false, 0, [1]⟩] }
     (d.mac 8).pauses == [⟨false, 0, [1]⟩]),
    (let d := with_ [(X.GAL_REP, 8, 128)]
     bitAt (d.get X.GAL_REP 8) 7 && !bitAt (d.get GAL_FC_STATUS.TX_XOFF 8) 7),
    (let d := with_ [(X.FC_REFRESH, 8, 1), (MAC_PORT_STATUS.TX_UP, 8, 1), (X.GAL_REP, 8, 1)]
     d.get X.FC_REFRESH 8 == 1 && d.get MAC_PORT_STATUS.TX_UP 8 == 1 && d.anyXoff 8),
    (let d := (with_ [(MAC_PORT_STATUS.TX_UP, 8, 1), (MAC_PORT_CFG.PAUSE_EN, 8, 1)]).setMac 8 { MacSt.reset with fcReq := true }
     (d.mac 8).fcReq && (d.mac 8).tx == none && d.get PCS_CTL.FAR_LOOP 8 == 0 && d.get MAC_PORT_CFG.PAUSE_EN 8 == 1 && d.get GAL_FC_STATUS.PORT_XOFF 8 == 0),
    [(65535, 8191), (65536, 0)].all fun x => (let d := with_ [(GAL_SCRUB.EN, 0, 1), (GAL_STATUS.IN_SERVICE, 0, 1),
        (X.GAL_SCRUB_POS, 0, x.1 * 8192 + x.2)]
     d.get GAL_SCRUB.EN 0 == 1 && d.get GAL_STATUS.IN_SERVICE 0 == 1 && d.scrubAt x.1 x.2 && !d.scrubAt 0 0 &&
       (d.galUe x.1).extentData x.1 == none),
    (let d := with_ [(X.GAL_MARK, 65535, 1), (GAL_EXT.SPARE_LEFT, 0, 2)]
     d.get X.GAL_MARK 65535 == 1 && decide (2 ≤ d.get GAL_EXT.SPARE_LEFT 0) && d.extentData 65535 == none &&
       (((d.clrs 65535 [X.GAL_MARK, X.GAL_EXT_CE]).put X.GAL_OUT 65535 1).inc GAL_EXT.RETIRED 0).get GAL_EXT.SPARE_LEFT 0 == 2),
    (fields [(GAL_PC_STATUS.OCCUPANCY, 143, 80)] ((stored 0).setGal 143 { (stored 0).gal 143 with
      chain := [(5, 0)] })).extentData 5 == some (143, 0),
    (stored 0).get GAL_CH_STATUS.FAILED 63 == 0].all id = true := by decide +kernel

/-- A queued frame of a class of port 8 whose MAC may send. -/
def queued (c len : Nat) (l : List (Fld × Nat × Nat)) : Dev := (with_ ((MAC_PORT_STATUS.TX_UP, 8, 1) :: l)).setMember
  (memKey (128 + c) none) ⟨1, len, [⟨len, false, false, 0, 0⟩], 0, 0, true, none⟩

theorem wit_cox_events : [base.isPort 1031 && !base.isPort 1030 == false && !base.isPort 1032,
    decide ((base.member (memKey 143 none)).front.length < 16),
    (let d := queued 15 64 [(GATE_CLASS_CFG.MAX_LEN, 143, 60)]
     d.mayDecide 8 && ((d.coxRefresh 8).overLong 8).isSome),
    (let d := queued 15 64 [(COX_CLASS_CFG.KIND, 143, 1)]
     d.mayDecide 8 && (d.coxRefresh 8).overLong 8 == none && ((d.coxRefresh 8).pickStrict (classesOf 8).reverse).1 == some 143),
    (with_ [(PTN_CFG.ENABLE, 16383, 1), (PTN_CFG.POLICE_EN, 16383, 1)]).get PTN_CFG.POLICE_EN 16383 == 1,
    [0, 1].all fun w => (let d := with_ [(COX_TELEM_CFG.EN, 0, 1), (COX_TELEM_STATUS.WALKING, 0, w), (COX_TELEM_STATUS.WALK, 0, 65535)]
      d.get COX_TELEM_CFG.EN 0 == 1 && d.get COX_TELEM_STATUS.WALKING 0 == w)].all id = true := by decide +kernel

theorem wit_buckets : decide (Bucket.reset.rate = 0 ∧ (500 : Nat) ≠ 0 ∧ -((10000 * 65536 : Nat) : Int) ≤ Bucket.reset.tok ∧
    ({ Bucket.reset with fill := true } : Bucket).fill = true) = true := by decide +kernel

/-- A request and a frame in transmission of 64 bytes at port 8. -/
def sends (doomed : Bool) : Dev := base.setMac 8 { MacSt.reset with reqs := [⟨0, 84, none, doomed⟩] }
def inFlight : TxFrame := ⟨64, zeros 60, none, ⟨0, 0, 0⟩, false, 0, 84, 0⟩

theorem wit_transmit : [[true, false].all fun b => ((sends b).mac 8).reqs == [⟨0, 84, none, b⟩] && ((sends b).mac 8).tx == none &&
      (sends b).isPort 8 && (sends b).get PCS_CTL.FAR_LOOP 8 == 0, min (mdLen 64) (((sends false).portWidth 8).getD 1 * 256) == 64,
    ((base.setMac 8 { MacSt.reset with tx := some inFlight }).mac 8).tx == some inFlight &&
      (inFlight.bytes ++ zeros 4).length == mdLen inFlight.md && (inFlight.bytes ++ zeros 5).length != mdLen inFlight.md,
    (let d := base.setMac 1031 { MacSt.reset with stamps := [1] }
     d.nextStamped == some 1031 && (d.mac 1031).stamps == [1])].all id = true := by decide +kernel

/-- A list of port 8 that is pending for an instant of the first microsecond. -/
def pends (l : List (Fld × Nat × Nat)) : Dev := with_ ((GATE_PORT_STATUS.PENDING, 8, 1) :: l)

theorem wit_time_events : [decide ((with_ [(TIM_STEP_NS.NANOSECONDS, 0, 999999999)]).get TIM_STEP_NS.NANOSECONDS 0 ≤ 999999999),
    decide (999999999 < (with_ [(TIM_STEP_NS.NANOSECONDS, 0, 1000000000)]).get TIM_STEP_NS.NANOSECONDS 0),
    base.get TIM_STATUS.STEP_ERR 0 == 0 && base.tim.slew == 0,
    ({ base with tim := { base.tim with step := some (1, 999999999, 0, true, true) } } : Dev).tim.step.isSome,
    listed.get GATE_PORT_STATUS.STATE 8 == gsRun,
    (let d := pends [(GATE_SWITCH_NS.NANOSECONDS, 8, 1)]
     d.switchPending 8 && decide (d.switchAt 8 ≤ d.nowPs + d.guardPs 8) && decide (d.nowPs < d.switchAt 8)),
    (let d := with_ [(X.GATE_STOP_PEND, 8, 1)]
     d.get X.GATE_STOP_PEND 8 == 1 && decide (d.switchAt 8 ≤ d.nowPs)),
    (let d := pends []
     d.get GATE_PORT_STATUS.PENDING 8 == 1 && d.get X.GATE_STOP_PEND 8 == 0 && d.get GATE_PORT_STATUS.STATE 8 != gsRun &&
       decide (d.switchAt 8 ≤ d.nowPs)),
    (let d := queued 15 64 [(GATE_CLASS_CFG.SCHED, 143, 1), (GATE_PORT_STATUS.GATES, 8, 0xFFFF)]
     d.get GATE_CLASS_CFG.SCHED 143 == 1 && (d.candidate 143).isSome && bitAt (d.get GATE_PORT_STATUS.GATES 8) 15)].all id = true := by
  decide +kernel

theorem wit_timebase : (let d := { with_ [(TIM_CTL.EN, 0, 1), (TIM_SLEW.RATE_PPM, 0, 1000)] with
      tim := ⟨2 ^ 48 - 1, secUnits - 1, 0, none, 0⟩ }
    d.get TIM_CTL.EN 0 == 1 && decide (d.tim.acc < secUnits) && decide (d.tim.sec < 2 ^ 48) &&
      decide (d.get TIM_SLEW.RATE_PPM 0 ≤ 1000) && d.tim.slew == 0 && d.get TIM_FREQ_ADJ.FREQ_ADJ 0 == 0 &&
      (with_ [(TIM_CTL.EN, 0, 0)]).get TIM_CTL.EN 0 != 1) = true := by decide +kernel

theorem wit_proof_events : [decide (((base.setFifo 15 (List.replicate 7 .start)).fifo 15).length < 8),
    (base.setFifo 15 [.feed 4 1]).fifo 15 == [.feed 4 1], (base.setFifo 15 [.start]).fifo 15 == [.start],
    (with_ [(PRF_RX_STREAM.ENABLE, 16383, 1)]).get PRF_RX_STREAM.ENABLE 16383 == 1,
    (with_ [(PRF_REC_STATUS.FRESH, 0, 1)]).get PRF_REC_STATUS.FRESH 0 == 1 && decide (0 < 2 ^ acwBits (base.get PRF_PROF_CFG.ACW 0)),
    (let d := with_ [(PRF_REC_STATUS.FRESH, 0, 0), (PRF_REC_STATUS.LAST, 0, 2 ^ acwBits (base.get PRF_PROF_CFG.ACW 0) - 1),
       (PRF_PROF_SEQ.WINDOW, 0, 1), (PRF_PROF_SEQ.HIST, 0, 1), (PRF_REC_STATUS.MAP, 0, 1)]
     d.get PRF_REC_STATUS.FRESH 0 == 0 && (d.get PRF_REC_STATUS.LAST 0 + 1) % 2 ^ acwBits (d.get PRF_PROF_CFG.ACW 0) == 0 &&
       decide (1 ≤ d.get PRF_PROF_SEQ.WINDOW 0) && decide (1 ≤ d.get PRF_PROF_SEQ.HIST 0) &&
       bitAt (d.get PRF_REC_STATUS.MAP 0) (d.get PRF_PROF_SEQ.HIST 0 - 1)),
    (let d := with_ [(PRF_REC_STATUS.FRESH, 0, 0), (PRF_PROF_CFG.COMPARE, 0, 0)]
     d.get PRF_REC_STATUS.LAST 0 % 2 ^ acwBits (d.get PRF_PROF_CFG.ACW 0) == 0 && d.get PRF_PROF_CFG.COMPARE 0 == 0)].all id = true := by
  decide +kernel

/-- Function 0's ring in a state, RUNNING. -/
def rings (r : Nat) (x : RingSt) (l : List (Fld × Nat × Nat)) : Dev :=
  (with_ ([(RING_CFG.ASSIGNED, r, 1), (RING_STATE.STATE, r, 1)] ++ l)).setRing r x

/-- A received frame for the host, of 64 bytes, and a buffer descriptor of a type and length. -/
def hostFrame : HostRx := ⟨8, 0, ⟨0, 0, 0⟩, false, 0, false, false, 0, zeros 64⟩
def buffer (type len : Nat) : Nat := len * 2 ^ 64 + type * 2 ^ 80

theorem wit_host_engine : [(runs .fabric base).hosting && base.doorbellRing 63 0 == none,
    (rings 4095 RingSt.reset []).doorbellRing 0 4095 == some 4095 && !((rings 4095 RingSt.reset []).ring 4095).reading &&
      (rings 4095 RingSt.reset []).doorbellRing 0 (4095 + 2 ^ 15) == some 4095 && !bitAt 4095 15,
    (with_ [(HPE_FN_STATUS.RESET_BUSY, 63, 1)]).get HPE_FN_STATUS.RESET_BUSY 63 == 1 && base.cmp.session == none,
    (let d := rings 0 { RingSt.reset with reading := true } []
     !d.lateRead 0 && (d.ring 0).reading && !(d.ring 0).again && d.ringRuns 0 && workRing 0 &&
       decide (idxSub (d.ringSize 0) (d.get RING_STATE.HW_INDEX 0) ≤ d.ringSize 0) &&
       decide (d.ringSize 0 < idxSub (d.ringSize 0 + 1) (d.get RING_STATE.HW_INDEX 0)) &&
       decide (16 < 2 ^ 32 - idxSub (d.ringSize 0 + 1) (d.get RING_STATE.HW_INDEX 0))),
    (let d := rings 0 { RingSt.reset with reads := [⟨0, 1, true⟩, ⟨1, 16, true⟩] } []
     (d.ring 0).reads == [⟨0, 1, true⟩, ⟨1, 16, true⟩] && !d.lateRead 0 && (d.ring 0).lateLine == 0 && (d.ring 0).lateFetch == 0 &&
       (d.ring 0).lateRetry == 0 && dGen 0 == d.wantGen 0 (d.fetchIndex 0) && dGen (2 ^ 255) != d.wantGen 0 (d.fetchIndex 0) &&
       !d.belowTail 0 (d.fetchIndex 0)),
    ((rings 8447 { RingSt.reset with lateLine := 1, lateFetch := 1, lateRetry := 1 } []).ring 8447).lateRetry == 1,
    [3, 2].all fun k => (let d := rings 0 { RingSt.reset with retries := some k } [];
      (d.ring 0).retries == some k && dGen 0 == d.wantGen 0 (d.fetchIndex 0) && dGen (2 ^ 255) != d.wantGen 0 (d.fetchIndex 0)),
    (let d := rings 4095 { RingSt.reset with ready := [buffer 0 64] } []
     d.get X.HPE_CUR 0 == 0 && (d.txPick).map (·.1) == some 4095),
    ({ base with txStore := [⟨0, 0, false, 0, 0, zeros 60⟩] } : Dev).txStore != [],
    base.ringOwner (ringRx 4095) == none && decide (base.rxStoreBytes + 16004 ≤ 8388608),
    (let d := rings (ringRx 4095) RingSt.reset [(RING_RX_HOLD.HOLD_KIB, ringRx 4095, 16)]
     d.ringOwner (ringRx 4095) == some 0 && d.ringState (ringRx 4095) == 1 && d.get HPE_FN_STATUS.RESET_BUSY 0 == 0 &&
       decide (rxHeld (d.ring (ringRx 4095)) + 64 ≤ d.get RING_RX_HOLD.HOLD_KIB (ringRx 4095) * 1024)),
    (let d := rings (ringRx 4095) { RingSt.reset with rx := [hostFrame], ready := [buffer 1 256] } []
     d.ringServes (ringRx 4095) && (reserve (d.rxNeed (ringRx 4095) hostFrame) (d.ring (ringRx 4095)).ready []) matches .bad),
    (let d := rings (ringRx 4095) { RingSt.reset with rx := [hostFrame] } []
     (reserve (d.rxNeed (ringRx 4095) hostFrame) (d.ring (ringRx 4095)).ready []) matches .short),
    (let d := rings (ringRx 4095) { RingSt.reset with rx := [hostFrame], ready := [buffer 0 256] } []
     (reserve (d.rxNeed (ringRx 4095) hostFrame) (d.ring (ringRx 4095)).ready []) matches .enough _),
    (let d := rings 8447 { RingSt.reset with unpub := 1 } []
     d.ringServes 8447 && (d.ring 8447).unpub != 0),
    ringKind 8446 == 4 && ((rings 8446 { RingSt.reset with arrive := [1] } []).ring 8446).arrive == [1],
    (let d := rings 8447 RingSt.reset [(RING_PROGRESS.NEXT, 8447, 2 ^ base.get RING_CFG.LOG2_SIZE 8447)]
     !workRing 8447 && d.ringServes 8447 && d.ringFree 8447 == 0 && !(d.ring 8447).reading)].all id = true := by decide +kernel

/-- Vector 1023 of priority 15 in a state, committed to target 255, which is enabled; source 65535 may be pending for it. -/
def vector (st : Nat) (l : List (Fld × Nat × Nat)) : Dev := with_ ([(EVC_VEC_STATUS.STATE, 1023, st), (EVC_VEC_STATUS.TARGET, 1023, 255),
  (EVC_TGT_CFG.ENABLE, 255, 1), (EVC_VEC_CFG.PRIO, 1023, 15), (X.EVC_PRIO, 1023, 15)] ++ l)

theorem wit_event_controller : [(srcKind 0xFFFF).isSome && (srcKind 0x4000).isSome && (srcKind 0x4000) == some .pulse &&
      (with_ [(EVC_SRC_CFG.ENABLE, 0x4000, 1)]).get EVC_SRC_CFG.ENABLE 0x4000 == 1 && base.srcPowered 0x4000 &&
      !base.srcPowered 0x1FF9 && base.get EVC_SRC_CFG.ENABLE 0x4001 == 0,
    (let d := with_ [(EVC_VEC_STATUS.STATE, 0, 2)]
     !d.present 0x4000 && d.get EVC_VEC_STATUS.STATE (d.get EVC_SRC_CFG.VECTOR 0x4000) == 2),
    base.claimVec 255 == none,
    (let d := vector 3 [(EVC_SRC_STATUS.PENDING, 0x4000, 1), (EVC_SRC_CFG.VECTOR, 0x4000, 1023)]
     d.claimVec 255 == some 1023 &&
       (d.keys EVC_SRC_STATUS.PENDING).find? (fun x => d.get EVC_SRC_CFG.VECTOR x == 1023) == some 0x4000),
    (vector 3 []).get EVC_VEC_STATUS.STATE 1023 != 4,
    (let d := vector 4 []
     d.get EVC_VEC_STATUS.STATE 1023 == 4 && d.get EVC_VEC_STATUS.TARGET 1023 == 255 && d.get EVC_TGT_CFG.ENABLE 255 == 1 &&
       decide (d.isPrio 255 ≤ (d.eoiVec 1023 true).isPrio 255)),
    (let d := with_ [(FLT_REC_STATUS.VALID, 0, 1)]
     d.get FLT_REC_STATUS.VALID 0 == 1 && d.get FLT_STATUS.HELD 0 == 0),
    (with_ [(EVC_VEC_STATUS.STATE, 1023, 1)]).get EVC_VEC_STATUS.STATE 1023 == 1,
    (let d := vector 2 [(EVC_VEC_MASK.MASK, 1023, 0), (EVC_TSET.MASK 3, 0, 2 ^ 63)]
     d.readyVecs == [1023] && !(d.route1 1023).2.2),
    (let d := vector 2 [(EVC_VEC_MASK.MASK, 1023, 0)]
     d.readyVecs == [1023] && !(d.route1 1023).2.1 && (d.route1 1023).2.2)].all id = true := by decide +kernel

theorem wit_registers : [(runs .fabric base).awake && !badShape 0x3FFFFF8 8 && !badDoorbell64 0x3FFFFF8 8 true &&
      (runs .fabric base).served .host 0x3FFFFF8 && !(starts 2 []).served .mgmt 0x3FFFFF8,
    badShape 0x3FFFFFF 8 && (runs .fabric base).ctl.live && base.get CPX_ACCESS_ERR.VALID 0 == 0 &&
      (with_ [(CPX_ACCESS_ERR.VALID, 0, 1)]).get CPX_ACCESS_ERR.VALID 0 == 1,
    !(runs .fabric base).ctl.honours && 0 % 2 ^ 35 != base.get CPX_PD_CTL.REQ 0 && (loads []).ctl.live &&
      (loads []).ctl.state == .imageLoad,
    (runs .fabric base).ctl.mboxServed && base.get CMP_MBOX_STATUS.STATE 0 == 0 && (starts 4 []).ctl.mboxServed &&
      (mboxOf 32).dev.get CMP_MBOX_STATUS.STATE 0 == 2].all id = true := by decide +kernel

theorem wit_desk : [(runs .fabric { base with desk := ⟨[⟨33, 2⟩], [], [3], 0⟩ }).clocked,
    (with_ [(FLT_STATUS.ENTERING, 0, 1)]).get FLT_STATUS.ENTERING 0 == 1 && (stands .ready base).clocked,
    (let d := { with_ [(FLT_SAFE_CFG.RECOV_CAP, 0, 1)] with desk := ⟨[], [0], [], 0⟩ }
     d.get FLT_STATUS.HELD 0 == 0 && d.capHolds && (stands .safe d).clocked),
    !(with_ [(FLT_SAFE_CFG.RECOV_CAP, 0, 0)]).capHolds,
    (locked false [(LCK_STATUS.CAPTURING, 0, 1)]).awake && (locked false [(LCK_STATUS.CAPTURING, 0, 1)]).dev.get LCK_STATUS.CAPTURING 0 == 1,
    (let s := locked true [(LCK_CFG.AUTO_RELEASE_MS, 0, 1)]
     s.dev.get LCK_STATUS.CAPTURING 0 == 0 && s.dev.get LCK_CFG.AUTO_RELEASE_MS 0 != 0 && s.ctl.release &&
       s.dev.get EVC_SB_MISC.LOCKUP 0 == 0),
    [0, 1].all fun k => (with_ [(LCK_CFG.CAPTURE_EN, 0, 1), (LCK_CFG.KEEP_FIRST, 0, k), (LCK_STATUS.VALID, 0, 1)]).get LCK_CFG.KEEP_FIRST 0 == k,
    [LCK_CFG.SIDE_EN, LCK_CFG.TAP_EN].all fun F => (with_ [(F, 0, 1)]).get F 0 == 1 && (with_ [(F, 0, 0)]).get F 0 == 0].all id = true := by
  decide +kernel

/-- A queue, and one step that keeps a buffer with a cell. -/
theorem wit_step : ({ runs .fabric base with pending := [.ageingWalk] } : State).pending = .ageingWalk :: [] ∧
    (runs .fabric base).awake = true ∧ (runs .fabric base).ctl.clocked = true ∧ State.reset.awake = false ∧
    (starts 4 []).ctl.clocked = true ∧ (locked false []).ctl.clocked = false ∧
    (runs .fabric base).ctl.chipRef = true ∧ (runs .fabric base).ctl.refLost = false := by decide +kernel

theorem wit_memory : (let s := { runs .fabric base with mem := ⟨[(0, 1)], [(15, 2)], [(0x1000000, 0)], [(262143, 3)]⟩ }
    Memory.wf s.mem && (step s matches .next _) && !Memory.wf ⟨[(0, 0)], [], [], []⟩ && !Memory.wf ⟨[], [], [(1, 0), (1, 0)], []⟩) = true := by
  decide +kernel

theorem wit_coherent : [Ctl.coherent (runs .economy base).ctl, Ctl.coherent (locked false []).ctl, Ctl.coherent (starts 2 []).ctl,
    Ctl.coherent (stands .safe base).ctl, (exec .chipRefLoss (runs .fabric base) matches .next _)].all id = true := by decide +kernel

theorem wit_locked : [(locked false []).awake && (locked false []).ctl.state == .locked, !actsLocked .ageingWalk,
    (exec (.registerWrite .host 0x3FFFFF8 8 1) (runs .fabric base) matches .next _),
    writesFlash .ageingWalk == false && writesImpression .ageingWalk == false].all id = true := by decide +kernel

theorem wit_protected : decide (LCK_CFG.KEEP_FIRST ∈ allFlds) && LCK_CFG.KEEP_FIRST.cfg &&
    (exec (.registerWrite .host 0x3600000 8 0) (runs .fabric base) matches .next _) &&
    !((runs .service base).ctl.state == .running && (runs .fabric base).ctl.mode == some .service) = true := by decide +kernel

theorem wit_served : [(locked false []).served .host 0x3200008 == false, (starts 2 []).ctl.state == .powered,
    (runs .fabric base).ctl.live, badShape 0 4 == false].all id = true := by decide +kernel

theorem wit_blocks : [base.isLanePort 8, base.isPort 1031].all id = true := by decide +kernel

theorem wit_faults : [faultClass 0x41FF == none && faultClass 0x4197 == some 50 && faultClass 0 == some 0,
    base.get FLT_REC_STATUS.VALID 0 == 0 && base.get FLT_STATUS.ENTERING 0 == 0 && base.tim.acc < secUnits,
    (let d := with_ [(FLT_REC_STATUS.VALID, 0, 1), (FLT_REC_STATUS.ACKED, 0, 1)]
     d.get FLT_REC_STATUS.VALID 0 == 1 && d.get FLT_REC_STATUS.ACKED 0 == 1),
    (let d := with_ [(FLT_REC_STATUS.VALID, 0, 1)]
     d.get FLT_REC_STATUS.VALID 0 == 1 && d.get FLT_REC_STATUS.ACKED 0 == 0),
    base.reactByte 0 3 / 2 % 8 == 0 && bitAt (base.reactByte 0 3) 5,
    base.reactByte 50 3 / 2 % 8 != 0 || base.reactByte 33 3 / 2 % 8 != 0 || (with_ [(FLT_REACT.R_FATAL, 50, 2)]).reactByte 50 3 / 2 % 8 == 1,
    (let d := with_ [(FLT_REACT.R_SERIOUS, 50, 0x10), (X.CMP_READY, 0, 1)]
     !bitAt (d.reactByte 50 2) 5 && bitAt (d.reactByte 50 2) 4 && d.get FLT_STATUS.SAFE 0 == 0 && d.get X.CMP_READY 0 == 1),
    evcCommand .routeCommit && (exec .routeCommit (runs .fabric (vector 2 [])) matches .next _)].all id = true := by decide +kernel

theorem wit_replies : [base.cmp.barrier == none && base.cmp.quiesce == false, decide (¬(LCK_CFG.KEEP_FIRST.id = LCK_CFG.AUTO_RELEASE_MS.id)),
    mirrored LN_CDR_UNLOCK.COUNT, !mirrored MAC_TX_CTRL.COUNT, base.get LN_CDR_UNLOCK.COUNT 8 < 2 ^ LN_CDR_UNLOCK.COUNT.w].all id = true := by
  decide +kernel

theorem wit_hysteresis : ([fcGalley, fcCore].all fun m => [0, 1].all fun x => (with_ [(GAL_PC_CFG.FC_MODE, 143, m),
      (GAL_PC_STATUS.XOFF, 143, x), (GAL_PC_XOFF.XOFF_TH, 143, 2), (GAL_PC_XON.XON_TH, 143, 1)]).fcMode 143 == m) = true := by
  decide +kernel

/-- R367: with a channel FAILED and the galley out of service an empty GALLEY class is held XOFF. -/
theorem wit_hysteresis_failed :
    (let d := with_ [(GAL_PC_CFG.FC_MODE, 143, fcGalley), (GAL_CH_STATUS.FAILED, 63, 1), (GAL_PC_XOFF.XOFF_TH, 143, 2), (GAL_PC_XON.XON_TH, 143, 1)]
     d.keys GAL_CH_STATUS.FAILED != [] && d.get GAL_STATUS.IN_SERVICE 0 == 0 && (d.hyst 143).get GAL_PC_STATUS.XOFF 143 == 1) = true := by
  decide +kernel

/-- R21's example: a 65-byte frame takes 5 segments, on a 200G port in 5 cycles, on a 1.6T port in one; BYTES of the last is 1. -/
theorem test_segments_65 : (segments 3 1 0 2 (List.replicate 65 0)).map (fun x => (x.cycle, x.position, x.sof, x.eof, x.bytes)) =
      [(0, 3, true, false, 0), (1, 3, false, false, 0), (2, 3, false, false, 0), (3, 3, false, false, 0), (4, 3, false, true, 1)] ∧
    (segments 8 8 0 2 (List.replicate 65 0)).map (fun x => (x.cycle, x.position)) = [(0, 8), (0, 9), (0, 10), (0, 11), (0, 12)] := by
  decide +kernel

/-- The comma sent is the one of Table 26 with its width, and the receiver's comma-lock machine takes it as valid in SEARCH. -/
theorem test_comma_sent : commaW0 5 3 200 = comma 5 200 + 3 * 2 ^ 35 ∧ commaValid 1 (commaW0 5 3 200) = true ∧
    commaValid 1 (commaW0 5 3 200 + 1) = true ∧ commaValid 1 (commaW0 5 3 200 ^^^ 2 ^ 8) = false := by decide

/-- The runs of an attention word (Table 24): on 4, off 2, on 2, off 1, on 1, off 3, on 1, off 2 slots. -/
theorem test_attention_word : attnWord = List.replicate 4 true ++ List.replicate 2 false ++ List.replicate 2 true ++ [false, true] ++
    List.replicate 3 false ++ [true, false, false] := by decide

/-- The frame word sent is one whose CHECK its receiver accepts (Table 33), and one bit wrong is refused. -/
theorem test_frame_sent : frameWordOk (Machine.frameWord 0xC1 7 1 2 true false 0 255 3 0x0901CE10) = true ∧
    frameWordOk (Machine.frameWord 0xC1 7 1 2 true false 0 255 3 0x0901CE10 ^^^ 2 ^ 36) = false := by decide +kernel

/-- R88, R105: a field bit of 1 is level 3 then 0; a frame on the line begins with start, six 0x55 and the delimiter. -/
theorem test_line_forms : fieldSyms [true, false] = [3, 0, 0, 3] ∧
    (frameOcts [0xAB] 8).take 10 = .start :: List.replicate 6 (.data 0x55) ++ [.data 0xD5, .data 0xAB, .term] := by decide

/-- R70: filler is deleted from a gap of 16 bytes down to 8, from one of 15 in no whole block, and the rest stays owed. -/
theorem test_filler_deleted : deleteGap (.term :: List.replicate 15 .idle) 64 = (.term :: List.replicate 7 .idle, 56) ∧
    deleteGap (.term :: List.replicate 14 .idle) 64 = (.term :: List.replicate 14 .idle, 64) := by decide

theorem wit_routing : [(vector 2 [(EVC_TSET.MASK 3, 0, 2 ^ 63)]).routeTarget 1023 == some 255,
    (vector 2 [(EVC_TSET.MASK 3, 0, 2 ^ 63), (EVC_VEC_CFG.ROUTE, 1023, 1)]).routeTarget 1023 == some 255,
    decide (255 ∈ (vector 2 [(EVC_TSET.MASK 3, 0, 2 ^ 63)]).setTargets 0) && (vector 2 []).accepts 255 1023,
    (vector 3 []).claimVec 255 == some 1023 && Tab.wf ((vector 3 []).f.get EVC_VEC_STATUS.STATE.id []) 0,
    (vector 3 [(X.EVC_PRIO, 1023, 0)]).claimVec 255 == none].all id = true := by decide +kernel

theorem wit_resets : (Scope.bank 15).holds (.eight 127) = true ∧ (Scope.eight 0).holds (.port 8) = false ∧
    [Scope.eight 0, .eight 1].Pairwise Scope.apart ∧ ((domain 31 3).pd 31).st = 3 ∧ ((domain 31 0).pd 31).st = 0 ∧
    ((domain 31 2).pd 31).st = 2 ∧ ((domain 31 1).pd 31).st = 1 := by
  refine ⟨by decide, by decide, ?_, by decide +kernel, by decide +kernel, by decide +kernel, by decide +kernel⟩
  simp [Scope.apart, Scope.holds, Scope.holdsEight]

end Sys2Proof.Tests
end

section
/-!
SUPPORT. R14: what an addition to a counter leaves alone, what a wrapping addition gives, and that the publication of a ring's
index line keeps its index. With these, O56.
-/
namespace Sys2Proof.Machine
open F

/-- A write of one field at one object leaves every other field number and every other object alone. -/
theorem Dev.get_put_ne {F G : Fld} (d : Dev) {i j : Nat} (v : Nat) (h : G.id ≠ F.id ∨ j ≠ i) :
    (d.put F i v).get G j = d.get G j := by
  by_cases hid : F.id = G.id
  · have hobj : i ≠ j := (h.resolve_left fun hne => hne hid.symm).symm
    simp [Dev.get, Dev.put, fldGet, fldPut, ← hid, Tab.get_set_ne _ _ _ _ hobj]
  · exact d.get_put_id i j v hid

/-- An addition changes no other field number and no other object. -/
theorem Dev.get_add_ne {F G : Fld} (d : Dev) {i j : Nat} (n : Nat) (h : G.id ≠ F.id ∨ j ≠ i) :
    (d.add F i n).get G j = d.get G j :=
  d.get_put_ne _ h

/-- A counter held to its width does not fall when it is added to: it saturates and does not wrap. -/
theorem Dev.get_le_get_add (d : Dev) (F : Fld) (i n : Nat) (h : d.get F i ≤ 2 ^ F.w - 1) :
    d.get F i ≤ (d.add F i n).get F i := by
  rw [Dev.get_add]
  exact le_min (Nat.le_add_right _ _) h

/-- A wrapping addition is reduced modulo the field's width. -/
theorem Dev.get_wrap (d : Dev) (F : Fld) (i n : Nat) : (d.wrap F i n).get F i = (d.get F i + n) % 2 ^ F.w :=
  d.get_put F i _

/-- The fields the publication of an index line may change: the count of publications and the event state. -/
def announceIds : List Nat := (RING_CNT.COUNT 7).id :: eventIds

theorem Dev.announce_keeps (d : Dev) (r : Nat) : Dev.keeps announceIds d (d.announce r) := by
  have hline : Dev.keeps announceIds d (d.lineWrite r) := Dev.keeps.emit (Dev.keeps.refl _ _)
  have hcount : Dev.keeps announceIds d ((d.lineWrite r).inc (RING_CNT.COUNT 7) r) :=
    Dev.keeps.inc List.mem_cons_self hline
  exact Dev.keeps.ite (Dev.keeps.step (Dev.event_keeps _ _ _ _) (fun _ => List.mem_cons_of_mem _) hcount) hcount

/-- A publication moves the ring's index on by the completions accumulated, modulo its width (R265). -/
theorem Dev.get_publish_hwIndex (d : Dev) (r : Nat) :
    (d.publish r).get RING_STATE.HW_INDEX r =
      (d.get RING_STATE.HW_INDEX r + (d.ring r).unpub) % 2 ^ RING_STATE.HW_INDEX.w := by
  have hfree : RING_STATE.HW_INDEX.id ∉ announceIds := by decide
  rw [Dev.publish, Dev.announce_keeps _ r _ r hfree, Dev.setRing_get, Dev.get_wrap]

end Sys2Proof.Machine

open Sys2Proof.Machine in
/-- Settles O56: an addition is a write clipped at the field's maximum, and the ring indices are written by `Dev.wrap`. -/
theorem countersSaturate : Obligations.CountersSaturate :=
  ⟨fun d F i n => ⟨d.get_add F i n, d.get_le_get_add F i n, fun _ _ => d.get_add_ne n⟩,
    fun d r n => ⟨d.get_wrap F.RING_PROGRESS.NEXT r n, d.get_publish_hwIndex r⟩⟩
end

section
/-!
SUPPORT. R342, R344, R346: one fault through the desk, in two halves: what it enters in the log and the record, and its
reactions, which leave the log and the record alone. With these, O49.
-/
namespace Sys2Proof.Machine
open F

/-- Of several fields written together, no two with one number, each reads what was written, held to its width. -/
theorem Dev.get_puts_of_mem (d : Dev) (i : Nat) {l : List (Fld × Nat)} (hl : (l.map (·.1.id)).Nodup) {p : Fld × Nat}
    (hp : p ∈ l) : (d.puts i l).get p.1 i = p.2 % 2 ^ p.1.w := by
  induction l generalizing d with
  | nil => cases hp
  | cons q l ih =>
    obtain ⟨hq, hl⟩ := List.nodup_cons.mp hl
    rw [Dev.puts_cons]
    rcases List.mem_cons.mp hp with rfl | hp
    · have hne : ∀ x ∈ l, x.1.id ≠ p.1.id := fun x hx he => hq (List.mem_map.mpr ⟨x, hx, he⟩)
      rw [Dev.get_puts_id _ _ _ _ hne, Dev.get_put]
    · exact ih _ hl hp

/-- Every source index with a class lies below 0x4200 (Table 119). -/
theorem faultClass_src_lt {src cls : Nat} (h : faultClass src = some cls) : src < 0x4200 := by
  by_contra hge
  have h32 : ¬ src < 32 := by omega
  have hbank : ¬ (0x100 ≤ src ∧ src < 0x200) := by omega
  have height : ¬ (0x200 ≤ src ∧ src < 0x4200) := by omega
  simp [faultClass, h32, hbank, height] at h

/-- The desk treats a fault raised alone in its cycle as it is (R345). -/
theorem Dev.faults_singleton (d : Dev) {r : Raised} {cls : Nat} (hc : faultClass r.src = some cls) :
    d.faults [r] = d.raise1 r (bitAt (d.reactByte cls r.sev) 5) := by
  simp [Dev.faults, orderFault, hc]

/-- R344's two conditions. -/
theorem Dev.opens_iff (d : Dev) : d.opens = true ↔
    (d.get FLT_REC_STATUS.VALID 0 ≠ 1 ∨ d.get FLT_REC_STATUS.ACKED 0 = 1) ∧ d.get FLT_STATUS.ENTERING 0 ≠ 1 := by
  simp [Dev.opens, Dev.on]

/-- The fields of a log entry (R342). -/
def logFields (t : Stamp) (valid : Bool) (r : Raised) (merged : Bool) : List (Fld × Nat) :=
  [(FLT_LOG_LO.SOURCE, r.src), (FLT_LOG_LO.SEV, r.sev), (FLT_LOG_LO.MERGED, flag merged),
    (FLT_LOG_LO.INJECTED, flag r.inj), (FLT_LOG_LO.TS_VALID, flag valid), (FLT_LOG_LO.INFO, r.info),
    (FLT_LOG_HI.NANOSECONDS, t.ns), (FLT_LOG_HI.SECONDS, t.sec)]

/-- The fields of the record, as its opening writes them (R344). -/
def recordFields (t : Stamp) (valid : Bool) (r : Raised) : List (Fld × Nat) :=
  [(FLT_REC_STATUS.VALID, 1), (FLT_REC_STATUS.ACKED, 0), (FLT_REC_STATUS.SEV, r.sev),
    (FLT_REC_STATUS.PEAK_SEV, r.sev), (FLT_REC_STATUS.INJECTED, flag r.inj), (FLT_REC_STATUS.SOURCE, r.src),
    (FLT_REC_STATUS.MERGE_COUNT, 0), (FLT_REC_INFO.INFO, r.info), (FLT_REC_TIME_SEC.SECONDS, t.sec),
    (FLT_REC_TIME_NS.NANOSECONDS, t.ns), (FLT_REC_TIME_NS.FRAC_NS, t.frac),
    (FLT_REC_TIME_NS.TS_VALID, flag valid), (FLT_REC_MERGE_MAP.MAP, 0)]

/-- The numbers of `logFields`. -/
def logIds : List Nat := [FLT_LOG_LO.SOURCE.id, FLT_LOG_LO.SEV.id, FLT_LOG_LO.MERGED.id, FLT_LOG_LO.INJECTED.id,
  FLT_LOG_LO.TS_VALID.id, FLT_LOG_LO.INFO.id, FLT_LOG_HI.NANOSECONDS.id, FLT_LOG_HI.SECONDS.id]

/-- The numbers of `recordFields`. -/
def recordIds : List Nat := [FLT_REC_STATUS.VALID.id, FLT_REC_STATUS.ACKED.id, FLT_REC_STATUS.SEV.id,
  FLT_REC_STATUS.PEAK_SEV.id, FLT_REC_STATUS.INJECTED.id, FLT_REC_STATUS.SOURCE.id, FLT_REC_STATUS.MERGE_COUNT.id,
  FLT_REC_INFO.INFO.id, FLT_REC_TIME_SEC.SECONDS.id, FLT_REC_TIME_NS.NANOSECONDS.id, FLT_REC_TIME_NS.FRAC_NS.id,
  FLT_REC_TIME_NS.TS_VALID.id, FLT_REC_MERGE_MAP.MAP.id]

/-- The fields a merged fault changes in the record and its count (R346). -/
def mergeIds : List Nat := [FLT_REC_MERGE_MAP.MAP.id, FLT_REC_STATUS.PEAK_SEV.id, FLT_REC_STATUS.MERGE_COUNT.id,
  FLT_MERGED.COUNT.id]

/-- The fields the reactions of a fault may change (R341, R346, R348, R349). -/
def reactIds : List Nat := FLT_STATUS.ENTERING.id :: FLT_STATUS.QUIET_LEFT_MS.id :: seenIds

theorem logFields_nodup (t : Stamp) (valid : Bool) (r : Raised) (m : Bool) :
    ((logFields t valid r m).map (·.1.id)).Nodup := (by decide : logIds.Nodup)

theorem recordFields_nodup (t : Stamp) (valid : Bool) (r : Raised) :
    ((recordFields t valid r).map (·.1.id)).Nodup := (by decide : recordIds.Nodup)

theorem flag_lt_two (b : Bool) : flag b < 2 := by cases b <;> decide

/-- A time below 2^48 seconds and a fault of Table 120 fit the fields of the record. -/
theorem recordFields_fit {d : Dev} {r : Raised} {cls : Nat} (hc : faultClass r.src = some cls) (hsev : r.sev < 4)
    (hinfo : r.info < 2 ^ 32) (hsec : d.tim.sec < 2 ^ 48) (hacc : d.tim.acc < secUnits) :
    ∀ p ∈ recordFields d.now d.tsValid r, p.2 < 2 ^ p.1.w := by
  have hsrc : r.src < 2 ^ 16 := (faultClass_src_lt hc).trans (by decide)
  have hns : d.tim.acc / 2 ^ 50 < 2 ^ 32 := by
    have : d.tim.acc / 2 ^ 50 < 10 ^ 9 := Nat.div_lt_of_lt_mul (by rwa [Nat.mul_comm])
    exact this.trans (by decide)
  have hfrac : d.tim.acc / 2 ^ 34 % 2 ^ 16 < 2 ^ 16 := Nat.mod_lt _ (by decide)
  simp only [recordFields, List.forall_mem_cons, List.not_mem_nil, false_imp_iff, implies_true, and_true]
  exact ⟨by decide, by decide, hsev, hsev, flag_lt_two _, hsrc, by decide, hinfo, hsec, hns, hfrac, flag_lt_two _,
    by decide⟩

theorem Dev.logFault_keeps_log (d : Dev) (r : Raised) (m : Bool) :
    Dev.keeps (FLT_LOG_HEAD.HEAD.id :: logIds) d (d.logFault r m) :=
  Dev.keeps.wrap (by decide) (Dev.keeps.puts rfl (Dev.keeps.refl _ _))

/-- The entry a fault writes is the one FLT_LOG_HEAD names, modulo 64 (R342). -/
theorem Dev.get_logFault (d : Dev) (r : Raised) (m : Bool) {p : Fld × Nat} (hp : p ∈ logFields d.now d.tsValid r m) :
    (d.logFault r m).get p.1 (d.get FLT_LOG_HEAD.HEAD 0 % 64) = p.2 % 2 ^ p.1.w := by
  have hid : p.1.id ∈ logIds := List.mem_map_of_mem (f := (·.1.id)) hp
  have hhead : FLT_LOG_HEAD.HEAD.id ≠ p.1.id := fun he => absurd (he ▸ hid) (by decide)
  exact (Dev.get_wrap_id _ _ _ _ hhead).trans (d.get_puts_of_mem _ (logFields_nodup _ _ _ _) hp)

theorem Dev.get_openRecord (d : Dev) (r : Raised) {p : Fld × Nat} (hp : p ∈ recordFields d.now d.tsValid r) :
    (d.openRecord r).get p.1 0 = p.2 % 2 ^ p.1.w :=
  d.get_puts_of_mem 0 (recordFields_nodup _ _ _) hp

theorem Dev.mergeRecord_keeps_merge (d : Dev) (r : Raised) (cls : Nat) :
    Dev.keeps mergeIds d (d.mergeRecord r cls) :=
  Dev.keeps.inc (by decide) (Dev.keeps.inc (by decide) (Dev.keeps.puts rfl (Dev.keeps.refl _ _)))

/-- The desk with a fault counted and logged, its record not yet touched (R342). -/
def Dev.countLog (d : Dev) (r : Raised) (cls : Nat) : Dev := (d.inc FLT_CNT.COUNT cls).logFault r (!d.opens)

/-- The desk with a fault counted, logged and in the record, or merged into it: all but its reactions (R344, R346). -/
def Dev.enter (d : Dev) (r : Raised) (cls : Nat) : Dev :=
  if d.opens then (d.countLog r cls).openRecord r else (d.countLog r cls).mergeRecord r cls

theorem Dev.countLog_keeps (d : Dev) (r : Raised) (cls : Nat) :
    Dev.keeps (FLT_CNT.COUNT.id :: FLT_LOG_HEAD.HEAD.id :: logIds) d (d.countLog r cls) :=
  Dev.keeps.step (Dev.logFault_keeps_log _ _ _) (fun _ => List.mem_cons_of_mem _)
    (Dev.keeps.inc List.mem_cons_self (Dev.keeps.refl _ _))

theorem Dev.countLog_now (d : Dev) (r : Raised) (cls : Nat) : (d.countLog r cls).now = d.now := rfl

theorem Dev.countLog_tsValid (d : Dev) (r : Raised) (cls : Nat) : (d.countLog r cls).tsValid = d.tsValid := by
  rw [Dev.tsValid, Dev.on, d.countLog_keeps r cls TIM_CTL.EN 0 (by decide), Dev.tsValid, Dev.on]

/-- A counted and logged fault shows in its log entry whether it was merged (R346). -/
theorem Dev.get_countLog_merged (d : Dev) (r : Raised) (cls : Nat) :
    (d.countLog r cls).get FLT_LOG_LO.MERGED (d.get FLT_LOG_HEAD.HEAD 0 % 64) = flag (!d.opens) := by
  have hhead : (d.inc FLT_CNT.COUNT cls).get FLT_LOG_HEAD.HEAD 0 = d.get FLT_LOG_HEAD.HEAD 0 :=
    d.get_inc_id cls 0 (by decide)
  have hentry := (d.inc FLT_CNT.COUNT cls).get_logFault r (!d.opens) (p := (FLT_LOG_LO.MERGED, flag (!d.opens)))
    (by simp [logFields])
  rw [hhead] at hentry
  exact hentry.trans (Nat.mod_eq_of_lt (flag_lt_two _))

theorem Dev.quietLoad_keeps (d : Dev) : Dev.keeps reactIds d d.quietLoad :=
  Dev.keeps.other rfl (Dev.keeps.put (by decide) (Dev.keeps.refl _ _))

theorem Dev.askSafe_keeps_react (d : Dev) : Dev.keeps reactIds d d.askSafe := by
  unfold Dev.askSafe
  refine Dev.keeps.ite (Dev.keeps.refl _ _) (Dev.keeps.ite ?_ ?_)
  · exact Dev.keeps.put (by decide) (Dev.keeps.refl _ _)
  · exact Dev.keeps.other rfl (Dev.keeps.refl _ _)

/-- Once a fault is entered, what else the desk does with it leaves the log, the counts and the record alone. -/
theorem Dev.raise1_keeps_entered (d : Dev) {r : Raised} {cls : Nat} (noSafe : Bool) (hc : faultClass r.src = some cls) :
    Dev.keeps reactIds (d.enter r cls) (d.raise1 r noSafe) := by
  unfold Dev.raise1
  split
  case h_1 h => simp [hc] at h
  rename_i c h
  obtain rfl : cls = c := Option.some.inj (hc.symm.trans h)
  extract_lets byte first counted entered noted quieted k reacted locked
  have hseen : ∀ x ∈ seenIds, x ∈ reactIds := fun _ h => List.mem_cons_of_mem _ (List.mem_cons_of_mem _ h)
  have hentered : Dev.keeps reactIds (d.enter r cls) entered := Dev.keeps.refl _ _
  have hnoted : Dev.keeps reactIds (d.enter r cls) noted :=
    Dev.keeps.ite (Dev.keeps.step (Dev.seen_keeps _ _ _) hseen hentered) hentered
  have hquieted : Dev.keeps reactIds (d.enter r cls) quieted :=
    Dev.keeps.ite (hnoted.trans (Dev.quietLoad_keeps _)) hnoted
  have hreacted : Dev.keeps reactIds (d.enter r cls) reacted := Dev.keeps.ite (Dev.keeps.other rfl hquieted) hquieted
  have hlocked : Dev.keeps reactIds (d.enter r cls) locked :=
    Dev.keeps.ite (Dev.keeps.other (Dev.askLockup_f _ _) hreacted) hreacted
  exact Dev.keeps.ite (hlocked.trans (Dev.askSafe_keeps_react _)) hlocked

theorem Dev.faults_keeps_entered (d : Dev) {r : Raised} {cls : Nat} (hc : faultClass r.src = some cls) :
    Dev.keeps reactIds (d.enter r cls) (d.faults [r]) := by
  rw [d.faults_singleton hc]
  exact d.raise1_keeps_entered _ hc

/-- A fault that opens the record is what the record then holds. -/
theorem Dev.get_faults_of_opens (d : Dev) {r : Raised} {cls : Nat} (hc : faultClass r.src = some cls)
    (ho : d.opens = true) {p : Fld × Nat} (hp : p ∈ recordFields d.now d.tsValid r) :
    (d.faults [r]).get p.1 0 = p.2 % 2 ^ p.1.w := by
  have hid : p.1.id ∈ recordIds := List.mem_map_of_mem (f := (·.1.id)) hp
  have hfree : ∀ n ∈ recordIds, n ∉ reactIds := by decide
  rw [d.faults_keeps_entered hc p.1 0 (hfree _ hid), Dev.enter, if_pos ho]
  rw [← d.countLog_now r cls, ← d.countLog_tsValid r cls] at hp
  exact (d.countLog r cls).get_openRecord r hp

/-- The fields a merged fault may change. -/
def mergedIds : List Nat := FLT_CNT.COUNT.id :: FLT_LOG_HEAD.HEAD.id :: logIds ++ mergeIds ++ reactIds

theorem Dev.faults_keeps_of_merged (d : Dev) {r : Raised} {cls : Nat} (hc : faultClass r.src = some cls)
    (ho : d.opens = false) : Dev.keeps mergedIds d (d.faults [r]) := by
  have hcounted : Dev.keeps mergedIds d (d.countLog r cls) := (d.countLog_keeps r cls).mono (by decide)
  have hentered : Dev.keeps mergedIds d (d.enter r cls) := by
    rw [Dev.enter, ho]
    exact Dev.keeps.step (Dev.mergeRecord_keeps_merge _ _ _) (by decide) hcounted
  exact Dev.keeps.step (d.faults_keeps_entered hc) (fun _ => List.mem_append_right _) hentered

theorem Dev.get_faults_merged (d : Dev) {r : Raised} {cls : Nat} (hc : faultClass r.src = some cls)
    (ho : d.opens = false) : (d.faults [r]).get FLT_LOG_LO.MERGED (d.get FLT_LOG_HEAD.HEAD 0 % 64) = 1 := by
  rw [d.faults_keeps_entered hc _ _ (by decide), Dev.enter, ho]
  refine ((d.countLog r cls).mergeRecord_keeps_merge r cls _ _ (by decide)).trans ?_
  rw [Dev.get_countLog_merged, ho]
  rfl

end Sys2Proof.Machine

open Sys2Proof.Machine in
/-- Settles O49: the entry of a fault is split by `Dev.opens`, and the reactions that follow it leave the record alone. -/
theorem faultOpensRecord : Obligations.FaultOpensRecord := by
  intro d r cls hc hsev hinfo hsec hacc
  refine ⟨fun hrec hent => ?_, fun hmerge => ?_⟩
  · have ho : d.opens = true := d.opens_iff.mpr (by omega)
    have hwritten : ∀ p ∈ recordFields d.now d.tsValid r, (d.faults [r]).get p.1 0 = p.2 := fun p hp =>
      (d.get_faults_of_opens hc ho hp).trans (Nat.mod_eq_of_lt (recordFields_fit hc hsev hinfo hsec hacc p hp))
    simp only [recordFields, List.forall_mem_cons] at hwritten
    obtain ⟨hvalid, hacked, hsv, hpeak, hinj, hsrc, hcount, hinf, hs, hns, hfrac, hts, hmap, -⟩ := hwritten
    have htsv : flag d.tsValid = if d.get F.TIM_CTL.EN 0 = 1 then 1 else 0 := by simp [flag, Dev.tsValid, Dev.on]
    exact ⟨hsrc, hinf, hinj, hsv, hpeak, hcount, hmap, hs, hns, hfrac, hts.trans htsv, hvalid, hacked⟩
  · have ho : d.opens = false := Bool.eq_false_iff.mpr fun h => by
      have hopens := d.opens_iff.mp h
      omega
    exact ⟨d.get_faults_merged hc ho, fun G hG => d.faults_keeps_of_merged hc ho G 0 (by revert G; decide)⟩
end

section
/-!
SUPPORT. R376: the object blocks outside the bank regions lie in windows that do not overlap, so the one an offset names is
the one it is in; within a bank region an offset is taken apart by bank, eight and block. With these, O48.
-/
namespace Sys2Proof.Machine

/-- The first offset and the length of the window of each entry of `blockList`, in its order. -/
def blockWindows : List (Nat × Nat) := [
  (0x80000, 0x800 * 8), (0x2001000, 8 * 64), (0x2040000, 0x100 * 1024), (0x2100000, 0x40 * 16384),
  (0x2201000, 0x40 * 1032), (0x2220000, 0x20 * 16512), (0x2300000, 0x40 * 16384), (0x2404000, 8 * 1024),
  (0x2410000, 0x40 * 1032), (0x2430000, 0x80 * 1024), (0x2460000, 0x20 * 16384), (0x2500000, 8 * 131072),
  (0x2601000, 0x100 * 16), (0x2610000, 0x40 * 64), (0x2620000, 8 * 16384), (0x2640000, 0x40 * 16384),
  (0x2760000, 8 * 66048), (0x2820000, 0x80 * 4096), (0x2900000, 0x80 * 4096), (0x2810000, 0x400 * 64),
  (0x2C00000, 0x1000 * 64), (0x3010000, 0x40 * 256), (0x3018000, 0x20 * 64), (0x3020000, 0x40 * 1024),
  (0x3040000, 4 * 65536), (0x3080000, 8 * 65536), (0x3400400, 4 * 64), (0x3400800, 8 * 64), (0x3401000, 0x10 * 64),
  (0x3202000, 0x2000), (0x3210000, 0x10000), (0x3640000, 0x40000)]

/-- The offset lies in the window. -/
def inWindow (o : Nat) (w : Nat × Nat) : Prop := w.1 ≤ o ∧ o < w.1 + w.2

/-- One window ends before the other begins. -/
def windowsApart (v w : Nat × Nat) : Bool := decide (v.1 + v.2 ≤ w.1 ∨ w.1 + w.2 ≤ v.1)

theorem blockWindows_apart : blockWindows.Pairwise (windowsApart · ·) := by decide

theorem not_inWindow_of_windowsApart {o : Nat} {v w : Nat × Nat} (h : windowsApart v w) (hw : inWindow o w) :
    ¬ inWindow o v := by
  simp only [windowsApart, inWindow, decide_eq_true_eq] at *
  omega

theorem isSome_blockSlot (p : Place) (o base stride count : Nat) :
    (blockSlot p o base stride count).isSome ↔ base ≤ o ∧ o < base + stride * count := by
  simp [blockSlot]

/-- An entry of the list names something at offsets of its window only. -/
theorem blockList_within (o : Nat) :
    List.Forall₂ (fun e w => e.isSome → inWindow o w) (blockList o) blockWindows := by
  simp [blockList, blockWindows, inWindow, isSome_blockSlot]

theorem exists_inWindow_of_mem {α : Type} {o : Nat} {l : List (Option α)} {ws : List (Nat × Nat)}
    (hl : List.Forall₂ (fun e w => e.isSome → inWindow o w) l ws) {s : α} (hs : some s ∈ l) :
    ∃ w ∈ ws, inWindow o w := by
  induction hl with
  | nil => cases hs
  | cons hew _ ih =>
    rcases List.mem_cons.mp hs with rfl | hs
    · exact ⟨_, List.mem_cons_self, hew rfl⟩
    · obtain ⟨w, hw, hin⟩ := ih hs
      exact ⟨w, List.mem_cons_of_mem _ hw, hin⟩

/-- Of entries that name something in windows apart from one another, only one does at an offset, and a search finds it. -/
theorem findSome?_of_mem_of_windowsApart {α : Type} {o : Nat} {l : List (Option α)} {ws : List (Nat × Nat)}
    (hl : List.Forall₂ (fun e w => e.isSome → inWindow o w) l ws) (hws : ws.Pairwise (windowsApart · ·)) {s : α}
    (hs : some s ∈ l) : l.findSome? id = some s := by
  induction hl with
  | nil => cases hs
  | @cons e w l ws hew hl ih =>
    obtain ⟨hw, hws⟩ := List.pairwise_cons.mp hws
    rcases List.mem_cons.mp hs with rfl | hs
    · rfl
    · obtain ⟨v, hv, hin⟩ := exists_inWindow_of_mem hl hs
      have he : e = none := by
        simpa using fun hsome => not_inWindow_of_windowsApart (hw v hv) hin (hew hsome)
      rw [he]
      exact ih hws hs

/-- Outside the bank regions an offset names what any entry of the list says it names. -/
theorem Dev.slotOf_of_mem (d : Dev) {o : Nat} {s : Slot} (ho : o < 0x1000000 ∨ 0x2000000 ≤ o) (hs : some s ∈ blockList o)
    (hhere : d.blockHere s = true) : d.slotOf o = s := by
  have hout : ¬ (0x1000000 ≤ o ∧ o < 0x2000000) := by omega
  simp only [Dev.slotOf, if_neg hout, findSome?_of_mem_of_windowsApart (blockList_within o) blockWindows_apart hs, hhere,
    if_true]

theorem blockSlot_base_add (p : Place) {base stride count i k : Nat} (hi : i < count) (hk : k < stride) :
    blockSlot p (base + i * stride + k) base stride count = some (.reg p i k) := by
  have hend : i * stride + k < stride * count := by
    calc i * stride + k < (i + 1) * stride := by rw [Nat.succ_mul]; omega
      _ ≤ stride * count := by rw [Nat.mul_comm stride]; exact Nat.mul_le_mul_right _ hi
  have hoff : base + i * stride + k - base = k + i * stride := by omega
  have hpos : 0 < stride := by omega
  rw [blockSlot, if_pos (by omega), hoff, Nat.add_mul_div_right _ _ hpos, Nat.div_eq_of_lt hk, Nat.zero_add,
    Nat.add_mul_mod_self_right, Nat.mod_eq_of_lt hk]

/-- A block of the list: the base, the object's multiple of the stride and an offset below the stride name that offset of
the object's block. -/
theorem Dev.slotOf_block (d : Dev) {p : Place} {base stride count i k : Nat} (hi : i < count) (hk : k < stride)
    (hhere : d.blockHere (.reg p i k) = true) (hbase : 0x2000000 ≤ base := by decide)
    (hmem : blockSlot p (base + i * stride + k) base stride count ∈ blockList (base + i * stride + k) := by
      simp [blockList]) :
    d.slotOf (base + i * stride + k) = .reg p i k := by
  rw [blockSlot_base_add p hi hk] at hmem
  exact d.slotOf_of_mem (.inr (by omega)) hmem hhere

theorem Dev.slotOf_recirc_mac (d : Dev) {i k : Nat} (hi : i < 8) (hk : k < 0x800) :
    d.slotOf (0x80000 + i * 0x800 + k) = .reg .mac (1024 + i) k :=
  d.slotOf_of_mem (.inl (by omega)) (by simp [blockList, blockSlot_base_add _ hi hk]) rfl

theorem Dev.slotOf_ringRx (d : Dev) {q k : Nat} (hq : q < 4096) (hk : k < 0x80) :
    d.slotOf (0x2900000 + q * 0x80 + k) = .reg .ring (ringRx q) k :=
  d.slotOf_of_mem (.inr (by omega)) (by simp [blockList, blockSlot_base_add _ hq hk, ringRx]) rfl

/-- The lower half of a function's block is its four command and reply rings. -/
theorem Dev.slotOf_fn_rings (d : Dev) {f k : Nat} (hf : f < 64) (hk : k < 0x200) :
    d.slotOf (0x2810000 + f * 0x400 + k) = .reg .ring (8192 + 4 * f + k / 0x80) (k % 0x80) :=
  d.slotOf_of_mem (.inr (by omega)) (by simp [blockList, blockSlot_base_add _ hf (show k < 0x400 by omega), hk]) rfl

theorem Dev.slotOf_fn (d : Dev) {f k : Nat} (hf : f < 64) (hlo : 0x200 ≤ k) (hk : k < 0x400) :
    d.slotOf (0x2810000 + f * 0x400 + k) = .reg .fn f k :=
  d.slotOf_of_mem (.inr (by omega)) (by simp [blockList, blockSlot_base_add _ hf hk, hlo.not_gt]) rfl

theorem Dev.lt_of_isPort {d : Dev} {p : Nat} (h : d.isPort p = true) : p < 1032 := by
  by_contra hp
  simp [Dev.isPort, Dev.portWidth, show ¬ p < 1024 by omega, hp] at h

theorem Dev.lt_of_isLanePort {d : Dev} {p : Nat} (h : d.isLanePort p = true) : p < 1024 := by
  simp only [Dev.isLanePort, Bool.and_eq_true, decide_eq_true_eq] at h
  exact h.1

/-- The common registers of a bank follow its eights (R16). -/
theorem Dev.slotOf_bank (d : Dev) {b k : Nat} (hb : b < 16) (hk : k < 0x100) :
    d.slotOf (0x1000000 + b * 0x100000 + 0x80000 + k) = .reg .bank b k := by
  have hregion : 0x1000000 ≤ 0x1000000 + b * 0x100000 + 0x80000 + k ∧
      0x1000000 + b * 0x100000 + 0x80000 + k < 0x2000000 := by omega
  have hbank : (0x1000000 + b * 0x100000 + 0x80000 + k - 0x1000000) / 0x100000 = b := by omega
  have hoff : (0x1000000 + b * 0x100000 + 0x80000 + k) % 0x100000 = 0x80000 + k := by omega
  simp only [Dev.slotOf, if_pos hregion, hbank, hoff]
  rw [if_neg (by omega), if_pos (by omega), Nat.add_sub_cancel_left]

/-- An offset of an eight's block is read in that block. -/
theorem Dev.slotOf_eight (d : Dev) {e k : Nat} (he : e < 128) (hk : k < 0x10000) :
    d.slotOf (0x1000000 + e * 0x10000 + e / 8 * 0x80000 + k) = d.eightSlot e k := by
  have hregion : 0x1000000 ≤ 0x1000000 + e * 0x10000 + e / 8 * 0x80000 + k ∧
      0x1000000 + e * 0x10000 + e / 8 * 0x80000 + k < 0x2000000 := by omega
  have hbank : (0x1000000 + e * 0x10000 + e / 8 * 0x80000 + k - 0x1000000) / 0x100000 = e / 8 := by omega
  have hoff : (0x1000000 + e * 0x10000 + e / 8 * 0x80000 + k) % 0x100000 = e % 8 * 0x10000 + k := by omega
  have height : e / 8 * 8 + (e % 8 * 0x10000 + k) / 0x10000 = e := by omega
  have hrest : (e % 8 * 0x10000 + k) % 0x10000 = k := by omega
  simp only [Dev.slotOf, if_pos hregion, hbank, hoff, height, hrest]
  exact if_pos (by omega)

/-- The same for the eight of a lane. -/
theorem Dev.slotOf_eight_of_lane (d : Dev) {n k : Nat} (hn : n < 1024) (hk : k < 0x10000) :
    d.slotOf (0x1000000 + n / 8 * 0x10000 + n / 64 * 0x80000 + k) = d.eightSlot (n / 8) k := by
  have h := d.slotOf_eight (show n / 8 < 128 by omega) hk
  rwa [Nat.div_div_eq_div_mul] at h

theorem Dev.eightSlot_common (d : Dev) {k : Nat} (e : Nat) (hlo : 0xC000 ≤ k) (hk : k < 0xC008) :
    d.eightSlot e k = .reg .eight e k := by
  rw [Dev.eightSlot, if_neg (by omega), if_neg (by omega), if_pos hk]

theorem Dev.eightSlot_lane (d : Dev) {k : Nat} (n : Nat) (hk : k < 0x800) :
    d.eightSlot (n / 8) (n % 8 * 0x1000 + k) = .reg .lane n k := by
  have hlane : n / 8 * 8 + (n % 8 * 0x1000 + k) / 0x1000 = n := by omega
  have hoff : (n % 8 * 0x1000 + k) % 0x1000 = k := by omega
  simp only [Dev.eightSlot, hlane, hoff, if_pos hk]
  exact if_pos (by omega)

theorem Dev.eightSlot_pcs (d : Dev) {p k : Nat} (hp : d.isLanePort p = true) (hk : k < 0x800) :
    d.eightSlot (p / 8) (p % 8 * 0x1000 + (0x800 + k)) = .reg .pcs p k := by
  have hlane : p / 8 * 8 + (p % 8 * 0x1000 + (0x800 + k)) / 0x1000 = p := by omega
  have hoff : (p % 8 * 0x1000 + (0x800 + k)) % 0x1000 = 0x800 + k := by omega
  simp only [Dev.eightSlot, hlane, hoff, if_pos hp, Nat.add_sub_cancel_left]
  rw [if_pos (by omega), if_neg (by omega)]

theorem Dev.eightSlot_mac (d : Dev) {p k : Nat} (hp : d.isLanePort p = true) (hk : k < 0x800) :
    d.eightSlot (p / 8) (0x8000 + (p % 8 * 0x800 + k)) = .reg .mac p k := by
  have hport : p / 8 * 8 + (p % 8 * 0x800 + k) / 0x800 = p := by omega
  have hoff : (p % 8 * 0x800 + k) % 0x800 = k := by omega
  simp only [Dev.eightSlot, Nat.add_sub_cancel_left, hport, hoff, if_pos hp]
  rw [if_neg (by omega), if_pos (by omega)]

theorem Dev.eightSlot_launch (d : Dev) {n k : Nat} (hk : k < 0x18) (hhere : 8 ≤ k ∧ k < 16 ∨ d.isLanePort n = true) :
    d.eightSlot (n / 8) (0xC040 + (n % 8 * 0x18 + k)) = .reg .launch n k := by
  have hlane : n / 8 * 8 + (n % 8 * 0x18 + k) / 0x18 = n := by omega
  have hoff : (n % 8 * 0x18 + k) % 0x18 = k := by omega
  simp only [Dev.eightSlot, Nat.add_sub_cancel_left, hlane, hoff, if_pos hhere]
  rw [if_neg (by omega), if_neg (by omega), if_neg (by omega), if_pos (by omega)]

theorem Dev.slotOf_lane (d : Dev) {n k : Nat} (hn : n < 1024) (hk : k < 0x800) :
    d.slotOf (0x1000000 + n / 8 * 0x10000 + n / 64 * 0x80000 + n % 8 * 0x1000 + k) = .reg .lane n k := by
  rw [Nat.add_assoc _ (n % 8 * 0x1000), d.slotOf_eight_of_lane hn (by omega), d.eightSlot_lane n hk]

theorem Dev.slotOf_pcs (d : Dev) {p k : Nat} (hp : d.isLanePort p = true) (hk : k < 0x800) :
    d.slotOf (0x1000000 + p / 8 * 0x10000 + p / 64 * 0x80000 + p % 8 * 0x1000 + 0x800 + k) = .reg .pcs p k := by
  rw [Nat.add_assoc _ 0x800, Nat.add_assoc _ (p % 8 * 0x1000), d.slotOf_eight_of_lane (lt_of_isLanePort hp) (by omega),
    d.eightSlot_pcs hp hk]

theorem Dev.slotOf_mac (d : Dev) {p k : Nat} (hp : d.isLanePort p = true) (hk : k < 0x800) :
    d.slotOf (0x1000000 + p / 8 * 0x10000 + p / 64 * 0x80000 + 0x8000 + p % 8 * 0x800 + k) = .reg .mac p k := by
  rw [Nat.add_assoc _ (p % 8 * 0x800), Nat.add_assoc _ 0x8000, d.slotOf_eight_of_lane (lt_of_isLanePort hp) (by omega),
    d.eightSlot_mac hp hk]

theorem Dev.slotOf_launch (d : Dev) {n k : Nat} (hn : n < 1024) (hk : k < 0x18)
    (hhere : 8 ≤ k ∧ k < 16 ∨ d.isLanePort n = true) :
    d.slotOf (0x1000000 + n / 8 * 0x10000 + n / 64 * 0x80000 + 0xC040 + n % 8 * 0x18 + k) = .reg .launch n k := by
  rw [Nat.add_assoc _ (n % 8 * 0x18), Nat.add_assoc _ 0xC040, d.slotOf_eight_of_lane hn (by omega),
    d.eightSlot_launch hk hhere]

theorem classOf_div {p c : Nat} (hc : c < 16) : (p * 16 + c) / 16 = p := by omega

/-- Blocks of the galley and the gate engine, of a lane port and its classes. -/
theorem Dev.slotOf_lanePort_blocks (d : Dev) {p c : Nat} (k : Nat) (hp : d.isLanePort p = true) (hc : c < 16) :
    (k < 0x100 → d.slotOf (0x2040000 + p * 0x100 + k) = .reg .galport p k) ∧
    (k < 0x40 → d.slotOf (0x2100000 + (p * 16 + c) * 0x40 + k) = .reg .galclass (p * 16 + c) k) ∧
    (k < 0x80 → d.slotOf (0x2430000 + p * 0x80 + k) = .reg .gateport p k) ∧
    (k < 0x20 → d.slotOf (0x2460000 + (p * 16 + c) * 0x20 + k) = .reg .gateclass (p * 16 + c) k) := by
  have hlt := Dev.lt_of_isLanePort hp
  have hclass : p * 16 + c < 16384 := by omega
  have hof : d.isLanePort ((p * 16 + c) / 16) = true := by rwa [classOf_div hc]
  exact ⟨fun hk => d.slotOf_block hlt hk hp,
    fun hk => d.slotOf_block hclass hk hof,
    fun hk => d.slotOf_block hlt hk hp,
    fun hk => d.slotOf_block hclass hk hof⟩

/-- Blocks of the cox and the stamps, of any port and its classes. -/
theorem Dev.slotOf_port_blocks (d : Dev) {p c : Nat} (k : Nat) (hp : d.isPort p = true) (hc : c < 16) :
    (k < 0x40 → d.slotOf (0x2201000 + p * 0x40 + k) = .reg .coxport p k) ∧
    (k < 0x20 → d.slotOf (0x2220000 + (p * 16 + c) * 0x20 + k) = .reg .coxclass (p * 16 + c) k) ∧
    (k < 0x40 → d.slotOf (0x2410000 + p * 0x40 + k) = .reg .timport p k) := by
  have hlt := Dev.lt_of_isPort hp
  have hclass : p * 16 + c < 16512 := by omega
  have hof : d.isPort ((p * 16 + c) / 16) = true := by rwa [classOf_div hc]
  exact ⟨fun hk => d.slotOf_block hlt hk hp,
    fun hk => d.slotOf_block hclass hk hof,
    fun hk => d.slotOf_block hlt hk hp⟩

end Sys2Proof.Machine

open Sys2Proof.Machine in
/-- Settles O48: each clause is the block of the list, or of the bank region, that the offset lies in. -/
theorem registerBlocksAt : Obligations.RegisterBlocksAt := by
  intro d
  refine ⟨fun b k => d.slotOf_bank, fun e k he hlo hk => ?_, fun n k => d.slotOf_lane,
    fun p k hp hk => ⟨d.slotOf_pcs hp hk, d.slotOf_mac hp hk⟩, fun p k hlo hp hk => ?_, fun n k => d.slotOf_launch,
    fun p c k => d.slotOf_lanePort_blocks k, fun p c k => d.slotOf_port_blocks k, fun n k => ?_, fun n k => ?_⟩
  · rw [d.slotOf_eight he (by omega), d.eightSlot_common e hlo hk]
  · have hport : 1024 + (p - 1024) = p := by omega
    rw [d.slotOf_recirc_mac (show p - 1024 < 8 by omega) hk, hport]
  · exact ⟨fun hn hk => d.slotOf_block hn hk rfl,
      fun hn hk => d.slotOf_block hn hk rfl,
      fun hn hk => d.slotOf_block hn hk rfl,
      fun hn hk => d.slotOf_block hn hk rfl,
      fun hn hk => d.slotOf_block hn hk rfl,
      fun hn => d.slotOf_fn hn, fun hn => d.slotOf_fn_rings hn,
      fun hn hk => ⟨d.slotOf_block hn hk rfl, d.slotOf_ringRx hn hk⟩⟩
  · exact ⟨fun hn hk => d.slotOf_block hn hk rfl,
      fun hn hk => d.slotOf_block hn hk rfl,
      fun hn hk => d.slotOf_block hn hk rfl,
      fun hn hk => d.slotOf_block hn hk rfl,
      fun hn hk => d.slotOf_block hn hk rfl,
      fun hn hk => d.slotOf_block hn hk rfl⟩
end

section
/-!
SUPPORT. What a Kiland command that passes its checks answers, by the kind of its effect; the opcodes, the session commands.
-/
namespace Sys2Proof.Machine
open F

section
variable {s s1 : State} {k : KSpec} {p : Pkt} {t : Ticket}

/-- A passed command whose effect is a device and a reply. -/
theorem State.Passes.next_done {d : Dev} {body : List Nat} (h : s.Passes k p s1 t)
    (hr : k.run s1.cx p s1.dev = .ok (done d body)) (ha : s1.admits k d) : s.kiland k p = .next (s1.answered d t body) := by
  rw [State.kiland_next h hr ha, State.commit_done t d body h.real]

/-- A passed command that edits configuration fields. -/
theorem State.Passes.next_edit {l : List Edit} {g : Dev → Dev} (h : s.Passes k p s1 t)
    (hr : k.run s1.cx p s1.dev = .ok (doneEdit s1.dev l g)) (ha : s1.admits k (g (s1.dev.edit l))) :
    s.kiland k p = .next (s1.answered (g (s1.dev.edit l)) t []) := by
  rw [State.kiland_next h hr ha, State.commit_edit t s1.dev l g h.real]

/-- A passed command that only edits configuration fields. -/
theorem State.Passes.next_fields {l : List Edit} (h : s.Passes k p s1 t)
    (hr : k.run s1.cx p s1.dev = .ok (doneEdit s1.dev l)) (ha : s1.admits k (s1.dev.edit l)) :
    s.kiland k p = .next (s1.answered (s1.dev.edit l) t []) := h.next_edit (g := id) hr ha

/-- A passed command that leaves flash and the complex state alone, releases no other command and replies at once. -/
theorem State.Passes.next_ok {x : Done} (h : s.Passes k p s1 t) (hr : k.run s1.cx p s1.dev = .ok x) (ha : s1.admits k x.dev)
    (hflash : x.flash = []) (hctl : x.ctl = .keep) (hwait : x.wait = none) (hrel : x.release = []) :
      s.kiland k p = .next (s1.answered x.dev t x.body) := by
  rw [State.kiland_next h hr ha]
  simp [State.commit, h.real, hflash, hctl, hwait, hrel, State.answered, State.replied, CtlOp.apply, flashDo]

/-- A passed command that acts on heat lists. -/
theorem State.Passes.next_lists {d : Dev} {body l : List Nat} (h : s.Passes k p s1 t)
    (hr : k.run s1.cx p s1.dev = .ok { done d body with lists := l }) (ha : s1.admits k d) :
    s.kiland k p = .next (s1.answered d t body) :=
  h.next_ok (x := { done d body with lists := l }) hr ha rfl rfl rfl rfl

/-- A passed command whose reply waits. -/
theorem State.Passes.next_wait {d : Dev} {w : Wait} (h : s.Passes k p s1 t)
    (hr : k.run s1.cx p s1.dev = .ok (doneWait d w)) (ha : s1.admits k d) : s.kiland k p = .next (s1.waiting d t w) := by
  rw [State.kiland_next h hr ha, State.commit_wait t d w h.real]

/-- A passed query without CLEAR answers the words of its registers. -/
theorem State.Passes.next_read {l : List (Place × Nat × Nat)} (h : s.Passes k p s1 t) (hc : p.clear = false)
    (hr : k.run s1.cx p s1.dev = .ok (doneRead s1.cx p s1.dev l)) (ha : k.admits = 0) :
    s.kiland k p = .next (s1.answered s1.dev t (l.map fun r => s1.dev.viewWord s1.ctl (flds r.1 r.2.1) r.2.2)) := by
  refine h.next_done ?_ (s1.admits_zero ha _)
  rw [hr, doneRead, hc, Dev.readRegs_noclear]
  rfl
end

end Sys2Proof.Machine

open Sys2Proof Sys2Proof.Machine Sys2Proof.Machine.F in
/-- Settles O1: the opcodes are numbers written in the commands' rows. -/
theorem kilandOpcodes : Obligations.KilandOpcodes := by
  unfold Obligations.KilandOpcodes
  decide

open Sys2Proof Sys2Proof.Machine Sys2Proof.Machine.F in
/-- Settles O2: each command's meaning is computed under its premises, and its checks passed give the rest. -/
theorem sessionCommandsRun : Obligations.SessionCommandsRun := by
  intro s p s1 t
  refine ⟨fun h => ⟨_, _, _, _, h.next_done rfl (s1.admits_zero rfl _), ?_, ?_, rfl, ?_⟩, fun h hc =>
    h.next_read (l := [(.glob, 0x3200000, 0)]) hc rfl rfl,
    fun h hr => h.next_done ?_ (s1.admits_zero rfl _), fun h hp => h.next_wait ?_ (s1.admits_zero rfl _),
    fun h hp => h.next_wait ?_ (s1.admits_zero rfl _), fun h hp => h.next_wait ?_ (s1.admits_zero rfl _)⟩
  · omega
  · simp only [bitsOf, Nat.shiftRight_eq_div_pow]
    omega
  · omega
  · simp [kCpxReset, kspec, hr]
  · simp [kBankReset, kspec, resetRun, hp.not_ge]
  · simp [kEightReset, kspec, resetRun, hp.not_ge]
  · simp [kPortReset, kspec, resetRun, hp, (Dev.lt_of_isPort hp).not_ge]
end

section
/-! SUPPORT. The commands of lanes and ports. -/

open Sys2Proof Sys2Proof.Machine Sys2Proof.Machine.F in
/-- Settles O4: a launch command names a port of the layout, an equalisation command a lane of one. -/
theorem laneCommandsRun : Obligations.LaneCommandsRun := by
  intro s p s1 t
  refine ⟨fun h hp hm => h.next_done ?_ (s1.admits_zero rfl _), fun h hp => h.next_done ?_ (s1.admits_zero rfl _),
    fun h hp hm hst hlive heasy hwake hent hbit => h.next_wait ?_ (s1.admits_zero rfl _),
    fun h hp hent heasy => h.next_done ?_ (s1.admits_zero rfl _), fun h hp hent => ?_,
    fun h hp hst hok htaps => h.next_fields ?_ (s1.admits_zero rfl _),
    fun h hlt hp hok hok' htaps => h.next_edit (g := fun e =>
      (e.eqLive p.target).tapsFollow s1.dev p.target) ?_ (s1.admits_zero rfl _),
    fun h hlt hp hst => h.next_fields ?_ (s1.admits_zero rfl _),
    fun h hlane hp hm hok hok' => h.next_edit (g := fun e => e.testFollow s1.dev p.target) ?_ (s1.admits_zero rfl _),
      fun h hp => h.next_done ?_ (s1.admits_zero rfl _)⟩
  · simp [kLaneLaunch, kspec, launchRun, hp, hm]
  · simp [kLaneStop, kspec, launchRun, hp]
  · simp [kLaneEasy, kspec, launchRun, hp, hm, hst, stActive, hlive, Dev.on, heasy, hwake, hent, hbit]
  · simp [kLaneWake, kspec, launchRun, hp, hent, Dev.on, heasy]
  · have hr : kLaneWake.run s1.cx p s1.dev =
        .ok { done (s1.dev.easyCancel p.target) with release := [.easy p.target] } := by
      simp [kLaneWake, kspec, launchRun, hp, hent, Dev.easyCancel]
    rw [show exec (.laneWake p) s = s.kiland kLaneWake p from rfl, State.kiland_next h hr (s1.admits_zero rfl _)]
    simp [State.commit, h.real, done, State.replied, State.released, CtlOp.apply, flashDo]
  · rcases hst with hst | hst <;> simp [kLaneLaunchCfg, kspec, launchRun, hp, hok, htaps.not_gt, hst, stOff, stStalled]
  · simp [kLaneEqSet, kspec, laneRun, hlt, hp, hok, hok', htaps.not_gt]
  · simp [kLanePolarity, kspec, laneRun, hlt, hp, hst, stOff]
  · simp [kLanePattern, kspec, laneRun, Dev.lt_of_isLanePort hlane, hp, hlane, hm, hok, hok']
  · simp [kLaneRosterGet, kspec, launchRun, hp]
    rfl

namespace Sys2Proof.Machine
open F

/-- The lanes of ports that fit their eight are lanes of it. -/
theorem layoutLanes_eight {l : List (Nat × Nat)} {e n : Nat} (hfit : ∀ x ∈ l, x.1 + 2 ^ x.2 ≤ 8)
    (hn : n ∈ l.flatMap fun x => (List.range (2 ^ x.2)).map (e * 8 + x.1 + ·)) : n / 8 = e := by
  simp only [List.mem_flatMap, List.mem_map, List.mem_range] at hn
  obtain ⟨x, hx, j, hj, rfl⟩ := hn
  have := hfit x hx
  omega

/-- PORT_LAYOUT commits where every lane of the eight is OFF and no partner queue holds a frame (R17, R176). -/
theorem kPortLayout_run {c : Cx} {p : Pkt} {d : Dev} {new : List (Nat × Nat)} (hlt : p.target < 128)
    (hnew : layoutPorts (p.word 0) 8 0 = some new) (hold : ∀ o ∈ d.layoutNow p.target, o.1 + 2 ^ o.2 ≤ 8)
    (hoff : ∀ n, n / 8 = p.target → d.laneState n = 0) (hempty : ∀ q, d.ptnDepth q = 0) :
    kPortLayout.run c p d = .ok (doneEdit d ((List.range 8).flatMap fun i =>
      [(LN_EIGHT_PORTMAP.WIDTH i, p.target, bitsOf (p.word 0) (4 * i) 2),
        (LN_EIGHT_PORTMAP.FIRST i, p.target, bitsOf (p.word 0) (4 * i + 3) 1)])
      fun e => e.layoutAfter p.target (p.word 0) (d.layoutNow p.target) new) := by
  have hfit : ∀ x ∈ ((d.layoutNow p.target).filter fun o => !new.contains o) ++
      new.filter fun n => !(d.layoutNow p.target).contains n, x.1 + 2 ^ x.2 ≤ 8 := by
    intro x hx
    rcases List.mem_append.mp hx with hx | hx
    · exact hold x (List.mem_filter.mp hx).1
    · exact layoutPorts_fit _ _ _ _ hnew x (List.mem_filter.mp hx).1
  have hlanes : ((((d.layoutNow p.target).filter fun o => !new.contains o) ++
      new.filter fun n => !(d.layoutNow p.target).contains n).flatMap fun x =>
        (List.range (2 ^ x.2)).map (p.target * 8 + x.1 + ·)).find? (fun n => d.laneState n != stOff) = none :=
    List.find?_eq_none.mpr fun n hn => by simp [hoff n (layoutLanes_eight hfit hn), stOff]
  have hlost : ∀ l : List Nat, l.find? (fun q => d.ptnDepth q != 0) = none := fun l =>
    List.find?_eq_none.mpr fun q _ => by simp [hempty]
  simp only [kPortLayout, kspec, hlt, hnew, if_true, hlanes, hlost, ite_self]

end Sys2Proof.Machine

open Sys2Proof Sys2Proof.Machine Sys2Proof.Machine.F in
/-- Settles O5: PORT_LAYOUT by what its run tests of lanes and queues, the others by their target. -/
theorem portCommandsRun : Obligations.PortCommandsRun := by
  intro s p s1 t
  refine ⟨fun new d h hlt hnew hold hoff hempty hd ha => hd ▸ h.next_edit (g := fun d => d.layoutAfter p.target (p.word 0)
      (s1.dev.layoutNow p.target) new) ?_ (hd ▸ ha),
    fun d h hp hok hpause hd ha => hd ▸ h.next_edit (g := fun e => (e.pauseModes s1.dev p.target).derivePort p.target) ?_ (hd ▸ ha),
    fun h hp => h.next_fields ?_ (s1.admits_zero rfl _), fun h hp hv => h.next_fields ?_ (s1.admits_zero rfl _),
    fun h hp hv => h.next_fields ?_ (s1.admits_zero rfl _), fun h hp hc => ?_⟩
  · exact kPortLayout_run hlt hnew hold hoff hempty
  · have hmodes : (decide (p.target < 1024) && MAC_PORT_CFG.PAUSE_EN.of (p.word 0) == 1 &&
        MAC_PORT_CFG.PFC_EN.of (p.word 0) == 1) = false := by
      by_cases hlane : p.target < 1024
      · rcases hpause hlane with hz | hz <;> simp [hz]
      · simp [hlane]
    simp only [kPortMacCfg, kspec, portRun, hp, hok, hmodes]
    rfl
  · simp [kPortSaSet, kspec, portRun, hp]
  · simp [kPortDeal, kspec, hv, hp.ne, hp.not_gt]
  · simp [kPortDeal, kspec, hv, hp]
  · rw [show exec (.portCountersGet p) s = s.kiland kPortCountersGet p from rfl,
      h.next_read (l := (.mac, 0x10, p.target) :: (offsIn .mac 0x100 0x2B8).map fun o => (.mac, o, p.target)) hc ?_ rfl]
    · simp only [List.map_cons, List.map_map, Function.comp_def]
    · simp [kPortCountersGet, kspec, portRun, hp]
end

section

open Sys2Proof Sys2Proof.Machine Sys2Proof.Machine.F in
/-- Settles O6: a galley command edits its port or class, and what derives from it follows. -/
theorem galleyCommandsRun : Obligations.GalleyCommandsRun := by
  intro s p s1 t
  refine ⟨fun d h hp hok hd ha => hd ▸ h.next_edit (g := fun e => e.derivePort p.target) ?_ (hd ▸ ha),
    fun pc d h hp hk hpc hok hok' hocc hd ha =>
      hd ▸ h.next_edit (g := fun e => (e.derivePort p.target).galleyTotals) ?_ (hd ▸ ha),
    fun d h hp hd ha => hd ▸ h.next_edit (g := fun e => (e.fcRemap p.target).derivePort p.target) ?_ (hd ▸ ha),
    fun x h hp hw hx => h.next_done ?_ (s1.admits_zero rfl _), fun h hc => ?_,
    fun h hok hok' => h.next_fields ?_ (s1.admits_zero rfl _),
    fun h hp hk hst => ?_, fun h hp hk hst => h.next_done ?_ (s1.admits_zero rfl _),
    fun h hp hc => ?_⟩
  · simp [kGalPortCfg, kspec, launchRun, hp, hok]
  · subst hpc
    simp [kGalClassCfg, kspec, launchRun, hp, hk.not_ge, hok, hok', hocc]
  · simp [kGalMap, kspec, launchRun, hp]
  · simp [kGalHeadroom, kspec, launchRun, hp, hw, hx, bitAt, Dev.headroom]
  · rw [show exec (.galStatusGet p) s = s.kiland kGalStatusGet p from rfl, h.next_read
      (l := [(.glob, 0x2000008, 0), (.glob, 0x2000018, 0)] ++ (List.range 64).map fun i => (.galch, 0, i)) hc rfl rfl]
    simp [Function.comp_def]
  · simp [kGalScrubCfg, kspec, hok, hok']
  · rw [← Dev.each_nil (s1.dev.galFlush _) Dev.galFlush, ← Dev.each_cons]
    refine h.next_done ?_ (s1.admits_zero rfl _)
    rcases hst with hst | hst <;>
      simp [kGalFlush, kspec, launchRun, hp, hk.le.not_gt, hk.ne, hst, stActive, -Dev.each_cons]
  · rcases hst with hst | hst <;> simp [kGalFlush, kspec, launchRun, hp, hk, hst, stActive]
  · refine ⟨_, h.next_read hc (l := (offsIn .galport 0x20 0xF8).map (fun o => (.galport, o, p.target)) ++
      (classesOf p.target).flatMap fun pc => [(.galclass, 0x28, pc), (.galclass, 0x38, pc)]) ?_ rfl, ?_⟩
    · simp [kGalCountersGet, kspec, launchRun, hp]
    · simp [Function.comp_def]

open Sys2Proof Sys2Proof.Machine Sys2Proof.Machine.F in
/-- Settles O7: a cox command edits its port, class or partner; buckets are held to their new bounds. -/
theorem coxCommandsRun : Obligations.CoxCommandsRun := by
  intro s p s1 t
  refine ⟨fun n d h hp hok hn hd ha => ?_, fun pc n d h hp hk hpc hok hok' hn hd ha => ?_,
    fun d h hlt hok hok' hok2 hen hempty hd ha =>
      hd ▸ h.next_edit (g := fun x => x.ptnAfter p.target (s1.dev.ptnKey p.target)
      (s1.dev.get PTN_CFG.POLICE_EN p.target)) ?_ (hd ▸ ha),
    fun x y d h hlt hok hok' hok2 hle hx hy hd ha => ?_, fun h hok hen => h.next_fields ?_ (s1.admits_zero rfl _),
    fun h hw hp hc => h.next_done ?_ (s1.admits_zero rfl _), fun h hw hp hc => h.next_done ?_ (s1.admits_zero rfl _),
    fun h hp => h.next_done ?_ (s1.admits_zero rfl _)⟩
  · subst hn hd
    refine h.next_edit (g := fun e => ((e.bucketClip (bkPort p.target) (e.get COX_PORT_SHAPER.BURST p.target)).coxDerive
      p.target).coxRefresh p.target) ?_ ha
    simp [kCoxPortShape, kspec, portRun, hp, hok]
  · subst hpc hn hd
    refine h.next_edit (g := fun e => (e.bucketClip (bkClass (p.target * 16 + p.word 0))
      (e.get COX_CLASS_SHAPER.BURST (p.target * 16 + p.word 0))).derivePort p.target) ?_ ha
    simp [kCoxClassCfg, kspec, portRun, hp, hk.not_ge, hok, hok']
  · by_cases he : PTN_CFG.ENABLE.of (p.word 0) = 1
    · obtain ⟨hlane, hdup, hfull⟩ := hen he
      simp [kPtnSet, kspec, ptnRun, hlt, hok, hok', hok2, he, hlane, hdup, hfull, hempty]
    · simp [kPtnSet, kspec, ptnRun, hlt, hok, hok', hok2, he, hempty]
  · subst hx hy hd
    refine h.next_edit (g := fun x =>
        let x := ((x.bucketClip (bkTc p.target) (x.get PTN_POL_BURST.CBS p.target)).bucketClip (bkTp p.target)
          (x.get PTN_POL_BURST.PBS p.target)).policerFill p.target
          (s1.dev.get PTN_CFG.POLICE_EN p.target)
        if x.isPort (x.get PTN_CFG.PORT p.target) then x.coxDerive (x.get PTN_CFG.PORT p.target) else x) ?_ ha
    simp only [kPtnPolice, kspec, ptnRun, hlt, hok, hok', hok2, hle.not_gt]
    rfl
  · by_cases he : COX_TELEM_CFG.EN.of (p.word 0) = 1
    · simp [kCoxTelem, kspec, hok, he, Dev.fnOff, Dev.on, hen he]
    · simp [kCoxTelem, kspec, hok, he]
  · simp [kCoxCountersGet, kspec, hw, hp, hc, Function.comp_def]
    rfl
  · simp [kCoxCountersGet, kspec, hw, hp, hc, Function.comp_def]
    rfl
  · simp [kCoxGuarQuery, kspec, portRun, hp]
    rfl
end

section
/-! SUPPORT. The commands of time and gates whose effect is a device that is not an edit of fields. -/
namespace Sys2Proof.Machine
open F

theorem Fld.of_lt (F : Fld) (w : Nat) : F.of w < 2 ^ F.w := Nat.mod_lt _ (Nat.two_pow_pos _)

/-- A field read after its own write of a value taken from a register image. -/
theorem Dev.get_put_of (d : Dev) (F : Fld) (i w : Nat) : (d.put F i (F.of w)).get F i = F.of w := by
  rw [Dev.get_put, Nat.mod_eq_of_lt (Fld.of_lt F w)]

/-- TIM_STEP with its nanoseconds below a second (R192). -/
theorem kTimStep_run {c : Cx} {p : Pkt} {d : Dev} (hns : TIM_STEP_NS.NANOSECONDS.of (p.word 1) ≤ 999999999) :
    ∃ e, kTimStep.run c p d = .ok (done e) ∧ e.get TIM_STEP_CTL.BUSY 0 = 1 ∧
      e.tim.step = some (TIM_STEP_SEC.SECONDS.of (p.word 0), TIM_STEP_NS.NANOSECONDS.of (p.word 1),
        TIM_STEP_NS.FRAC_NS.of (p.word 1), TIM_STEP_CTL.MODE.of (p.word 2) == 1, TIM_STEP_CTL.NEG.of (p.word 2) == 1) := by
  refine ⟨_, by simp only [kTimStep, kspec, if_neg hns.not_gt]; rfl, ?_, ?_⟩
  all_goals
    simp (disch := decide) only [Dev.stepGo, Dev.puts_cons, Dev.puts_nil, Dev.get_put_id, Dev.get_put_of, Dev.on, if_neg hns.not_gt]
  · exact Dev.get_put _ _ _ _

theorem kTimSlew_run {c : Cx} {p : Pkt} {d : Dev} (hlo : 1 ≤ TIM_SLEW.RATE_PPM.of (p.word 0))
    (hhi : TIM_SLEW.RATE_PPM.of (p.word 0) ≤ 500) :
    ∃ e, kTimSlew.run c p d = .ok (done e) ∧ e.get TIM_SLEW.RATE_PPM 0 = TIM_SLEW.RATE_PPM.of (p.word 0) ∧
      e.tim.slew = signedOf (TIM_SLEW.OFFSET.of (p.word 0)) 48 * 2 ^ 34 := by
  have hr : ¬(TIM_SLEW.RATE_PPM.of (p.word 0) = 0 ∨ 500 < TIM_SLEW.RATE_PPM.of (p.word 0)) := by omega
  refine ⟨_, by simp only [kTimSlew, kspec, if_neg hr]; rfl, ?_, ?_⟩
  · rw [Dev.slewGo]
    exact (Dev.get_put_id _ _ _ _ (by decide)).trans (Dev.get_put_of _ _ _ _)
  · simp (disch := decide) only [Dev.slewGo, Dev.puts_cons, Dev.puts_nil, Dev.get_put_id, Dev.get_put_of]

/-- A query of a port's counters: of a recirculation port, the gate blocks it has not read 0 (R219). -/
theorem kGateCountersGet_recirc {c : Cx} {p : Pkt} {d : Dev} (hlo : 1024 ≤ p.target) (hhi : p.target < 1032)
    (hc : p.clear = false) :
    kGateCountersGet.run c p d = .ok (done d
      (([0x10, 0x18, 0x20].map fun o => d.viewWord c.ctl (flds .timport o) p.target) ++ List.replicate 21 0 ++
        [d.viewWord c.ctl (flds .timport 8) p.target] ++ List.replicate 16 0)) := by
  have hport : d.isPort p.target = true := by simp [Dev.isPort, Dev.portWidth, hlo.not_gt, hhi]
  simp only [kGateCountersGet, kspec, portRun, hport, if_true, if_neg hlo.not_gt, doneRead, hc, Dev.readRegs_noclear]
  simp [done]

/-- A query of a lane port's counters starts with those of its stamps and of its gates. -/
theorem kGateCountersGet_lane {c : Cx} {p : Pkt} {d : Dev} (hp : d.isLanePort p.target = true) (hc : p.clear = false) :
    ∃ rest, kGateCountersGet.run c p d = .ok (done d
      (([0x10, 0x18, 0x20].map fun o => d.viewWord c.ctl (flds .timport o) p.target) ++
        ([0x58, 0x60, 0x68, 0x70].map fun o => d.viewWord c.ctl (flds .gateport o) p.target) ++ rest)) ∧ rest.length = 34 := by
  have hport : d.isPort p.target = true := by simp [Dev.isLanePort] at hp; exact hp.2
  refine ⟨(((classesOf p.target).map fun pc => (Place.gateclass, 0x18, pc)) ++
    [(Place.gateport, 8, p.target), (Place.timport, 8, p.target)] ++
    (classesOf p.target).map fun pc => (Place.gateclass, 0x10, pc)).map fun r : Place × Nat × Nat =>
      d.viewWord c.ctl (flds r.1 r.2.1) r.2.2, ?_,
    by simp [classesOf]⟩
  simp only [kGateCountersGet, kspec, portRun, hport, if_true, Dev.lt_of_isLanePort hp, doneRead, hc, Dev.readRegs_noclear,
    List.append_assoc, List.map_append]
  rfl

end Sys2Proof.Machine

open Sys2Proof Sys2Proof.Machine Sys2Proof.Machine.F in
/-- Settles O8: the tests of each command are those of its premises; the lists answer by their port's staging slot. -/
theorem timeAndGateCommandsRun : Obligations.TimeAndGateCommandsRun := by
  intro s p s1 t
  refine ⟨fun h hns => ?_, fun v h hv hclip => h.next_done ?_ (s1.admits_zero rfl _), fun r h hr hlo hhi => ?_,
    fun h hc => ⟨[s1.dev.viewWord s1.ctl (flds .glob 0x2400008) 0, s1.dev.viewWord s1.ctl (flds .glob 0x2400050) 0],
      h.next_done ?_ (s1.admits_zero rfl _), rfl⟩, fun h hlt => h.next_fields ?_ (s1.admits_zero rfl _),
    fun h hp hen => h.next_fields ?_ (s1.admits_zero rfl _), fun pc n d h hp hk hpc hok hsched hn hd ha => ?_,
    fun d h hp hd ha => hd ▸ h.next_edit (g := fun e => e.derivePort p.target) ?_ (hd ▸ ha),
    fun n h hp hw hlo hhi hlen hes him hst => h.next_done ?_ (s1.admits_zero rfl _),
    fun off h hp hw hlo hhi hroom hes hpend => h.next_done ?_ (s1.admits_zero rfl _),
    fun cycle ns d h hp hcy hns hlo hhi hn hsum him hd ha => ?_, fun d h hp hst him hd ha => ?_,
    fun h hp hc => ?_, fun h hlo hhi hc => h.next_done (kGateCountersGet_recirc hlo hhi hc) (s1.admits_zero rfl _),
    fun h hen => h.next_fields ?_ (s1.admits_zero rfl _), fun h hen hl => h.next_fields ?_ (s1.admits_zero rfl _)⟩
  · obtain ⟨d, hr, hbusy, hstep⟩ := kTimStep_run (c := s1.cx) (d := s1.dev) hns
    exact ⟨d, h.next_done hr (s1.admits_zero rfl _), hbusy, hstep⟩
  · subst hv
    simp [kTimFreq, kspec, hclip]
  · subst hr
    obtain ⟨d, hr, hrate, hslew⟩ := kTimSlew_run (c := s1.cx) (d := s1.dev) hlo hhi
    exact ⟨d, h.next_done hr (s1.admits_zero rfl _), hrate, hslew⟩
  · simp only [kTimGet, kspec, doneRead, hc, Dev.readRegs_noclear]
    rfl
  · simp [kTimLaneLat, kspec, hlt]
  · by_cases he : TIM_PORT_CFG.STAMP_EN.of (p.word 0) = 1
    · simp [kTimPortCfg, kspec, portRun, hp, he, Dev.fnOff, Dev.on, hen he]
    · simp [kTimPortCfg, kspec, portRun, hp, he]
  · subst hpc hn hd
    refine h.next_edit (g := fun e => (if e.get GATE_CLASS_CFG.SCHED (p.target * 16 + p.word 0) = 1 ∧
      s1.dev.get GATE_CLASS_CFG.SCHED (p.target * 16 + p.word 0) ≠ 1 then e.put X.GATE_FRESH p.target 0 else e).derivePort
        p.target) ?_ ha
    have hallowed : ¬(GATE_CLASS_CFG.SCHED.of (p.word 1) = 1 ∧ (!s1.dev.on GATE_CLASS_CFG.SCHED (p.target * 16 + p.word 0)) = true ∧
        s1.dev.get GATE_PORT_STATUS.STATE p.target = gsNone ∧ (!s1.dev.on GATE_PORT_STATUS.PENDING p.target) = true) := by
      rintro ⟨he, hnot, hnone, hpend⟩
      rcases hsched he with h1 | h1 | h1 <;> simp_all [Dev.on]
    simp only [kGateClassCfg, kspec, launchRun, hp, if_true, if_neg hallowed, hok, hk.not_ge]
    simp [Dev.on]
  · simp [kGatePortCfg, kspec, launchRun, hp]
  · have hoff : p.word 0 % 2 ^ 16 = 0 := by omega
    have hn : p.word 0 / 2 ^ 16 = n := by omega
    have hlong : (p.words.drop 1).any (fun e => decide (bitsOf e 32 32 < 10)) = false :=
      List.any_eq_false.mpr fun e he => by simpa using hes e he
    have hroom : ¬n = 0 ∧ p.words.length ≤ n + 1 := ⟨by omega, hlen⟩
    simp only [kGateListLoad, launchRun, hp, hoff, hn, hlong, if_true]
    by_cases hpend : s1.dev.stagingPends p.target = true
    · simpa [hpend, him hpend, hst.not_gt, hhi.not_gt] using hroom
    · simpa [hpend, hst.not_gt, hhi.not_gt] using hroom
  · have hoff : p.word 0 % 2 ^ 16 = off := by omega
    have hn : p.word 0 / 2 ^ 16 = 0 := by omega
    have hne : off ≠ 0 := by omega
    have hlong : (p.words.drop 1).any (fun e => decide (bitsOf e 32 32 < 10)) = false :=
      List.any_eq_false.mpr fun e he => by simpa using hes e he
    simp only [kGateListLoad, launchRun, hp, hoff, hn, hlong, if_true, if_neg hne, hhi.not_gt, hroom.not_gt, hpend]
    simp [hne]
  · subst hcy hns hd
    refine h.next_lists (l := [p.target]) ?_ ha
    simp only [kGateListCommit, kspec, launchRun, hp, if_true, hlo.not_gt, hhi.not_gt, hn.not_gt, or_self, if_false, him, hsum,
      ne_eq, not_true]
  · subst hd
    refine h.next_lists (l := [p.target]) ?_ ha
    simp only [kGateStop, kspec, launchRun, hp, if_true, hst, him, ne_eq, not_true, if_false]
  · obtain ⟨rest, hr, hlen⟩ := kGateCountersGet_lane (c := s1.cx) hp hc
    exact ⟨rest, h.next_done hr (s1.admits_zero rfl _), hlen⟩
  · simp [kTimEnable, kspec, hen]
  · have hnone : s1.dev.listPort = none := List.find?_eq_none.mpr fun q _ => by simp [hl]
    simp [kTimEnable, kspec, hen, hnone]
end

section
/-!
SUPPORT. What an operation leaves alone beyond register fields: `d.sansFields` forgets the fields of a device, and an
operation that writes fields only leaves it as it was. `d.sansDesk`, `d.sansReply` and `d.sansEvents` forget what a fault, a
reply and a command of the event controller may change besides.
-/
namespace Sys2Proof.Machine
open F

/-- A device without its fields. -/
def Dev.sansFields (d : Dev) : Dev := { d with f := [] }

@[simp] theorem Dev.put_sansFields (d : Dev) (F : Fld) (i v : Nat) : (d.put F i v).sansFields = d.sansFields := rfl
@[simp] theorem Dev.inc_sansFields (d : Dev) (F : Fld) (i : Nat) : (d.inc F i).sansFields = d.sansFields := rfl
@[simp] theorem Dev.wrap_sansFields (d : Dev) (F : Fld) (i n : Nat) : (d.wrap F i n).sansFields = d.sansFields := rfl
@[simp] theorem Dev.clr_sansFields (d : Dev) (F : Fld) (i : Nat) : (d.clr F i).sansFields = d.sansFields := rfl

@[simp] theorem Dev.puts_sansFields (d : Dev) (i : Nat) (l : List (Fld × Nat)) : (d.puts i l).sansFields = d.sansFields := by
  induction l generalizing d with
  | nil => rfl
  | cons p l ih => rw [Dev.puts_cons, ih, Dev.put_sansFields]

@[simp] theorem Dev.clrs_sansFields (d : Dev) (i : Nat) (l : List Fld) : (d.clrs i l).sansFields = d.sansFields := by
  induction l generalizing d with
  | nil => rfl
  | cons F l ih => rw [Dev.clrs_cons, ih, Dev.clr_sansFields]

@[simp] theorem Dev.vecGather_sansFields (d : Dev) (v : Nat) : (d.vecGather v).sansFields = d.sansFields := by
  unfold Dev.vecGather; split <;> simp only [Dev.puts_sansFields]

@[simp] theorem Dev.vecStart_sansFields (d : Dev) (v : Nat) : (d.vecStart v).sansFields = d.sansFields :=
  d.puts_sansFields v _

@[simp] theorem Dev.vecEvent_sansFields (d : Dev) (v : Nat) : (d.vecEvent v).sansFields = d.sansFields := by
  unfold Dev.vecEvent
  dsimp only
  split <;> simp only [Dev.vecGather_sansFields, Dev.vecStart_sansFields, Dev.put_sansFields, Dev.inc_sansFields]

@[simp] theorem Dev.fire_sansFields (d : Dev) (s x : Nat) (sw : Bool) : (d.fire s x sw).sansFields = d.sansFields := by
  unfold Dev.fire
  dsimp only
  split <;> simp only [Dev.vecEvent_sansFields, Dev.put_sansFields, Dev.inc_sansFields, Dev.puts_sansFields]

@[simp] theorem Dev.event_sansFields (d : Dev) (s x : Nat) (sw : Bool) : (d.event s x sw).sansFields = d.sansFields := by
  unfold Dev.event
  dsimp only
  split
  · split
    · exact d.fire_sansFields s _ sw
    · split <;> simp only [Dev.fire_sansFields, Dev.put_sansFields]
  · rfl

@[simp] theorem Dev.seen_sansFields (d : Dev) (s b : Nat) : (d.seen s b).sansFields = d.sansFields := by
  unfold Dev.seen
  split
  · rfl
  · dsimp only
    split <;> simp only [Dev.event_sansFields, Dev.put_sansFields]

/-- A device without what a fault may change: fields, the desk but for its exits, and a SAFE entry held (R340 to R348). -/
def Dev.sansDesk (d : Dev) : Dev :=
  { d with f := [], desk := { d.desk with reacts := [], trigs := [], quiet := 0 }, cmp := { d.cmp with safeHeld := false } }

/-- What leaves all but the fields alone leaves alone what a fault does. -/
theorem Dev.sansDesk_of_fields {d e : Dev} (h : e.sansFields = d.sansFields) : e.sansDesk = d.sansDesk :=
  (congrArg Dev.sansDesk h : e.sansFields.sansDesk = d.sansFields.sansDesk)

theorem Dev.askSafe_sansDesk (d : Dev) : d.askSafe.sansDesk = d.sansDesk := by
  unfold Dev.askSafe; split
  · rfl
  · split <;> rfl

theorem Dev.askLockup_sansDesk (d : Dev) (c : Nat) : (d.askLockup c).sansDesk = d.sansDesk := by
  unfold Dev.askLockup; split <;> rfl

theorem Dev.quietLoad_sansDesk (d : Dev) : d.quietLoad.sansDesk = d.sansDesk := rfl

theorem Dev.raise1_sansDesk (d : Dev) (r : Raised) (b : Bool) : (d.raise1 r b).sansDesk = d.sansDesk := by
  unfold Dev.raise1
  split
  · rfl
  · extract_lets byte first d1 d2 d3 d4 k d5 d6
    have h1 : d1.sansFields = d.sansFields := by
      simp only [d1, Dev.logFault, Dev.wrap_sansFields, Dev.puts_sansFields, Dev.inc_sansFields]
    have h2 : d2.sansFields = d.sansFields := by
      refine Eq.trans ?_ h1
      simp only [d2]
      split <;> simp only [Dev.openRecord, Dev.mergeRecord, Dev.inc_sansFields, Dev.puts_sansFields]
    have h3 : d3.sansDesk = d.sansDesk := by
      refine Dev.sansDesk_of_fields (Eq.trans ?_ h2)
      simp only [d3]
      split <;> simp only [Dev.seen_sansFields]
    have h4 : d4.sansDesk = d.sansDesk := by
      rw [← h3]; simp only [d4]; split <;> rfl
    have h5 : d5.sansDesk = d.sansDesk := by
      rw [← h4]; simp only [d5]; split <;> rfl
    have h6 : d6.sansDesk = d.sansDesk := by
      rw [← h5]; simp only [d6]; split
      · exact Dev.askLockup_sansDesk _ _
      · rfl
    split
    · exact (Dev.askSafe_sansDesk _).trans h6
    · exact h6

theorem Dev.foldl_raise1_sansDesk (l : List Raised) (b : Bool) (d : Dev) :
    (l.foldl (fun d r => d.raise1 r b) d).sansDesk = d.sansDesk := by
  induction l generalizing d with
  | nil => rfl
  | cons r l ih => exact (ih _).trans (d.raise1_sansDesk r b)

theorem Dev.faults_sansDesk (d : Dev) (l : List Raised) : (d.faults l).sansDesk = d.sansDesk :=
  Dev.foldl_raise1_sansDesk _ _ d

/-- The frame of faults, written out. -/
theorem Dev.eq_of_sansDesk {d e : Dev} (h : e.sansDesk = d.sansDesk) : e.desk.exits = d.desk.exits ∧
    e = { d with f := e.f, desk := e.desk, cmp := { d.cmp with safeHeld := e.cmp.safeHeld } } :=
  ⟨(congrArg (fun x : Dev => x.desk.exits) h : e.sansDesk.desk.exits = d.sansDesk.desk.exits),
    congrArg (fun x : Dev => { x with f := e.f, desk := e.desk, cmp := { x.cmp with safeHeld := e.cmp.safeHeld } }) h⟩

/-- A device without what a command of the event controller may change. -/
def Dev.sansEvents (d : Dev) : Dev :=
  { d with f := [], desk := ⟨[], [], [], 0⟩, out := [], free := 0, cmp := { d.cmp with safeHeld := false } }

theorem Dev.eq_of_sansEvents {d e : Dev} (h : e.sansEvents = d.sansEvents) :
    e = { d with f := e.f, desk := e.desk, out := e.out, free := e.free, cmp := { d.cmp with safeHeld := e.cmp.safeHeld } } :=
  congrArg (fun x : Dev => { x with f := e.f, desk := e.desk, out := e.out, free := e.free, cmp :=
    { x.cmp with safeHeld := e.cmp.safeHeld } }) h

/-- An operation of the event controller: it changes fields of `evcIds`, and of the rest only what a fault may change,
messages and fresh values. -/
structure Dev.Evc (d e : Dev) : Prop where
  keeps : Dev.keeps evcIds d e
  rest : e.sansEvents = d.sansEvents

namespace Dev.Evc
variable {d e g : Dev}

theorem refl (d : Dev) : Dev.Evc d d := ⟨Dev.keeps.refl _ _, rfl⟩
theorem trans (h : Dev.Evc d e) (k : Dev.Evc e g) : Dev.Evc d g := ⟨h.keeps.trans k.keeps, k.rest.trans h.rest⟩

/-- An operation that writes fields only, of a list within `evcIds`. -/
theorem fields {S : List Nat} (hs : ∀ x ∈ S, x ∈ evcIds) (hk : Dev.keeps S d e) (h : e.sansFields = d.sansFields) :
    Dev.Evc d e := ⟨hk.mono hs, (congrArg Dev.sansEvents h : e.sansFields.sansEvents = d.sansFields.sansEvents)⟩

theorem put {F : Fld} {i v : Nat} (hF : F.id ∈ evcIds) : Dev.Evc d (d.put F i v) :=
  ⟨Dev.keeps.put hF (Dev.keeps.refl _ _), rfl⟩
theorem inc {F : Fld} {i : Nat} (hF : F.id ∈ evcIds) : Dev.Evc d (d.inc F i) := put hF

theorem puts {i : Nat} {l : List (Fld × Nat)} (hl : (l.all fun p => evcIds.contains p.1.id) = true) :
    Dev.Evc d (d.puts i l) := fields (fun _ h => h) (Dev.keeps.puts hl (Dev.keeps.refl _ _)) (Dev.puts_sansFields _ _ _)

theorem emit {o : Output} : Dev.Evc d (d.emit o) := ⟨Dev.keeps.emit (Dev.keeps.refl _ _), rfl⟩

theorem ite {c : Prop} [Decidable c] (h : Dev.Evc d e) (k : Dev.Evc d g) : Dev.Evc d (if c then e else g) := by
  split <;> assumption

theorem each {l : List Nat} {g : Dev → Nat → Dev} (hg : ∀ x n, Dev.Evc x (g x n)) : Dev.Evc d (d.each l g) :=
  Dev.each_keeps (P := Dev.Evc d) (fun x n hx => hx.trans (hg x n)) l d (refl d)

theorem foldl {α : Type} {l : List α} {g : Dev → α → Dev} (hg : ∀ x a, Dev.Evc x (g x a)) : Dev.Evc d (l.foldl g d) := by
  induction l generalizing d with
  | nil => exact refl d
  | cons a l ih => exact (hg d a).trans ih

end Dev.Evc

theorem seenIds_evcIds : ∀ x ∈ seenIds, x ∈ evcIds := fun x h => List.mem_append.mpr (.inr (seen_fault x h))
theorem eventIds_evcIds : ∀ x ∈ eventIds, x ∈ evcIds := fun x h => seenIds_evcIds x (List.mem_append.mpr (.inr h))

theorem Dev.event_evc (d : Dev) (s x : Nat) (sw : Bool) : Dev.Evc d (d.event s x sw) :=
  .fields eventIds_evcIds (d.event_keeps s x sw) (d.event_sansFields s x sw)
theorem Dev.fire_evc (d : Dev) (s x : Nat) (sw : Bool) : Dev.Evc d (d.fire s x sw) :=
  .fields eventIds_evcIds (d.fire_keeps s x sw) (d.fire_sansFields s x sw)
theorem Dev.seen_evc (d : Dev) (s b : Nat) : Dev.Evc d (d.seen s b) :=
  .fields seenIds_evcIds (d.seen_keeps s b) (d.seen_sansFields s b)
theorem Dev.vecGather_evc (d : Dev) (v : Nat) : Dev.Evc d (d.vecGather v) :=
  .fields eventIds_evcIds (d.vecGather_keeps v) (d.vecGather_sansFields v)
theorem Dev.vecStart_evc (d : Dev) (v : Nat) : Dev.Evc d (d.vecStart v) :=
  .fields eventIds_evcIds (d.vecStart_keeps v) (d.vecStart_sansFields v)

theorem Dev.faults_evc (d : Dev) (l : List Raised) : Dev.Evc d (d.faults l) :=
  ⟨(d.faults_keeps l).mono fun _ h => List.mem_append.mpr (.inr h),
    (congrArg Dev.sansEvents (d.faults_sansDesk l) : (d.faults l).sansDesk.sansEvents = d.sansDesk.sansEvents)⟩

theorem Dev.srcClear_evc (d : Dev) (s : Nat) : Dev.Evc d (d.srcClear s) :=
  .fields eventIds_evcIds (Dev.keeps.clrs rfl (Dev.keeps.refl _ _)) (d.clrs_sansFields s _)

theorem Dev.latchShown_evc (d : Dev) (s : Nat) : Dev.Evc d (d.latchShown s) :=
  .ite (.put (by decide)) (.refl d)

theorem Dev.vecEnd_evc (d : Dev) (v : Nat) : Dev.Evc d (d.vecEnd v) := by
  unfold Dev.vecEnd
  dsimp only
  have hputs : Dev.Evc d (d.puts v [(EVC_VEC_STATUS.TARGET, 0), (EVC_VEC_STATUS.SOURCE, 0)]) := .puts rfl
  exact .ite ((hputs.trans (Dev.vecStart_evc _ v)).trans (Dev.vecGather_evc _ v)) (hputs.trans (.puts rfl))

theorem Dev.vecFinish_evc (d : Dev) (v : Nat) : Dev.Evc d (d.vecFinish v) :=
  Dev.Evc.trans (.ite (d.event_evc _ _ _) (.refl d)) (Dev.vecEnd_evc _ v)

theorem Dev.eoiVec_evc (d : Dev) (v : Nat) (idle : Bool) : Dev.Evc d (d.eoiVec v idle) :=
  Dev.Evc.trans (.ite (Dev.Evc.trans (.puts rfl) (.inc (by decide))) (.refl d)) (Dev.vecFinish_evc _ v)

theorem Dev.runsEnd_evc (d : Dev) : Dev.Evc d d.runsEnd :=
  .each fun x _ => .ite (.put (by decide)) (.refl x)

theorem Dev.message_evc (d : Dev) (t v : Nat) (again : Bool) : Dev.Evc d (d.message t v again) := by
  have hwrap : Dev.Evc d (d.wrap X.EVC_MSEQ t 1) := .put (by decide)
  exact (hwrap.trans (.inc (F := EVC_T_MSGS.COUNT) (i := t) (by decide))).trans .emit

theorem Dev.vecCommit_evc (d : Dev) (v t : Nat) : Dev.Evc d (d.vecCommit v t) :=
  (Dev.Evc.trans (.puts rfl) (.put (by decide))).trans (Dev.message_evc _ t v false)

theorem Dev.route1_evc (d : Dev) (v : Nat) : Dev.Evc d (d.route1 v).1 := by
  have hrun : Dev.Evc d (d.put X.EVC_NO_TGT_RUN v 0) := .put (by decide)
  unfold Dev.route1
  dsimp only
  split
  · split
    · exact d.seen_evc srcNoTarget 0
    · exact ((d.seen_evc srcNoTarget 0).trans (.put (by decide))).trans (.inc (by decide))
  · split
    · exact (hrun.trans (.put (by decide))).trans (Dev.vecCommit_evc _ _ _)
    · split
      · exact hrun.trans (Dev.vecCommit_evc _ _ _)
      · exact hrun

theorem Dev.routeList_evc (l : List Nat) (d : Dev) (n : Nat) : Dev.Evc d (d.routeList n l).1 := by
  induction l generalizing d n with
  | nil => exact .refl d
  | cons v l ih =>
    cases n with
    | zero => exact .refl d
    | succ n =>
      have h := d.route1_evc v
      simp only [Dev.routeList]
      split <;> rename_i heq <;> rw [heq] at h <;> exact h.trans (ih _ _)

theorem Dev.routeCycle_evc (d : Dev) : Dev.Evc d d.routeCycle :=
  (Dev.routeList_evc d.readyVecs d 4).trans (Dev.faults_evc _ _)

theorem Dev.eoi_evc (d : Dev) (t v : Nat) (idle : Bool) : Dev.Evc d (d.eoi t v idle) := by
  have hend := d.eoiVec_evc v idle
  unfold Dev.eoi
  dsimp only
  refine .ite (.ite ?_ hend) (.inc (by decide))
  split
  · exact .ite (hend.trans ((Dev.routeCycle_evc _).trans (Dev.message_evc _ _ _ _)))
      (hend.trans ((Dev.message_evc _ _ _ _).trans (Dev.routeCycle_evc _)))
  · exact hend.trans (Dev.routeCycle_evc _)

theorem Dev.pendSet_evc (d : Dev) (s : Nat) : Dev.Evc d (d.pendSet s) :=
  .ite (.ite (d.event_evc _ _ _) (.ite (d.fire_evc _ _ _) (d.fire_evc _ _ _))) (.inc (by decide))

theorem Dev.pendClr_evc (d : Dev) (s : Nat) : Dev.Evc d (d.pendClr s) :=
  .ite (.refl d) (.ite (d.srcClear_evc s) (.refl d))

theorem Dev.fresh_evc (d : Dev) (w : Nat) : Dev.Evc d (d.fresh w).2 := ⟨Dev.keeps.other rfl (Dev.keeps.refl _ _), rfl⟩

/-- What a claim writes once it has its vector and source. -/
theorem Dev.claim_evc (d : Dev) (t : Nat) : Dev.Evc d (d.claim t).2 := by
  unfold Dev.claim
  split
  · exact .inc (by decide)
  · rename_i v hv
    have hsrc : Dev.Evc d (match (d.keys EVC_SRC_STATUS.PENDING).find? (fun s => d.get EVC_SRC_CFG.VECTOR s == v) with
        | some s => (s, d)
        | none => d.fresh 16).2 := by
      split
      · exact .refl d
      · exact d.fresh_evc 16
    exact ((((hsrc.trans (.puts rfl)).trans (.puts rfl)).trans (Dev.srcClear_evc _ _)).trans (Dev.latchShown_evc _ _)).trans
      (.inc (by decide))

end Sys2Proof.Machine

namespace Sys2Proof.Machine
open F

/-- A command on the clocked device whose action is one of the event controller's leaves the rest of the state alone. -/
theorem State.onDev_evc {s t : State} {g : Ctl → Dev → Dev} (hg : ∀ c d, Dev.Evc d (g c d)) (h : s.onDev g = .next t) :
    Dev.Evc s.dev t.dev ∧ t = { s with dev := t.dev } := by
  rcases s.core_cases fun s => { s with dev := g s.ctl s.dev } with ⟨_, hf⟩ | ⟨_, hn⟩ | ⟨_, hn⟩
  · cases hf.symm.trans h
  · cases hn.symm.trans h
    exact ⟨.refl _, rfl⟩
  · cases hn.symm.trans h
    exact ⟨hg _ _, rfl⟩

theorem exec_evc {i : Instr} {s t : State} (hi : evcCommand i = true) (h : exec i s = .next t) :
    Dev.Evc s.dev t.dev ∧ t = { s with dev := t.dev } := by
  cases i <;> simp only [evcCommand, Bool.false_eq_true] at hi
  case evcPendSet n => exact State.onDev_evc (fun _ d => d.pendSet_evc _) h
  case evcPendClr n => exact State.onDev_evc (fun _ d => d.pendClr_evc _) h
  case evcTgtClaim n => exact State.onDev_evc (fun _ d => .ite ((d.claim_evc n).trans .emit) (.refl d)) h
  case evcTgtEoi n v b => exact State.onDev_evc (fun _ d => .ite (d.eoi_evc n _ b) (.refl d)) h
  case evcVecMask n b => exact State.onDev_evc (fun _ d => .ite (Dev.Evc.trans (.put (by decide)) (Dev.runsEnd_evc _)) (.refl d)) h
  case coalTimerExpiry n => exact State.onDev_evc (fun _ d => .ite (.puts rfl) (.refl d)) h
  case routeCommit => exact State.onDev_evc (fun _ d => d.routeCycle_evc) h

end Sys2Proof.Machine

open Sys2Proof Sys2Proof.Machine in
/-- Settles O51: each operation of the event controller is a chain of field writes, faults, messages and fresh values. -/
theorem faultAndEventFrames : Obligations.FaultAndEventFrames := by
  refine ⟨fun d l => ⟨d.faults_keeps l, Dev.eq_of_sansDesk (d.faults_sansDesk l)⟩, fun i s t hi h => ?_⟩
  obtain ⟨hevc, ht⟩ := exec_evc hi h
  refine ⟨hevc.keeps, ht.trans ?_⟩
  congr 1
  exact Dev.eq_of_sansEvents hevc.rest
end

section
/-!
SUPPORT. What a reply changes (R302 to R306): reply counters, the mailbox, and the rings of the function that it answers.
-/
namespace Sys2Proof.Machine
open F

/-- A device without what a reply may change: fields, ring records and messages. -/
def Dev.sansReply (d : Dev) : Dev := { d with f := [], rings := [], out := [] }

/-- The fields the reply of a function may change besides the counters of the compositor (R272, Table 87). -/
def fnReplyIds : List Nat := [HPE_F_REPLY_DISCARD.COUNT.id, RING_PROGRESS.NEXT.id, (RING_CNT.COUNT 0).id, (RING_CNT.COUNT 5).id,
  (RING_CNT.COUNT 7).id, RING_STATE.HW_INDEX.id] ++ eventIds

/-- An operation a reply is made of: of the fields it changes some of `S`, of the rest ring records and messages. -/
structure Dev.Replies (S : List Nat) (d e : Dev) : Prop where
  keeps : Dev.keeps S d e
  rest : e.sansReply = d.sansReply

namespace Dev.Replies
variable {S : List Nat} {d e g : Dev}

theorem refl (d : Dev) : Dev.Replies S d d := ⟨Dev.keeps.refl _ _, rfl⟩
theorem trans (h : Dev.Replies S d e) (k : Dev.Replies S e g) : Dev.Replies S d g := ⟨h.keeps.trans k.keeps, k.rest.trans h.rest⟩
theorem mono {T : List Nat} (h : Dev.Replies T d e) (hs : ∀ x ∈ T, x ∈ S) : Dev.Replies S d e := ⟨h.keeps.mono hs, h.rest⟩

theorem put {F : Fld} {i v : Nat} (hF : F.id ∈ S) : Dev.Replies S d (d.put F i v) :=
  ⟨Dev.keeps.put hF (Dev.keeps.refl _ _), rfl⟩
theorem inc {F : Fld} {i : Nat} (hF : F.id ∈ S) : Dev.Replies S d (d.inc F i) := put hF

theorem emit {o : Output} : Dev.Replies S d (d.emit o) := ⟨Dev.keeps.emit (Dev.keeps.refl _ _), rfl⟩
theorem setRing {r : Nat} {x : RingSt} : Dev.Replies S d (d.setRing r x) := ⟨Dev.keeps.setRing (Dev.keeps.refl _ _), rfl⟩

theorem ite {c : Prop} [Decidable c] (h : Dev.Replies S d e) (k : Dev.Replies S d g) : Dev.Replies S d (if c then e else g) := by
  split <;> assumption

theorem puts {i : Nat} {l : List (Fld × Nat)} (hl : (l.all fun p => S.contains p.1.id) = true) :
    Dev.Replies S d (d.puts i l) :=
  ⟨Dev.keeps.puts hl (Dev.keeps.refl _ _),
    (congrArg Dev.sansReply (d.puts_sansFields i l) : (d.puts i l).sansFields.sansReply = d.sansFields.sansReply)⟩

end Dev.Replies

theorem Dev.event_replies (d : Dev) (s x : Nat) (sw : Bool) : Dev.Replies fnReplyIds d (d.event s x sw) :=
  ⟨(d.event_keeps s x sw).mono fun _ h => List.mem_append.mpr (.inr h), (congrArg Dev.sansReply (d.event_sansFields s x sw) :
    (d.event s x sw).sansFields.sansReply = d.sansFields.sansReply)⟩

theorem Dev.announce_replies (d : Dev) (r : Nat) : Dev.Replies fnReplyIds d (d.announce r) := by
  have hcount : Dev.Replies fnReplyIds d ((d.lineWrite r).inc (RING_CNT.COUNT 7) r) :=
    Dev.Replies.trans .emit (.inc (F := RING_CNT.COUNT 7) (i := r) (by decide))
  exact .ite (hcount.trans (Dev.event_replies _ _ _ _)) hcount

theorem Dev.publish_replies (d : Dev) (r : Nat) : Dev.Replies fnReplyIds d (d.publish r) :=
  (Dev.Replies.trans (e := d.wrap RING_STATE.HW_INDEX r (d.ring r).unpub) (.put (by decide)) .setRing).trans
    (Dev.announce_replies _ r)

theorem Dev.completeOne_replies (d : Dev) (r : Nat) : Dev.Replies fnReplyIds d (d.completeOne r) := by
  unfold Dev.completeOne
  have hcount : Dev.Replies fnReplyIds d (if workRing r then d.inc (RING_CNT.COUNT 5) r else d) := .ite (.inc (by decide)) (.refl d)
  exact .ite (hcount.trans (Dev.Replies.setRing.trans (Dev.publish_replies _ r))) (hcount.trans .setRing)

theorem Dev.recWrite_replies (d : Dev) (r rec : Nat) : Dev.Replies fnReplyIds d (d.recWrite r rec) := by
  have hnext : ∀ e : Dev, Dev.Replies fnReplyIds e (e.nextUp r 1) := fun e => .put (by decide)
  have hcount : ∀ e : Dev, Dev.Replies fnReplyIds e (e.inc (RING_CNT.COUNT 0) r) := fun e => .inc (by decide)
  exact ((Dev.Replies.emit.trans (hnext _)).trans (hcount _)).trans (Dev.completeOne_replies _ r)

theorem Dev.replyFn_replies (d : Dev) (f : Nat) (t : Ticket) (b : List Nat) : Dev.Replies fnReplyIds d (d.replyFn f t b) := by
  unfold Dev.replyFn
  dsimp only
  refine .ite (.inc (by decide)) (Dev.Replies.setRing.trans (.ite (.inc (by decide)) ?_))
  exact Dev.Replies.trans (.ite (.refl _) .emit) (Dev.recWrite_replies _ _ _)

theorem fnReplyIds_replyIds : ∀ x ∈ fnReplyIds, x ∈ replyIds := by decide

theorem Dev.countReply_replies (d : Dev) (status : Nat) : Dev.Replies replyIds d (d.countReply status) := by
  have hcount : Dev.Replies replyIds d (d.inc CMP_CMDS.COUNT 0) := .inc (by decide)
  exact .ite (hcount.trans (.inc (by decide)))
    (.ite (hcount.trans (.inc (by decide))) (.ite hcount (hcount.trans (.inc (by decide)))))

/-- What one reply leaves of a state. -/
structure State.Replies (s e : State) : Prop where
  ctl : e.ctl = s.ctl
  pending : e.pending = s.pending
  mem : e.mem = { s.mem with mboxReply := e.mem.mboxReply }
  dev : Dev.Replies replyIds s.dev e.dev

theorem State.replyOne_replies (s : State) (t : Ticket) (status detail : Nat) (body : List Nat) :
    State.Replies s (s.replyOne t status detail body) := by
  obtain ⟨hctl, hpend⟩ := s.replyOne_ctl t status detail body
  by_cases h : t.issuer < 64
  · refine ⟨hctl, hpend, ?_, ?_⟩ <;> simp only [State.replyOne, if_pos h]
    exact (s.dev.countReply_replies status).trans ((Dev.replyFn_replies _ _ _ _).mono fnReplyIds_replyIds)
  · refine ⟨hctl, hpend, ?_, ?_⟩ <;> rw [s.replyOne_mbox t status detail body h]
    exact (s.dev.countReply_replies status).trans (.puts rfl)

/-- One reply leaves the compositor's waits, barrier and sessions alone. -/
theorem State.replyOne_cmp (s : State) (t : Ticket) (status detail : Nat) (body : List Nat) :
    (s.replyOne t status detail body).dev.cmp = s.dev.cmp :=
  (congrArg Dev.cmp (s.replyOne_replies t status detail body).dev.rest :
    (s.replyOne t status detail body).dev.sansReply.cmp = s.dev.sansReply.cmp)

/-- The barrier a reply may release: it replies, or nothing happens. -/
theorem State.barrierDue_cases (s : State) : s.barrierDue = s ∨
    ∃ t, s.barrierDue = ({ s with dev := { s.dev with cmp := { s.dev.cmp with barrier := none } } } : State).replyOne t 0 0 [] := by
  unfold State.barrierDue
  split
  · rename_i t ht
    split
    · exact .inr ⟨t, rfl⟩
    · exact .inl rfl
  · exact .inl rfl

/-- With no barrier standing a reply is one reply. -/
theorem State.reply_of_none {s : State} (h : s.dev.cmp.barrier = none) (t : Ticket) (status detail : Nat) (body : List Nat) :
    s.reply t status detail body = s.replyOne t status detail body := by
  rw [State.reply, State.barrierDue, State.replyOne_cmp, h]

/-- A device without what a reply and the barrier it releases may change. -/
def Dev.sansBarrier (d : Dev) : Dev := { d with f := [], rings := [], out := [], cmp := { d.cmp with barrier := none } }

theorem Dev.Replies.sansBarrier {S : List Nat} {d e : Dev} (h : Dev.Replies S d e) : e.sansBarrier = d.sansBarrier :=
  (congrArg Dev.sansBarrier h.rest : e.sansReply.sansBarrier = d.sansReply.sansBarrier)

theorem Dev.eq_of_sansBarrier {d e : Dev} (h : e.sansBarrier = d.sansBarrier) :
    e = { d with f := e.f, rings := e.rings, out := e.out, cmp := { d.cmp with barrier := e.cmp.barrier } } :=
  congrArg (fun x : Dev => { x with f := e.f, rings := e.rings, out := e.out, cmp := { x.cmp with barrier := e.cmp.barrier } }) h

/-- Counting a reply adds at least one to the commands answered. -/
theorem Dev.countReply_cmds (d : Dev) (status : Nat) :
    (d.countReply status).get CMP_CMDS.COUNT 0 = min (d.get CMP_CMDS.COUNT 0 + 1) (2 ^ CMP_CMDS.COUNT.w - 1) := by
  unfold Dev.countReply
  dsimp only
  split
  · rw [Dev.get_inc_id _ _ _ (by decide), Dev.get_inc]
  · split
    · rw [Dev.get_inc_id _ _ _ (by decide), Dev.get_inc]
    · split
      · exact Dev.get_inc _ _ _
      · rw [Dev.get_inc_id _ _ _ (by decide), Dev.get_inc]

/-- One reply counts once. -/
theorem State.replyOne_cmds (s : State) (t : Ticket) (status detail : Nat) (body : List Nat) :
    (s.replyOne t status detail body).dev.get CMP_CMDS.COUNT 0 =
      min (s.dev.get CMP_CMDS.COUNT 0 + 1) (2 ^ CMP_CMDS.COUNT.w - 1) := by
  rw [← s.dev.countReply_cmds status]
  by_cases h : t.issuer < 64
  · simp only [State.replyOne, if_pos h]
    exact (Dev.replyFn_replies _ _ _ _).keeps _ _ (by decide)
  · rw [s.replyOne_mbox t status detail body h]
    exact Dev.get_puts_id _ _ _ _ fun p hp => by
      simp only [List.mem_cons, List.not_mem_nil, or_false] at hp
      rcases hp with rfl | rfl | rfl <;> exact of_decide_eq_true rfl

theorem State.Replies.trans_barrier {s e g : State} (h : State.Replies s e)
    (k : State.Replies { e with dev := { e.dev with cmp := { e.dev.cmp with barrier := none } } } g) :
    g.ctl = s.ctl ∧ g.pending = s.pending ∧ g.mem = { s.mem with mboxReply := g.mem.mboxReply } ∧ Dev.keeps replyIds s.dev g.dev ∧
      g.dev.sansBarrier = s.dev.sansBarrier := by
  refine ⟨k.ctl.trans h.ctl, k.pending.trans h.pending, k.mem.trans ?_, h.dev.keeps.trans fun G j hG => k.dev.keeps G j hG,
    k.dev.sansBarrier.trans h.dev.sansBarrier⟩
  show { e.mem with mboxReply := g.mem.mboxReply } = _
  rw [h.mem]

/-- A reply, and the barrier it releases, change reply state only. -/
theorem State.reply_frame (s : State) (t : Ticket) (status detail : Nat) (body : List Nat) :
    (s.reply t status detail body).ctl = s.ctl ∧ (s.reply t status detail body).pending = s.pending ∧
      (s.reply t status detail body).mem = { s.mem with mboxReply := (s.reply t status detail body).mem.mboxReply } ∧
      Dev.keeps replyIds s.dev (s.reply t status detail body).dev ∧
      (s.reply t status detail body).dev.sansBarrier = s.dev.sansBarrier := by
  have h := s.replyOne_replies t status detail body
  rw [State.reply]
  rcases (s.replyOne t status detail body).barrierDue_cases with hb | ⟨u, hb⟩ <;> rw [hb]
  · exact ⟨h.ctl, h.pending, h.mem, h.dev.keeps, h.dev.sansBarrier⟩
  · exact h.trans_barrier (State.replyOne_replies _ u 0 0 [])

theorem State.reply_cmds (s : State) (t : Ticket) (status detail : Nat) (body : List Nat) :
    min (s.dev.get CMP_CMDS.COUNT 0 + 1) (2 ^ CMP_CMDS.COUNT.w - 1) ≤ (s.reply t status detail body).dev.get CMP_CMDS.COUNT 0 := by
  have h := s.replyOne_cmds t status detail body
  rw [State.reply]
  rcases (s.replyOne t status detail body).barrierDue_cases with hb | ⟨u, hb⟩ <;> rw [hb]
  · exact h.ge
  · rw [State.replyOne_cmds]
    change _ ≤ min ((s.replyOne t status detail body).dev.get CMP_CMDS.COUNT 0 + 1) _
    omega

theorem State.reply_ending (s : State) (t : Ticket) (status detail : Nat) (body : List Nat) :
    (s.reply t status detail body).dev.ending = s.dev.ending := by
  obtain ⟨_, _, _, _, hrest⟩ := s.reply_frame t status detail body
  exact (congrArg Dev.ending hrest : (s.reply t status detail body).dev.sansBarrier.ending = s.dev.sansBarrier.ending)

/-- With no complex reset and no commanded lock-up due, a reply is published in its turn. -/
theorem State.lastReply_of_going {s : State} (h : s.dev.ending = false) (t : Ticket) : s.lastReply t = s := by
  simp [State.lastReply, h]

/-- The bytes of a reply: a header of 16 and the body. -/
theorem leBytes_length (n x : Nat) : (leBytes x n).length = n := by
  induction n generalizing x with
  | zero => rfl
  | succ n ih => rw [leBytes, List.length_cons, ih]

theorem ofLeBytes_leBytes (n x : Nat) : ofLeBytes (leBytes x n) = x % 256 ^ n := by
  induction n generalizing x with
  | zero => simp [leBytes, ofLeBytes, Nat.mod_one]
  | succ n ih => rw [leBytes, ofLeBytes, ih, Nat.mod_mod, Nat.pow_succ', Nat.mod_mul]

theorem wordBytes_length (l : List Nat) : (wordBytes l).length = 8 * l.length := by
  induction l with
  | nil => rfl
  | cons w l ih => rw [wordBytes, List.flatMap_cons, List.length_append, leBytes_length, ← wordBytes, ih, List.length_cons]; omega

end Sys2Proof.Machine

open Sys2Proof Sys2Proof.Machine Sys2Proof.Machine.F in
/-- Settles O53: a reply is one reply, and that of a barrier when it is the last the barrier waits for. -/
theorem replyFrame : Obligations.ReplyFrame := by
  rintro s e t status detail body rfl
  obtain ⟨hctl, hpend, hmem, hkeeps, hrest⟩ := s.reply_frame t status detail body
  exact ⟨hctl, hpend, hmem, hkeeps, Dev.eq_of_sansBarrier hrest, s.reply_cmds t status detail body⟩

open Sys2Proof Sys2Proof.Machine Sys2Proof.Machine.F in
/-- Settles O52: a dry run is counted, then judged, and the judgement is answered with nothing committed. -/
theorem dryRunCommitsNothing : Obligations.DryRunCommitsNothing := by
  intro s s1 s2 k p t hclk htake hend hcheck hdry hs2
  have hgoing : s2.dev.ending = false := by
    rw [hs2]
    exact hend
  have hdev : s1.dev.inc CMP_DRY_RUNS.COUNT 0 = s2.dev := by rw [hs2]
  have hcount : { s1 with dev := s2.dev } = s2 := by rw [hs2]
  refine ⟨fun x hx => ?_, fun r hr => ?_⟩
  · simp [State.kiland, State.core_clocked hclk, State.execute, htake, hend, hcheck, hdry, hdev, hcount, hx, State.commit]
    exact State.lastReply_of_going ((s2.reply_ending t 0 0 x.body).trans hgoing) t
  · simp [State.kiland, State.core_clocked hclk, State.execute, htake, hend, hcheck, hdry, hdev, hcount, hr]

namespace Sys2Proof.Machine
open F

/-- The header of a reply packet without its CRC, 12 bytes. -/
def replyHead (c : Ctl) (t : Ticket) (status detail n : Nat) : List Nat :=
  leBytes (t.seq % 2 ^ 32) 4 ++ leBytes (t.opcode % 2 ^ 16) 2 ++ leBytes (status % 16 + c.state.code * 16 + c.modeCode * 256) 2 ++
    leBytes (detail % 2 ^ 16) 2 ++ leBytes (n % 2 ^ 16) 2

theorem replyBytes_eq (c : Ctl) (t : Ticket) (status detail : Nat) (body : List Nat) : replyBytes c t status detail body =
    replyHead c t status detail (wordBytes body).length ++
      leBytes (crcOf crc32c (replyHead c t status detail (wordBytes body).length ++ wordBytes body)) 4 ++ wordBytes body := rfl

theorem replyHead_length (c : Ctl) (t : Ticket) (status detail n : Nat) : (replyHead c t status detail n).length = 12 := by
  simp only [replyHead, List.length_append, leBytes_length]

theorem CpxState.code_lt (x : CpxState) : x.code < 16 := by cases x <;> decide

theorem Mode.code_lt (m : Mode) : m.code < 16 := by cases m <;> decide

theorem Ctl.modeCode_lt (c : Ctl) : c.modeCode < 16 := by
  unfold Ctl.modeCode
  split
  · decide
  · cases c.mode with
    | none => decide
    | some m => exact m.code_lt
  · decide

/-- A reply packet in its three parts. -/
theorem replyBytes_split (c : Ctl) (t : Ticket) (status detail : Nat) (body : List Nat) :
    (replyBytes c t status detail body).take 12 = replyHead c t status detail (8 * body.length) ∧
      ((replyBytes c t status detail body).drop 12).take 4 =
        leBytes (crcOf crc32c (replyHead c t status detail (8 * body.length) ++ wordBytes body)) 4 ∧
      (replyBytes c t status detail body).drop 16 = wordBytes body := by
  rw [replyBytes_eq, wordBytes_length, List.append_assoc]
  have hhead := replyHead_length c t status detail (8 * body.length)
  have hcrc := leBytes_length 4 (crcOf crc32c (replyHead c t status detail (8 * body.length) ++ wordBytes body))
  refine ⟨List.take_left' hhead, ?_, ?_⟩
  · rw [List.drop_left' hhead]
    exact List.take_left' hcrc
  · rw [← List.append_assoc]
    exact List.drop_left' (by rw [List.length_append, hhead, hcrc])

theorem replyBytes_length (c : Ctl) (t : Ticket) (status detail : Nat) (body : List Nat) :
    (replyBytes c t status detail body).length = 16 + 8 * body.length := by
  simp only [replyBytes_eq, List.length_append, replyHead_length, leBytes_length, wordBytes_length]

/-- The numbers of a header, each low byte first (Table 101). -/
theorem replyHead_fields (c : Ctl) (t : Ticket) (status detail n : Nat) :
    ofLeBytes ((replyHead c t status detail n).take 4) = t.seq % 2 ^ 32 ∧
      ofLeBytes (((replyHead c t status detail n).drop 4).take 2) = t.opcode % 2 ^ 16 ∧
      ofLeBytes (((replyHead c t status detail n).drop 6).take 2) = status % 16 + c.state.code * 16 + c.modeCode * 256 ∧
      ofLeBytes (((replyHead c t status detail n).drop 8).take 2) = detail % 2 ^ 16 ∧
      ofLeBytes (((replyHead c t status detail n).drop 10).take 2) = n % 2 ^ 16 := by
  have hcode := c.state.code_lt
  have hmode := c.modeCode_lt
  have hst : status % 16 + c.state.code * 16 + c.modeCode * 256 < 256 ^ 2 := by omega
  have h4 : ofLeBytes (leBytes (t.seq % 2 ^ 32) 4) = t.seq % 2 ^ 32 := by rw [ofLeBytes_leBytes]; omega
  have h2 : ∀ x, ofLeBytes (leBytes (x % 2 ^ 16) 2) = x % 2 ^ 16 := fun x => by rw [ofLeBytes_leBytes]; omega
  have h6 := (ofLeBytes_leBytes 2 (status % 16 + c.state.code * 16 + c.modeCode * 256)).trans (Nat.mod_eq_of_lt hst)
  refine ⟨h4, h2 _, h6, h2 _, h2 _⟩

/-- A part of the header of a packet is that part of the packet. -/
theorem take_drop_of_take {α : Type} {l h : List α} {k n m : Nat} (hl : l.take m = h) (hk : k + n ≤ m) :
    (l.drop k).take n = (h.drop k).take n := by
  rw [← hl, List.drop_take, List.take_take, Nat.min_eq_left (by omega)]

end Sys2Proof.Machine

open Sys2Proof Sys2Proof.Machine Sys2Proof.Machine.F in
/-- Settles O54: with no barrier standing the reply is one, whose packet is a header of 12 bytes, its CRC and the body. -/
theorem mailboxReplyFormed : Obligations.MailboxReplyFormed := by
  rintro s e t status detail body b hissuer hbar rfl rfl
  obtain ⟨htake, hcrc, hdrop⟩ := replyBytes_split s.ctl t status detail body
  obtain ⟨hseq, hop, hst, hdet, hlen⟩ := replyHead_fields s.ctl t status detail (8 * body.length)
  rw [State.reply_of_none hbar, s.replyOne_mbox t status detail body (by omega), replyBytes_length]
  refine ⟨fun i v hv => ?_, ?_, ?_, ?_, ?_, ?_, ?_, ?_, ?_, ?_, hdrop⟩
  · have hcell := putCells_in (byteList (replyBytes s.ctl t status detail body)) [] 0 i 0 (BitVec.ofNat 8 v)
      (by simp [byteList, hv])
    rw [Nat.zero_add] at hcell
    rw [hcell, BitVec.toNat_ofNat]
  · simp (disch := decide) only [Dev.puts_cons, Dev.puts_nil, Dev.get_put_id, Dev.get_put]
    decide
  · simp (disch := decide) only [Dev.puts_cons, Dev.puts_nil, Dev.get_put_id, Dev.get_put]
    decide
  · exact Dev.get_put _ _ _ _
  · rw [← hseq, ← htake, List.take_take, Nat.min_eq_left (by decide)]
  · rw [← hop, take_drop_of_take htake (by decide)]
  · rw [← hst, take_drop_of_take htake (by decide)]
  · rw [← hdet, take_drop_of_take htake (by decide)]
  · rw [← hlen, take_drop_of_take htake (by decide)]
  · rw [hcrc, ofLeBytes_leBytes, htake, hdrop, show (256 : Nat) ^ 4 = 2 ^ 32 by decide]
end

section
/-! SUPPORT. The commands of proof units, the host engine, the event controller and the fault desk. -/

open Sys2Proof Sys2Proof.Machine Sys2Proof.Machine.F in
/-- Settles O9: a profile's fields are in their ranges, a stream keeps its profile. -/
theorem proofCommandsRun : Obligations.ProofCommandsRun := by
  intro s p s1 t
  refine ⟨fun h hlt hok hspan huse => h.next_fields ?_ (s1.admits_zero rfl _),
    fun d h hlt hd hmix hen => hd ▸ h.next_fields ?_ (s1.admits_zero rfl _),
    fun h hlt => h.next_done ?_ (s1.admits_zero rfl _), fun h hp => h.next_done ?_ (s1.admits_zero rfl _),
    fun h hp hk => ⟨_, h.next_done ?_ (s1.admits_zero rfl _), rfl⟩, fun h hlt hc => ?_⟩
  · have h012 : ([0, 1, 2] : List Nat).all (fun i => fieldsOk (cfgFlds .prof (8 * i)) (p.word i)) = true :=
      List.all_eq_true.mpr fun i hi => hok i (by simp at hi; omega)
    have h34 : ([3, 4] : List Nat).all (fun i => fieldsOk (cfgFlds .prof (8 * i)) (p.word i)) = true :=
      List.all_eq_true.mpr fun i hi => hok i (by simp at hi; omega)
    simp only [kPrfProfileSet, kspec, h012, h34, hspan, huse, hlt.not_ge]
    rfl
  · rw [hd] at hmix
    by_cases he : PRF_RX_STREAM.ENABLE.of (p.word 0) = 1
    · simp [kPrfStreamSet, kspec, ptnRun, hlt, hmix, he, Dev.on, hen he]
    · simp [kPrfStreamSet, kspec, ptnRun, hlt, hmix, he]
  · simp [kPrfRecReset, kspec, hlt]
  · simp [kPrfRecReset, kspec, hp]
  · simp [kPrfTxAliveSet, kspec, portRun, hp, hk.not_ge]
  · rw [show exec (.prfStatusGet p) s = s.kiland kPrfStatusGet p from rfl, h.next_read (l := 
      (offsIn .record 0 0x38).map (fun o => (.record, o, p.target)) ++ [(.glob, 0x2600000, 0), (.glob, 0x2600008, 0)]) hc ?_ rfl]
    · simp [Function.comp_def]
    · simp [kPrfStatusGet, kspec, hlt.not_ge, hc]

open Sys2Proof Sys2Proof.Machine Sys2Proof.Machine.F in
/-- Settles O10: a ring that is not running may be changed, a function's reset waits for its end. -/
theorem hostCommandsRun : Obligations.HostCommandsRun := by
  intro s p s1 t
  refine ⟨fun h hlt hen hon => h.next_fields ?_ (s1.admits_zero rfl _), fun h hlt hen hoff => h.next_wait ?_ (s1.admits_zero rfl _),
    fun h hlt hen hst => h.next_fields ?_ (s1.admits_zero rfl _),
    fun kind f r h hw hk hq hf hr hst hen => h.next_fields ?_ (s1.admits_zero rfl _),
    fun kind r h hw hk hq hr hst => h.next_fields ?_ (s1.admits_zero rfl _),
    fun r h hk hr hok hhold hst => h.next_fields ?_ (s1.admits_zero rfl _),
    fun r f h hk hr hst hown hen hreply => h.next_done ?_ (s1.admits_zero rfl _),
    fun h hlt => h.next_wait ?_ (s1.admits_zero rfl _), fun h hw hlt hc => ?_, fun h hk hc => ?_⟩
  · simp [kHpeFnCfg, kspec, hlt.not_ge, hen, hon]
  · have himage : s1.cx.image = false := rfl
    simp [kHpeFnCfg, kspec, hlt.not_ge, hen, hoff, himage]
  · have hnone : (s1.dev.fnRings p.target).find? (fun r => s1.dev.ringState r != 0) = none :=
      List.find?_eq_none.mpr fun r hr => by simp [hst r hr]
    simp [kHpeFnCfg, kspec, hlt.not_ge, hen, hnone]
  · have hkind : p.word 0 % 2 ^ 16 = kind := by omega
    have hfn : p.word 0 / 2 ^ 16 = f := by omega
    subst hr
    have hin : ¬(1 < kind ∨ 4096 ≤ p.target ∨ (64 ≤ f ∧ f ≠ 0xFFFF)) := by omega
    have hne : f ≠ 0xFFFF := by omega
    simp only [kHpeQueueAssign, kspec, hkind, hfn, if_neg hin, hst, if_neg hne, Dev.fnOff, Dev.on, hen]
    rfl
  · have hkind : p.word 0 % 2 ^ 16 = kind := by omega
    have hfn : p.word 0 / 2 ^ 16 = 0xFFFF := by omega
    subst hr
    have hin : ¬(1 < kind ∨ 4096 ≤ p.target ∨ (64 ≤ 0xFFFF ∧ 0xFFFF ≠ 0xFFFF)) := by omega
    simp only [kHpeQueueAssign, kspec, hkind, hfn, if_neg hin, hst]
    rfl
  · subst hr
    have hin : ¬((!kindOk (p.word 0) p.target) = true ∨ (!fieldsOk (ringCfg (p.word 0)) (p.word 3)) = true ∨
        p.word 0 = 1 ∧ (!fieldsOk [RING_RX_HOLD.HOLD_KIB] (p.word 4)) = true) := by
      rintro (hf | hf | ⟨hf, hf'⟩)
      · simp [hk] at hf
      · simp [hok] at hf
      · simp [hhold hf] at hf'
    simp only [kHpeQueueCfg, kspec, if_neg hin, hst, ne_eq, not_true, false_and, if_false]
  · subst hr
    by_cases hcmd : p.word 0 = 2
    · simp only [kHpeQueueStart, kspec, hk, hst, hown, Dev.fnOff, Dev.on, hen, hreply hcmd]
      simp
    · simp only [kHpeQueueStart, kspec, hk, hst, hown, Dev.fnOff, Dev.on, hen, hcmd]
      simp
  · simp [kHpeFnReset, kspec, hlt.not_ge]
  · rw [show exec (.hpeStatusGet p) s = s.kiland kHpeStatusGet p from rfl, h.next_read
      (l := [0x200, 0x208, 0x240, 0x248, 0x250].map fun o => (.fn, o, p.target)) hc ?_ rfl]
    · simp
    · simp [kHpeStatusGet, kspec, hw, hlt]
  · have hne : ¬(p.word 0 = 7 ∧ p.target < 64) := by
      rintro ⟨h7, -⟩
      simp [kindOk, h7] at hk
    rw [show exec (.hpeStatusGet p) s = s.kiland kHpeStatusGet p from rfl, h.next_read
      (l := (offsIn .ring 0 0x78).map fun o => (.ring, o, ringOf (p.word 0) p.target p.target)) hc ?_ rfl]
    · simp [Function.comp_def]
    · simp only [kHpeStatusGet, kspec, if_neg hne, hk, if_true]

open Sys2Proof Sys2Proof.Machine Sys2Proof.Machine.F in
/-- Settles O11: every source named is known and free to change; a target switched off gives back its vectors. -/
theorem eventCommandsRun : Obligations.EventCommandsRun := by
  intro s p s1 t
  refine ⟨fun vec en l h hlo hhi hsum hvec hen hl hall => ?_,
    fun h hlt hok => h.next_edit (g := Dev.runsEnd) ?_ (s1.admits_zero rfl _), fun d h hlt hal hd => ?_,
    fun h hlt => h.next_edit (g := Dev.runsEnd) ?_ (s1.admits_zero rfl _),
    fun h hok => h.next_fields ?_ (s1.admits_zero rfl _), fun h hw hlt hc => ?_, fun h hw hlt hc => ?_⟩
  · have hknown : l.any (fun x => (srcKind x).isNone) = false :=
      List.any_eq_false.mpr fun x hx => by simp [← Option.isSome_iff_ne_none, (hall x hx).1]
    have hfree : l.find? (fun x => s1.dev.srcBusy x vec en) = none :=
      List.find?_eq_none.mpr fun x hx => by simp [(hall x hx).2]
    have hin : ¬(p.word 0 = 0 ∨ 4096 < p.word 0 ∨ 65536 < p.target + p.word 0) := by omega
    refine h.next_ok (x := { doneEdit (l.foldl (fun d x => d.srcCfg x vec en) s1.dev) [] with
      wrote := l.flatMap fun x => [(EVC_SRC_CFG.VECTOR.id, x), (EVC_SRC_CFG.ENABLE.id, x)] }) ?_ (s1.admits_zero rfl _)
        rfl rfl rfl rfl
    subst hvec hen hl
    simp only [kEvcSrcCfg, kspec, if_neg hin, hknown, hfree]
    rfl
  · simp [kEvcVecCfg, kspec, hlt.not_ge, hok]
  · subst hd
    refine h.next_edit (l := imageEdits (cfgFlds .tgt 0) p.target (p.word 0) ++ imageEdits (cfgFlds .tgt 8) p.target (p.word 1))
      (g := fun e => if s1.dev.get EVC_TGT_CFG.ENABLE p.target = 1 ∧ EVC_TGT_CFG.ENABLE.of (p.word 0) = 0 then e.targetOff p.target
        else e.runsEnd) ?_ (s1.admits_zero rfl _)
    simp [kEvcTgtCfg, kspec, hlt.not_ge, hal, Dev.on]
  · simp [kEvcTsetSet, kspec, hlt.not_ge]
    rfl
  · simp [kEvcSbCfg, kspec, hok]
  · rw [show exec (.evcStatusGet p) s = s.kiland kEvcStatusGet p from rfl, h.next_read
      (l := (offsIn .vec 0 0x38).map fun o => (.vec, o, p.target)) hc ?_ rfl]
    · simp [Function.comp_def]
    · simp [kEvcStatusGet, kspec, hw, hlt]
  · refine h.next_done ?_ (s1.admits_zero rfl _)
    simp only [kEvcStatusGet, kspec, hw, hlt, hc, Dev.readRegs_noclear]
    simp
    rfl

namespace Sys2Proof.Machine
open F

/-- An acknowledgement marks a record that is VALID (R347). -/
theorem Dev.ackRecord_acked {d : Dev} (h : d.get FLT_REC_STATUS.VALID 0 = 1) : d.ackRecord.get FLT_REC_STATUS.ACKED 0 = 1 := by
  simp only [Dev.ackRecord, Dev.on, h, beq_self_eq_true, if_true]
  split
  · exact ((Dev.get_put_id _ _ _ _ (by decide)).trans (Dev.get_put_id _ _ _ _ (by decide))).trans (Dev.get_put _ _ _ _)
  · exact Dev.get_put _ _ _ _

/-- An acknowledgement of a held SAFE releases it, and its quiet timer starts afresh (R350). -/
theorem Dev.ackRecord_held {d : Dev} (h : d.get FLT_STATUS.HELD 0 = 1) :
    d.ackRecord.get FLT_STATUS.HELD 0 = 0 ∧ d.ackRecord.desk.exits = [] ∧ d.ackRecord.get FLT_STATUS.QUIET_LEFT_MS 0 =
      d.get FLT_SAFE_CFG.QUIET_MS 0 % 2 ^ FLT_STATUS.QUIET_LEFT_MS.w := by
  have hacked : ∀ F, FLT_REC_STATUS.ACKED.id ≠ F.id →
      (if d.on FLT_REC_STATUS.VALID 0 then d.put FLT_REC_STATUS.ACKED 0 1 else d).get F 0 = d.get F 0 := by
    intro F hF
    split
    · exact Dev.get_put_id _ _ _ _ hF
    · rfl
  have hon : (if d.on FLT_REC_STATUS.VALID 0 then d.put FLT_REC_STATUS.ACKED 0 1 else d).on FLT_STATUS.HELD 0 = true := by
    rw [Dev.on, hacked _ (by decide), h, beq_self_eq_true]
  rw [Dev.ackRecord, if_pos hon]
  refine ⟨(Dev.get_put_id _ _ _ _ (by decide)).trans (Dev.get_put _ _ _ _), rfl, (Dev.get_put _ _ _ _).trans ?_⟩
  rw [Dev.get_put_id _ _ _ _ (by decide), hacked _ (by decide)]

/-- A lock-up asked for is on its way. -/
theorem Dev.askLockup_mem (d : Dev) (cause : Nat) : cause ∈ (d.askLockup cause).desk.trigs := by
  unfold Dev.askLockup
  split
  · assumption
  · simp

/-- A passed BARRIER with no command waiting replies at once; with one it stands (R308). -/
theorem State.Passes.barrier_next {s s1 : State} {p : Pkt} {t : Ticket} (h : s.Passes kBarrier p s1 t) :
    exec (.barrier p) s = .next
      ({ s1 with dev := { s1.dev with cmp := { s1.dev.cmp with barrier := some t } } } : State).barrierDue := by
  rw [show exec (.barrier p) s = s.core fun s => s.barrierRun p from rfl, State.core_clocked h.clocked]
  simp only [State.barrierRun, h.taken, h.going, h.checks]
  rfl

end Sys2Proof.Machine

open Sys2Proof Sys2Proof.Machine Sys2Proof.Machine.F in
/-- Settles O12: a barrier with no command waiting replies at once, and its reply leaves none standing. -/
theorem faultAndLockupCommandsRun : Obligations.FaultAndLockupCommandsRun := by
  intro s p s1 t
  refine ⟨fun h hc => ?_, fun h => ⟨_, h.next_done rfl (s1.admits_zero rfl _), Dev.ackRecord_acked, Dev.ackRecord_held⟩,
    fun h hcls hne hok => h.next_fields ?_ (s1.admits_zero rfl _), fun h hok => h.next_fields ?_ (s1.admits_zero rfl _),
    fun cls h hcls hport => h.next_done ?_ (s1.admits_zero rfl _), fun h => h.next_fields rfl (s1.admits_zero rfl _),
    fun h hen => ⟨s1.dev.askLockup 2, h.next_done ?_ (s1.admits_zero rfl _), Dev.askLockup_mem _ _⟩,
    fun off len h hoff hlen hoff8 hlen8 hlo hhi hsum hvalid => h.next_done ?_ (s1.admits_zero rfl _),
    fun h => ⟨_, h.next_done rfl (s1.admits_zero rfl _), rfl⟩, fun h => h.next_done rfl (s1.admits_zero rfl _),
    fun h hw => ?_, fun h hw => ?_⟩
  · exact h.next_read (l := [0x3400000, 0x3400008, 0x3400010, 0x3400018, 0x3400020, 0x3400028, 0x3400030, 0x3400038, 0x3400100,
      0x3400108, 0x3400110, 0x3400118].map fun o => (.glob, o, 0)) hc rfl rfl
  · have hlt : p.target < 64 := by
      simp [faultClasses] at hcls
      omega
    simp [kFltReactionSet, kspec, hlt.not_ge, hcls, hne, hok]
  · simp [kFltSafeCfg, kspec, hok]
  · by_cases hc : portClass cls = true
    · simp [kFltInject, kspec, hcls, hport hc]
    · simp [kFltInject, kspec, hcls, hc]
  · simp [kLckTrigger, kspec, Dev.on, hen]
  · subst hoff hlen
    simp [kLckImpressionRead, kspec, hoff8, hlen8, hlo.not_gt, hhi.not_gt, hsum.not_gt, Dev.on, hvalid]
    rfl
  · refine ⟨_, h.barrier_next, ?_, ?_⟩ <;> simp only [State.barrierDue, hw, List.isEmpty_nil, if_true]
    exact congrArg Cmp.barrier (State.replyOne_cmp _ t 0 0 [])
  · rw [h.barrier_next, State.barrierDue]
    simp [hw]
end

section
/-!
SUPPORT. What every step keeps. `State.Only s t` says that `t` is `s` but for its device and the mailbox reply buffer;
`Lawful i s t` says what a step of command `i` from `s` to `t` keeps; `Good i s o` what an answer of command `i` is.
-/
namespace Sys2Proof.Machine
open F

/-- `t` is `s` but for the device and the mailbox reply buffer, which stays in canonical form. -/
structure State.Only (s t : State) : Prop where
  ctl : t.ctl = s.ctl
  pending : t.pending = s.pending
  cmd : t.mem.mboxCmd = s.mem.mboxCmd
  flash : t.mem.flash = s.mem.flash
  impression : t.mem.impression = s.mem.impression
  reply : Tab.wf s.mem.mboxReply 0 = true → Tab.wf t.mem.mboxReply 0 = true

namespace State.Only
variable {s t u : State}

theorem refl (s : State) : State.Only s s := ⟨rfl, rfl, rfl, rfl, rfl, id⟩

theorem trans (h : State.Only s t) (k : State.Only t u) : State.Only s u :=
  ⟨k.ctl.trans h.ctl, k.pending.trans h.pending, k.cmd.trans h.cmd, k.flash.trans h.flash, k.impression.trans h.impression,
    fun w => k.reply (h.reply w)⟩

theorem dev (s : State) (d : Dev) : State.Only s { s with dev := d } := ⟨rfl, rfl, rfl, rfl, rfl, id⟩

/-- A change of the device first makes no difference. -/
theorem of_dev {d : Dev} (h : State.Only { s with dev := d } t) : State.Only s t := (dev s d).trans h

theorem ite {c : Prop} [Decidable c] (h : State.Only s t) (k : State.Only s u) : State.Only s (if c then t else u) := by
  split <;> assumption

end State.Only

theorem State.replyOne_only (s : State) (t : Ticket) (status detail : Nat) (body : List Nat) :
    State.Only s (s.replyOne t status detail body) := by
  by_cases h : t.issuer < 64
  · simp only [State.replyOne, if_pos h]
    exact .dev _ _
  · rw [s.replyOne_mbox t status detail body h]
    exact ⟨rfl, rfl, rfl, rfl, rfl, fun _ => putCells_wf _ _ _ _ rfl⟩

theorem State.reply_only (s : State) (t : Ticket) (status detail : Nat) (body : List Nat) :
    State.Only s (s.reply t status detail body) := by
  have h := s.replyOne_only t status detail body
  rw [State.reply]
  rcases (s.replyOne t status detail body).barrierDue_cases with hb | ⟨u, hb⟩ <;> rw [hb]
  · exact h
  · exact h.trans (.of_dev (State.replyOne_only _ _ _ _ _))

theorem State.barrierDue_only (s : State) : State.Only s s.barrierDue := by
  rcases s.barrierDue_cases with hb | ⟨u, hb⟩ <;> rw [hb]
  · exact .refl s
  · exact .of_dev (State.replyOne_only _ _ _ _ _)

theorem State.foldl_only {α : Type} {g : State → α → State} (hg : ∀ s a, State.Only s (g s a)) (l : List α) (s : State) :
    State.Only s (l.foldl g s) := by
  induction l generalizing s with
  | nil => exact .refl s
  | cons a l ih => exact (hg s a).trans (ih _)

theorem State.replyWaits_only (s : State) (g : Wait → Bool) (status detail : Nat) (body : Wait → List Nat) :
    State.Only s (s.replyWaits g status detail body) :=
  .of_dev (State.foldl_only (fun s (w : Waiting) => State.reply_only s w.t status detail (body w.why)) _ _)

theorem State.replyRef_only (s : State) (t : Ticket) (r : Ref) : State.Only s (s.replyRef t r) := s.reply_only _ _ _ _

theorem State.refuse_only (s : State) (k : KSpec) (t : Ticket) (r : Ref) : State.Only s (s.refuse k t r) := by
  unfold State.refuse
  dsimp only
  split
  · exact .of_dev (State.replyRef_only _ t r)
  · exact s.replyRef_only t r

theorem State.lastReply_only (s : State) (t : Ticket) : State.Only s (s.lastReply t) := .ite (.dev _ _) (.refl s)

/-- The visits to other issuers before a command's turn. -/
theorem State.pass_only (l : List Nat) (s t : State) (h : s.pass l = some t) : State.Only s t := by
  induction l generalizing s with
  | nil =>
    cases h
    exact State.Only.refl _
  | cons i l ih =>
    unfold State.pass at h
    split at h
    · split at h
      · cases h
      · exact ih _ h
    · split at h
      · exact ih _ h
      · exact .of_dev (ih _ h)
      · cases h

theorem State.turn_only {s t : State} {issuer : Nat} (h : s.turn issuer = some t) : State.Only s t := State.pass_only _ _ _ h

theorem State.take_only (s : State) (opcode : Nat) (p : Pkt) : State.Only s (s.take opcode p).1 := by
  unfold State.take
  split
  · exact .refl s
  · rename_i n hn
    refine (State.turn_only hn).trans ?_
    split
    · split
      · exact .refl n
      · exact .dev _ _
      · split
        · exact .refl n
        · exact .dev _ _
    · split
      · split
        · split
          · exact .dev _ _
          · exact .refl n
        · exact .refl n
      · exact .refl n

theorem State.lenRefused_only (s : State) (issuer : Nat) : State.Only s (s.lenRefused issuer) := by
  unfold State.lenRefused
  split
  · exact .refl s
  · rename_i n hn
    refine (State.turn_only hn).trans ?_
    split
    · split
      · exact .refl n
      · exact .dev _ _
      · refine .ite (.refl n) ?_
        dsimp only
        split
        · exact .dev _ _
        · exact .of_dev (State.replyRef_only _ _ _)
    · exact .ite (.of_dev (State.replyRef_only _ _ _)) (.refl n)

theorem State.packetRefused_only (s : State) (listed : List Nat) (issuer : Nat) (bytes : List Byte) :
    State.Only s (s.packetRefused listed issuer bytes) := by
  unfold State.packetRefused
  split
  · exact .refl s
  · rename_i n hn
    refine (State.turn_only hn).trans ?_
    split
    · split
      · exact .refl n
      · exact .dev _ _
      · refine .ite (.refl n) ?_
        split
        · exact .refl n
        · dsimp only
          split
          · exact .dev _ _
          · exact .of_dev (State.replyRef_only _ _ _)
    · refine .ite ?_ (.refl n)
      split
      · exact .refl n
      · exact .of_dev (State.replyRef_only _ _ _)

theorem State.waitEnd_only (s : State) (issuer : Nat) : State.Only s (s.waitEnd issuer) := by
  unfold State.waitEnd
  split
  · exact .refl s
  · split
    · exact .of_dev (State.reply_only _ _ _ _ _)
    · exact .ite (.refl s) (.of_dev (State.replyRef_only _ _ _))
    · exact .refl s

theorem State.barrierRun_only (s : State) (p : Pkt) : State.Only s (s.barrierRun p) := by
  have htake := s.take_only kBarrier.opcode p
  unfold State.barrierRun
  split <;> rename_i heq <;> rw [heq] at htake
  · exact htake
  · refine htake.trans (.ite (.refl _) ?_)
    split
    · exact State.replyRef_only _ _ _
    · exact .of_dev (State.barrierDue_only _)

theorem State.ecoSettled_only (s : State) : State.Only s s.ecoSettled := by
  unfold State.ecoSettled
  split
  · exact .of_dev (State.replyWaits_only _ _ 0 0 _)
  · exact .refl s

theorem State.domain33_only (s : State) : State.Only s s.domain33 := by
  unfold State.domain33
  exact .of_dev (State.replyWaits_only _ _ 0 0 _)

/-- A mode switch abandoned: no switch is under way, and the rest is as it was but for replies (R333). -/
theorem State.modeAbandon_only (s : State) :
    State.Only { s with ctl := { s.ctl with switching := none } } s.modeAbandon := by
  unfold State.modeAbandon
  split
  · exact .of_dev (State.replyWaits_only _ _ _ _ _)
  · rename_i h
    have hnone : s.ctl.switching = none := by simpa using h
    rw [← hnone]
    exact .refl s

/-- What a step of command `i` keeps (R8, R316, R325 to R328, R353). -/
structure Lawful (i : Instr) (s t : State) : Prop where
  pending : t.pending = s.pending
  form : Memory.wf s.mem = true → Memory.wf t.mem = true
  coherent : Ctl.coherent s.ctl = true → Ctl.coherent t.ctl = true
  moves : Ctl.coherent s.ctl = true → CpxState.moves s.ctl.state t.ctl.state = true
  mode : Ctl.coherent s.ctl = true → t.ctl.mode = s.ctl.mode ∨ t.ctl.state = .powered ∨
    (i = .modeSwitchCommit ∨ i = .startModeSwitch ∨ ∃ p, i = .modeSet p)
  flash : writesFlash i = false → t.mem.flash = s.mem.flash
  impression : writesImpression i = false → t.mem.impression = s.mem.impression
  cmd : t.ctl.state ≠ .powered → (∀ a o n x, i ≠ .registerWrite a o n x) → t.mem.mboxCmd = s.mem.mboxCmd

theorem CpxState.moves_refl (a : CpxState) : CpxState.moves a a = true := by simp [CpxState.moves]

theorem Memory.wf_iff (m : Mems) : Memory.wf m = true ↔
    Tab.wf m.mboxCmd 0 = true ∧ Tab.wf m.mboxReply 0 = true ∧ Tab.wf m.flash 0xFF = true ∧ Tab.wf m.impression 0 = true := by
  simp only [Memory.wf, Bool.and_eq_true, and_assoc]

theorem State.Only.form {s t : State} (h : State.Only s t) (hs : Memory.wf s.mem = true) : Memory.wf t.mem = true := by
  rw [Memory.wf_iff] at hs ⊢
  obtain ⟨hcmd, hreply, hflash, himp⟩ := hs
  exact ⟨h.cmd ▸ hcmd, h.reply hreply, h.flash ▸ hflash, h.impression ▸ himp⟩

theorem State.Only.lawful {s t : State} (h : State.Only s t) (i : Instr) : Lawful i s t where
  pending := h.pending
  form := h.form
  coherent hc := h.ctl ▸ hc
  moves _ := h.ctl ▸ CpxState.moves_refl _
  mode _ := .inl (by rw [h.ctl])
  flash _ := h.flash
  impression _ := h.impression
  cmd _ _ := h.cmd

theorem Lawful.refl (i : Instr) (s : State) : Lawful i s s := (State.Only.refl s).lawful i

/-- The commands that act whether CHIP_REF runs or not (R388). -/
def unclocked : Instr → Bool
  | .islandPowerOn | .islandSupplyLoss | .p9ChipReset | .chipRefLoss | .chipRefReturn => true
  | _ => false

/-- What an answer `o` of command `i` in state `s` is. -/
structure Good (i : Instr) (s : State) (o : Out) : Prop where
  kept : ∀ t, o = .next t → Lawful i s t
  known : ∀ r, o ≠ .refused r
  completes : s.ctl.chipRef = true → s.ctl.refLost = false → ∃ t, o = .next t
  stops : s.ctl.refLost = true → unclocked i = false → o = .fault .chipRefAbsent
  held : s.awake = true → s.ctl.state = .locked → actsLocked i = false → o = .next s

/-- A command of ACLK: what it does when awake is lawful, and when LOCKED it acts only if it is one of those that may. -/
theorem State.aclk_good {i : Instr} {s : State} {g : State → State} (hg : s.awake = true → Lawful i s (g s))
    (hl : s.ctl.state = .locked → actsLocked i = false → g s = s) : Good i s (s.aclk g) := by
  rcases s.aclk_cases g with ⟨hlost, ho⟩ | ⟨hlost, hoff, ho⟩ | ⟨hawake, ho⟩ <;> rw [ho]
  · exact ⟨fun _ h => (nomatch h), fun _ h => (nomatch h), fun _ h => (Bool.noConfusion (hlost.symm.trans h)), fun _ _ => rfl,
      fun h => by simp [State.awake, hlost] at h⟩
  · exact ⟨fun t h => by cases h; exact .refl i s, fun _ h => (nomatch h), fun _ _ => ⟨s, rfl⟩,
      fun h => (Bool.noConfusion (hlost.symm.trans h)), fun _ _ _ => rfl⟩
  · exact ⟨fun t h => by cases h; exact hg hawake, fun _ h => (nomatch h), fun _ _ => ⟨_, rfl⟩,
      fun h => (Bool.noConfusion ((s.awake_iff.mp hawake).2.symm.trans h)), fun _ h k => by rw [hl h k]⟩

/-- A command of the core clocks: nothing acts when LOCKED. -/
theorem State.core_good {i : Instr} {s : State} {g : State → State} (hg : s.clocked = true → Lawful i s (g s)) :
    Good i s (s.core g) := by
  refine State.aclk_good (fun ha => ?_) fun hl _ => by simp [Ctl.live, hl]
  by_cases hlive : s.ctl.live = true
  · simpa [hlive] using hg (by simp [State.clocked, ha, hlive])
  · simpa [hlive] using Lawful.refl i s

/-- A command on the clocked device. -/
theorem State.onDev_good (i : Instr) (s : State) (g : Ctl → Dev → Dev) : Good i s (s.onDev g) :=
  State.core_good fun _ => (State.Only.dev s _).lawful i

/-- A command of the core clocks that leaves all but the device and the mailbox reply alone. -/
theorem State.core_only (i : Instr) (s : State) {g : State → State} (hg : State.Only s (g s)) : Good i s (s.core g) :=
  State.core_good fun _ => hg.lawful i

/-- A command on the island, one of those that may act while LOCKED. -/
theorem State.onIsland_good {i : Instr} (s : State) (g : Ctl → Dev → Dev) (hi : actsLocked i = true) : Good i s (s.onIsland g) :=
  State.aclk_good (fun _ => (State.Only.dev s _).lawful i) fun _ h => Bool.noConfusion (hi.symm.trans h)

end Sys2Proof.Machine
end

section
/-!
SUPPORT. Every row of Table 107 but MODE_SET and those that write an image leaves flash and the complex state alone.
-/
namespace Sys2Proof.Machine

/-- What a command leaves, if anything, neither acts on flash nor on the complex state. -/
def plainResult (r : Except Ref Done) : Prop := ∀ x, r = .ok x → x.ctl = .keep ∧ x.flash = []

theorem plainResult_error (e : Ref) : plainResult (.error e) := fun _ h => nomatch h

theorem plainResult_ok {x : Done} (hc : x.ctl = .keep) (hf : x.flash = []) : plainResult (.ok x) := by
  intro y hy
  cases hy
  exact ⟨hc, hf⟩

theorem plainResult_ite {c : Prop} [Decidable c] {a b : Except Ref Done} (ha : plainResult a) (hb : plainResult b) :
    plainResult (if c then a else b) := by
  split <;> assumption

/-- A row whose effects are all plain. -/
def KSpec.Plain (k : KSpec) : Prop := ∀ c p d, plainResult (k.run c p d)

theorem State.commit_only {s : State} {p : Pkt} {t : Ticket} {x : Done} (hx : x.ctl = .keep ∧ x.flash = []) :
    State.Only s (s.commit p t x) := by
  obtain ⟨hctl, hflash⟩ := hx
  unfold State.commit
  rw [hctl, hflash]
  split
  · exact s.reply_only _ _ _ _
  · dsimp only [CtlOp.apply, flashDo]
    have hdev : State.Only s { ctl := s.ctl, dev := x.dev, mem := s.mem, pending := s.pending } := .dev s x.dev
    have hrel : ∀ n : State, State.Only n (if x.release.isEmpty then n else n.replyWaits x.release.contains) := fun n =>
      .ite (.refl n) (n.replyWaits_only _ 0 0 _)
    split
    · exact (hdev.trans (hrel _)).trans (State.reply_only _ _ _ _ _)
    · exact (hdev.trans (hrel _)).trans (.dev _ _)

/-- What is judged well is what the row's meaning leaves. -/
theorem KSpec.run_of_judge {k : KSpec} {c : Cx} {p : Pkt} {d : Dev} {x : Done} (h : k.judge c p d = .ok x) :
    k.run c p d = .ok x := by
  unfold KSpec.judge at h
  split at h
  · cases h
  · rename_i y hy
    split at h
    · cases h
    · cases h
      exact hy

/-- A command from its take to its reply: it leaves all but the device and replies alone, or passes every check and commits
what its row's meaning leaves. -/
theorem State.execute_cases (s : State) (k : KSpec) (p : Pkt) : State.Only s (s.execute k p) ∨
    ∃ n t x, State.Only s n ∧ k.preCheck n.cx p n.dev = none ∧ k.run n.cx p n.dev = .ok x ∧
      s.execute k p = (n.commit p t x).lastReply t := by
  have htake := s.take_only k.opcode p
  unfold State.execute
  split <;> rename_i heq <;> rw [heq] at htake
  · exact .inl htake
  · rename_i n t
    split
    · exact .inl htake
    · split
      · exact .inl (htake.trans (State.refuse_only _ _ _ _))
      · rename_i hcheck
        by_cases hdry : p.dryRun = true
        · left
          simp only [hdry, if_true]
          refine (htake.trans (.dev n (n.dev.inc F.CMP_DRY_RUNS.COUNT 0))).trans ?_
          split
          · exact State.refuse_only _ _ _ _
          · rw [State.commit, if_pos hdry]
            exact (State.reply_only _ _ _ _ _).trans (State.lastReply_only _ _)
        · simp only [hdry]
          split <;> rename_i hj
          · exact .inl (htake.trans (State.refuse_only _ _ _ _))
          · exact .inr ⟨n, t, _, htake, hcheck, KSpec.run_of_judge hj, rfl⟩

theorem State.execute_only (s : State) {k : KSpec} (p : Pkt) (hk : k.Plain) : State.Only s (s.execute k p) := by
  rcases s.execute_cases k p with h | ⟨n, t, x, hn, _, hrun, he⟩
  · exact h
  · rw [he]
    exact hn.trans ((State.commit_only (hk _ _ _ _ hrun)).trans (State.lastReply_only _ _))

theorem State.kiland_good (i : Instr) (s : State) {k : KSpec} (p : Pkt) (hk : k.Plain) : Good i s (s.kiland k p) :=
  State.core_only i s (s.execute_only p hk)

/-- The commands of the plain rows of Table 107. -/
def plainCommand : Instr → Bool
  | .sessionInfo _ | .stateGet _ | .cpxReset _ | .bankReset _ | .eightReset _ | .portReset _ | .laneLaunch _
  | .laneStop _ | .laneEasy _ | .laneWake _ | .laneLaunchCfg _ | .laneEqSet _ | .lanePolarity _ | .lanePattern _
  | .laneRosterGet _ | .portLayout _ | .portMacCfg _ | .portSaSet _ | .portDeal _ | .portCountersGet _ | .galPortCfg _
  | .galClassCfg _ | .galMap _ | .galHeadroom _ | .galStatusGet _ | .galScrubCfg _ | .galFlush _ | .galCountersGet _
  | .coxPortShape _ | .coxClassCfg _ | .ptnSet _ | .ptnPolice _ | .coxTelem _ | .coxCountersGet _ | .coxGuarQuery _
  | .timStep _ | .timFreq _ | .timSlew _ | .timGet _ | .timLaneLat _ | .timPortCfg _ | .gateClassCfg _ | .gatePortCfg _
  | .gateListLoad _ | .gateListCommit _ | .gateStop _ | .gateCountersGet _ | .timEnable _ | .prfProfileSet _
  | .prfStreamSet _ | .prfRecReset _ | .prfTxAliveSet _ | .prfStatusGet _ | .hpeFnCfg _ | .hpeQueueAssign _
  | .hpeQueueCfg _ | .hpeQueueStart _ | .hpeFnReset _ | .hpeStatusGet _ | .evcSrcCfg _ | .evcVecCfg _ | .evcTgtCfg _
  | .evcTsetSet _ | .evcSbCfg _ | .evcStatusGet _ | .fltStatusGet _ | .fltAck _ | .fltReactionSet _ | .fltSafeCfg _
  | .fltInject _ | .lckCfg _ | .lckTrigger _ | .lckImpressionRead _ | .lckImpressionClear _ | .fence _ | .imageInfo _
  | .imageRead _ | .imageAbort _ => true
  | _ => false

theorem exec_plain {i : Instr} (s : State) (hi : plainCommand i = true) : Good i s (exec i s) := by
  cases i <;> simp only [plainCommand, Bool.false_eq_true] at hi
  all_goals
    refine State.kiland_good _ s _ fun c p d => ?_
    dsimp only [kBankReset, kCoxClassCfg, kCoxCountersGet, kCoxGuarQuery, kCoxPortShape, kCoxTelem, kCpxReset, kEightReset,
      kEvcSbCfg, kEvcSrcCfg, kEvcStatusGet, kEvcTgtCfg, kEvcTsetSet, kEvcVecCfg, kFence, kFltAck, kFltInject,
      kFltReactionSet, kFltSafeCfg, kFltStatusGet, kGalClassCfg, kGalCountersGet, kGalFlush, kGalHeadroom, kGalMap,
      kGalPortCfg, kGalScrubCfg, kGalStatusGet, kGateClassCfg, kGateCountersGet, kGateListCommit, kGateListLoad,
      kGatePortCfg, kGateStop, kHpeFnCfg, kHpeFnReset, kHpeQueueAssign, kHpeQueueCfg, kHpeQueueStart, kHpeStatusGet,
      kImageAbort, kImageInfo, kImageRead, kLaneEasy, kLaneEqSet, kLaneLaunch, kLaneLaunchCfg, kLanePattern,
      kLanePolarity, kLaneRosterGet, kLaneStop, kLaneWake, kLckCfg, kLckImpressionClear, kLckImpressionRead,
      kLckTrigger, kPortCountersGet, kPortDeal, kPortLayout, kPortMacCfg, kPortReset, kPortSaSet, kPrfProfileSet,
      kPrfRecReset, kPrfStatusGet, kPrfStreamSet, kPrfTxAliveSet, kPtnPolice, kPtnSet, kSessionInfo, kStateGet,
      kTimEnable, kTimFreq, kTimGet, kTimLaneLat, kTimPortCfg, kTimSlew, kTimStep, kspec, launchRun,
      portRun, laneRun, ptnRun, resetRun, copyRun, doneRead]
    repeat' first
      | exact plainResult_error _
      | exact plainResult_ok rfl rfl
      | refine plainResult_ite ?_ ?_
      | split

end Sys2Proof.Machine
end

section
/-!
SUPPORT. Every command's answer is good: those that change the complex state, the buffers or the island one by one, the rest
by their gate.
-/
namespace Sys2Proof.Machine
open F

/-- A step whose complex state goes from `s.ctl` to `c`, coherent and by an allowed move. -/
theorem Lawful.of_only {i : Instr} {s t : State} (c : Ctl) (h : State.Only { s with ctl := c } t)
    (hc : Ctl.coherent s.ctl = true → Ctl.coherent c = true ∧ CpxState.moves s.ctl.state c.state = true ∧
      (c.mode = s.ctl.mode ∨ c.state = .powered ∨ (i = .modeSwitchCommit ∨ i = .startModeSwitch ∨ ∃ p, i = .modeSet p))) :
    Lawful i s t where
  pending := h.pending
  form := h.form
  coherent hs := h.ctl ▸ (hc hs).1
  moves hs := h.ctl ▸ (hc hs).2.1
  mode hs := h.ctl ▸ (hc hs).2.2
  flash _ := h.flash
  impression _ := h.impression
  cmd _ _ := h.cmd

theorem Lawful.trans_only {i : Instr} {s t u : State} (h : Lawful i s t) (k : State.Only t u) : Lawful i s u where
  pending := k.pending.trans h.pending
  form hs := k.form (h.form hs)
  coherent hs := k.ctl ▸ h.coherent hs
  moves hs := k.ctl ▸ h.moves hs
  mode hs := k.ctl ▸ h.mode hs
  flash hi := k.flash.trans (h.flash hi)
  impression hi := k.impression.trans (h.impression hi)
  cmd hp hi := k.cmd.trans (h.cmd (k.ctl ▸ hp) hi)

theorem State.Only.then_lawful {i : Instr} {s t u : State} (h : State.Only s t) (k : Lawful i t u) : Lawful i s u where
  pending := k.pending.trans h.pending
  form hs := k.form (h.form hs)
  coherent hs := k.coherent (h.ctl ▸ hs)
  moves hs := h.ctl ▸ k.moves (h.ctl ▸ hs)
  mode hs := h.ctl ▸ k.mode (h.ctl ▸ hs)
  flash hi := (k.flash hi).trans h.flash
  impression hi := (k.impression hi).trans h.impression
  cmd hp hi := (k.cmd hp hi).trans h.cmd

/-- What the complex state and the mode say of each other, clause by clause. -/
theorem Ctl.coherent_iff (c : Ctl) : Ctl.coherent c = true ↔
    (c.state = .running → c.mode.isSome = true) ∧ (c.state = .powered ∨ c.state = .imageLoad ∨ c.state = .ready → c.mode = none) ∧
      (c.state = .locked ↔ c.lockFrom.isSome = true) ∧ (c.switching = none ∨ c.state = .running ∨ c.state = .locked) := by
  have hbeq : ∀ x : CpxState, (x == .locked) = decide (x = .locked) := fun _ => rfl
  cases hs : c.state <;> simp [Ctl.coherent, hbeq, hs, and_assoc]

/-- A state in RUNNING is in a mode and has no lock-up latched. -/
theorem Ctl.coherent_running {c : Ctl} {m : Mode} (h : Ctl.coherent c = true) (hl : c.state ≠ .locked) :
    Ctl.coherent { c with mode := some m, state := .running, switching := none } = true := by
  rw [Ctl.coherent_iff] at h ⊢
  obtain ⟨_, _, hlock, _⟩ := h
  simp_all

theorem Ctl.moves_running {c : Ctl} (hl : c.state = .ready ∨ c.state = .running ∨ c.state = .safe) :
    CpxState.moves c.state .running = true := by
  rcases hl with h | h | h <;> rw [h] <;> decide

/-- A reset that ends in POWERED with nothing in force is coherent and always allowed. -/
theorem Lawful.of_powered {i : Instr} {s t : State} (hpend : t.pending = s.pending) (hstate : t.ctl.state = .powered)
    (hcoh : Ctl.coherent t.ctl = true) (hform : Memory.wf s.mem = true → Memory.wf t.mem = true)
    (hflash : t.mem.flash = s.mem.flash) (himp : writesImpression i = false → t.mem.impression = s.mem.impression) :
    Lawful i s t where
  pending := hpend
  form := hform
  coherent _ := hcoh
  moves _ := by rw [hstate]; cases s.ctl.state <;> rfl
  mode _ := .inr (.inl hstate)
  flash _ := hflash
  impression := himp
  cmd hp := absurd hstate hp

theorem State.complexReset_lawful (i : Instr) (s : State) (cause : Nat) : Lawful i s (s.complexReset cause) :=
  .of_powered rfl rfl rfl (fun h => by
    rw [Memory.wf_iff] at h ⊢
    exact ⟨rfl, rfl, h.2.2.1, h.2.2.2⟩) rfl fun _ => rfl

/-! The supply of the island, CHIP_REF and the chip reset. -/

theorem State.dead_form (s : State) (h : Memory.wf s.mem = true) : Memory.wf s.dead.mem = true := by
  rw [Memory.wf_iff] at h ⊢
  exact ⟨rfl, rfl, h.2.2.1, rfl⟩

/-- A command that has a next state whether CHIP_REF runs or not. -/
theorem Good.of_next {i : Instr} {s t : State} (hi : unclocked i = true) (h : Lawful i s t)
    (hl : s.awake = true → s.ctl.state = .locked → actsLocked i = false → t = s) : Good i s (.next t) :=
  ⟨fun _ e => by cases e; exact h, fun _ e => (nomatch e), fun _ _ => ⟨t, rfl⟩, fun _ e => Bool.noConfusion (hi.symm.trans e),
    fun ha hs e => by rw [hl ha hs e]⟩

theorem islandPowerOn_good (s : State) : Good .islandPowerOn s (exec .islandPowerOn s) := by
  refine .of_next rfl ?_ fun ha _ _ => if_pos (s.awake_iff.mp ha).1
  split
  · exact .refl _ s
  · exact .of_powered rfl rfl rfl s.dead_form rfl fun h => nomatch h

theorem islandSupplyLoss_good (s : State) : Good .islandSupplyLoss s (exec .islandSupplyLoss s) := by
  refine .of_next rfl ?_ fun _ _ h => nomatch h
  split
  · exact .of_powered rfl rfl rfl s.dead_form rfl fun h => nomatch h
  · exact .refl _ s

theorem chipRefLoss_good (s : State) : Good .chipRefLoss s (exec .chipRefLoss s) := by
  refine .of_next rfl ?_ fun _ _ h => nomatch h
  split
  · exact .of_only { s.ctl with chipRef := false, refLost := true } (.refl _) fun h => ⟨h, CpxState.moves_refl _, .inl rfl⟩
  · exact .refl _ s

theorem chipRefReturn_good (s : State) : Good .chipRefReturn s (exec .chipRefReturn s) := by
  refine .of_next rfl ?_ fun ha _ _ => if_neg (by simp [(s.awake_iff.mp ha).2])
  split
  · exact .of_only { s.ctl with chipRef := true } (.refl _) fun h => ⟨h, CpxState.moves_refl _, .inl rfl⟩
  · exact .refl _ s

theorem p9ChipReset_good (s : State) : Good .p9ChipReset s (exec .p9ChipReset s) := by
  rw [show exec .p9ChipReset s = execP9ChipReset s from rfl]
  unfold execP9ChipReset
  split
  · exact .of_next rfl (.refl _ s) fun _ _ h => nomatch h
  · split
    · rename_i hoff
      refine ⟨fun _ h => (nomatch h), fun _ h => (nomatch h), fun h => ?_, fun _ h => (nomatch h), fun _ _ h => nomatch h⟩
      simp [h] at hoff
    · refine .of_next rfl (.of_powered rfl rfl rfl (fun h => ?_) rfl fun _ => rfl) fun _ _ h => nomatch h
      rw [Memory.wf_iff] at h ⊢
      exact ⟨rfl, rfl, h.2.2.1, h.2.2.2⟩

/-! The steps of a start-up and the resets. -/

/-- A change of the complex state's other flags is coherent where it was. -/
theorem Lawful.of_flags {i : Instr} {s t : State} (c : Ctl) (h : State.Only { s with ctl := c } t)
    (hc : c.state = s.ctl.state ∧ c.mode = s.ctl.mode ∧ c.switching = s.ctl.switching ∧ c.lockFrom = s.ctl.lockFrom) :
    Lawful i s t := by
  obtain ⟨hstate, hmode, hsw, hlock⟩ := hc
  refine .of_only c h fun hs => ⟨?_, ?_, .inl hmode⟩
  · rw [Ctl.coherent_iff] at hs ⊢
    rwa [hstate, hmode, hsw, hlock]
  · rw [hstate]
    exact CpxState.moves_refl _

/-- A command of ACLK whose action asks for a state other than LOCKED. -/
theorem State.aclk_unlocked {i : Instr} {s : State} {c : Prop} [Decidable c] {g : State → State} (hc : c → s.ctl.state ≠ .locked)
    (hg : c → Lawful i s (g s)) : Good i s (s.aclk fun _ => if c then g s else s) := by
  refine State.aclk_good (fun _ => ?_) fun hl _ => if_neg fun h => hc h hl
  split
  · exact hg ‹_›
  · exact .refl i s

theorem pllLock_good (s : State) : Good .pllLock s (exec .pllLock s) := by
  refine State.aclk_good (fun _ => ?_) fun hl _ => by simp [hl]
  split
  · exact .of_flags { s.ctl with pll := true } (.dev _ _) ⟨rfl, rfl, rfl, rfl⟩
  · exact .refl _ s

theorem pllUnlock_good (s : State) : Good .pllUnlock s (exec .pllUnlock s) := by
  refine State.aclk_good (fun _ => ?_) fun hl _ => by simp [hl]
  split
  · exact .of_flags { s.ctl with pll := false } (.dev _ _) ⟨rfl, rfl, rfl, rfl⟩
  · exact .refl _ s

theorem compositorBoot_good (s : State) : Good .compositorBoot s (exec .compositorBoot s) := by
  refine State.aclk_good (fun _ => ?_) fun hl _ => by simp [hl]
  split
  · rename_i h
    refine .of_only { s.ctl with state := .imageLoad } (.dev _ _) fun hs => ⟨?_, ?_, .inl rfl⟩
    · rw [Ctl.coherent_iff] at hs ⊢
      simp_all
    · rw [h.1]
      rfl
  · exact .refl _ s

theorem bootRetry_good (s : State) : Good .bootRetry s (exec .bootRetry s) := by
  refine State.aclk_good (fun _ => ?_) fun hl _ => by simp [hl]
  split
  · rename_i h
    dsimp only
    split
    · exact (State.complexReset_lawful _ s 4).trans_only (.dev _ _)
    · refine ⟨rfl, fun hs => ?_, fun hs => ?_, fun _ => CpxState.moves_refl _, fun _ => .inl rfl, fun _ => rfl, fun _ => rfl,
        fun hp => absurd h.1 hp⟩
      · rw [Memory.wf_iff] at hs ⊢
        exact ⟨rfl, rfl, hs.2.2.1, hs.2.2.2⟩
      · rw [Ctl.coherent_iff] at hs ⊢
        exact hs
  · exact .refl _ s

theorem complexReset_good (s : State) : Good .complexReset s (exec .complexReset s) := by
  rw [show exec .complexReset s = execComplexReset s from rfl, execComplexReset]
  refine State.core_good fun _ => ?_
  split
  · exact s.complexReset_lawful _ _
  · exact .refl _ s

theorem imageLoadComplete_good (a b : Option Nat) (s : State) : Good (.imageLoadComplete a b) s (exec (.imageLoadComplete a b) s) :=
  State.core_only _ s (.ite (.dev _ _) (.refl s))

theorem readyEntry_good (ms : Nat) (s : State) : Good (.readyEntry ms) s (exec (.readyEntry ms) s) := by
  refine State.core_good fun _ => ?_
  split
  · rename_i h
    refine .of_only { s.ctl with state := .ready } (.dev _ _) fun hs => ⟨?_, ?_, .inl rfl⟩
    · rw [Ctl.coherent_iff] at hs ⊢
      simp_all
    · rw [h.1]
      rfl
  · exact .refl _ s

theorem domainOn_good (k : Nat) (s : State) : Good (.domainOn k) s (exec (.domainOn k) s) := by
  rw [show exec (.domainOn k) s = execDomainOn k s from rfl, execDomainOn]
  split
  · refine State.aclk_good (fun _ => ?_) fun hl _ => by simp [hl]
    split
    · exact .of_flags { s.ctl with d34 := true } (.dev _ _) ⟨rfl, rfl, rfl, rfl⟩
    · exact .refl _ s
  · refine State.core_only _ s ?_
    dsimp only
    refine .ite ?_ (.dev _ _)
    have hn : State.Only s { s with dev := s.dev.domainOn k } := .dev _ _
    exact hn.trans ((State.Only.ite (State.domain33_only _) (.refl _)).trans (State.ecoSettled_only _))

theorem domainOff_good (k : Nat) (s : State) : Good (.domainOff k) s (exec (.domainOff k) s) :=
  State.core_only (g := fun s => if k = 33 then ({ s with dev := s.dev.domainOff k } :
    State).ecoSettled else { s with dev := s.dev.domainOff k }) _ s (.ite (.of_dev (State.ecoSettled_only _)) (.dev _ _))

/-! Mode switches, SAFE. -/

theorem modeSwitchCommit_good (s : State) : Good .modeSwitchCommit s (exec .modeSwitchCommit s) := by
  refine State.core_good fun hclk => ?_
  obtain ⟨_, _, hlive⟩ := s.clocked_iff.mp hclk
  unfold State.modeCommit
  split
  · rename_i m hm
    split
    · exact .refl _ s
    · split
      · refine .of_only { s.ctl with switching := none } (.of_dev (State.replyWaits_only _ _ _ _ _)) fun hs =>
          ⟨?_, CpxState.moves_refl _, .inl rfl⟩
        rw [Ctl.coherent_iff] at hs ⊢
        simp_all
      · refine .of_only ((CtlOp.mode m).apply s.ctl) (.of_dev (State.replyWaits_only _ _ _ _ _)) fun hs =>
          ⟨?_, ?_, .inr (.inr (.inl rfl))⟩
        · refine Ctl.coherent_running hs fun hl => ?_
          simp [Ctl.live, hl] at hlive
        · refine Ctl.moves_running (.inr (.inl ?_))
          rw [Ctl.coherent_iff] at hs
          obtain ⟨_, _, _, hsw⟩ := hs
          rcases hsw with h | h | h
          · simp [hm] at h
          · exact h
          · simp [Ctl.live, h] at hlive
  · exact .refl _ s

theorem startModeSwitch_good (s : State) : Good .startModeSwitch s (exec .startModeSwitch s) := by
  refine State.core_good fun hclk => ?_
  unfold State.startSwitch
  split
  · rename_i m hm
    split
    · exact .refl _ s
    · rename_i h
      have hready : s.ctl.state = .ready := by
        by_contra hne
        exact h (.inl hne)
      dsimp only
      split
      · refine .of_only ((CtlOp.mode m).apply s.ctl) (.dev _ _) fun hs => ⟨?_, ?_, .inr (.inr (.inr (.inl rfl)))⟩
        · exact Ctl.coherent_running hs (by simp [hready])
        · exact Ctl.moves_running (.inl hready)
      · exact (State.Only.dev _ _).lawful _
  · exact .refl _ s

theorem safeEntry_good (s : State) : Good .safeEntry s (exec .safeEntry s) := by
  refine State.core_good fun _ => ?_
  split
  · rename_i h
    have hab := s.modeAbandon_only
    refine .of_only { s.modeAbandon.ctl with state := .safe } ?_ fun hs => ⟨?_, ?_, .inl ?_⟩
    · exact ⟨rfl, hab.pending, hab.cmd, hab.flash, hab.impression, hab.reply⟩
    · rw [Ctl.coherent_iff] at hs ⊢
      rw [hab.ctl]
      rcases h.2 with hst | hst <;> simp_all
    · rcases h.2 with hst | hst <;> rw [hst] <;> rfl
    · rw [hab.ctl]
  · exact .refl _ s

theorem safeExit_good (s : State) : Good .safeExit s (exec .safeExit s) := by
  refine State.core_good fun _ => ?_
  split
  · rename_i h
    split
    · exact (State.Only.dev _ _).lawful _
    · refine .of_only { s.ctl with state := if s.ctl.mode.isSome then .running else .ready } (.dev _ _) fun hs => ⟨?_, ?_, .inl rfl⟩
      · rw [Ctl.coherent_iff] at hs ⊢
        split <;> simp_all
      · rw [h.1]
        split <;> rfl
  · exact .refl _ s

/-! Lock-up and its release. -/

theorem lockupEntry_good (s : State) : Good .lockupEntry s (exec .lockupEntry s) := by
  rw [show exec .lockupEntry s = execLockupEntry s from rfl, execLockupEntry]
  refine State.aclk_good (fun _ => ?_) fun hl _ => ?_
  · split
    · exact .refl _ s
    · split
      · exact .refl _ s
      · rename_i h
        refine .of_only { s.ctl with lockFrom := some (s.ctl.state.code, s.ctl.modeCode, _), state := .locked } (.dev _ _) fun hs =>
          ⟨?_, ?_, .inl rfl⟩
        · rw [Ctl.coherent_iff] at hs ⊢
          simp_all
        · cases s.ctl.state <;> rfl
  · split
    · rfl
    · exact if_pos hl

theorem cellsOf_rising (l : List Byte) : ∀ a n, n ≤ a → Tab.risingFrom (cellsOf a l) n = true := by
  induction l with
  | nil => intro a n h; rfl
  | cons b l ih =>
    intro a n h
    unfold cellsOf
    split
    · exact ih _ _ (by omega)
    · simp [Tab.risingFrom, h, ih (a + 1) (a + 1) (Nat.le_refl _)]

theorem cellsOf_nonzero (l : List Byte) : ∀ a, (cellsOf a l).all (fun p => decide (p.2 ≠ 0)) = true := by
  induction l with
  | nil => intro a; rfl
  | cons b l ih =>
    intro a
    unfold cellsOf
    split
    · exact ih _
    · rename_i hb
      simp only [List.all_cons, Bool.and_eq_true]
      exact ⟨by simpa using hb, ih _⟩

/-- The cells of a list of bytes are in canonical form. -/
theorem cellsOf_wf (a : Nat) (l : List Byte) : Tab.wf (cellsOf a l) 0 = true := by
  have h := cellsOf_nonzero l a
  simp only [Tab.wf, Bool.and_eq_true]
  exact ⟨cellsOf_rising l a 0 (Nat.zero_le _), h⟩

theorem captureComplete_good (s : State) : Good .captureComplete s (exec .captureComplete s) := by
  refine State.aclk_good (fun _ => ?_) fun _ h => nomatch h
  split
  · refine ⟨rfl, fun hs => ?_, fun hs => hs, fun _ => CpxState.moves_refl _, fun _ => .inl rfl, fun _ => rfl, fun h => (nomatch h),
      fun _ _ => rfl⟩
    rw [Memory.wf_iff] at hs ⊢
    exact ⟨hs.1, hs.2.1, hs.2.2.1, cellsOf_wf _ _⟩
  · exact .refl _ s

/-- A request for a release changes nothing else. -/
theorem State.askRelease_lawful (i : Instr) (s : State) : Lawful i s s.askRelease := by
  unfold State.askRelease
  split
  · exact .of_flags { s.ctl with release := true } (.refl _) ⟨rfl, rfl, rfl, rfl⟩
  · exact .refl i s

theorem autoRelease_good (s : State) : Good .autoRelease s (exec .autoRelease s) := by
  rw [show exec .autoRelease s = execAutoRelease s from rfl, execAutoRelease]
  refine State.aclk_good (fun _ => ?_) fun _ h => nomatch h
  split
  · exact .refl _ s
  · exact s.askRelease_lawful _

theorem lockupRelease_good (s : State) : Good .lockupRelease s (exec .lockupRelease s) := by
  refine State.aclk_good (fun _ => ?_) fun _ h => nomatch h
  split
  · exact (State.Only.dev s s.dev.unlock).then_lawful (State.complexReset_lawful _ _ 3)
  · exact .refl _ s

theorem State.trigger_only (s : State) (en : Fld) (cause : Nat) : State.Only s (s.trigger en cause) := .ite (.dev _ _) (.refl s)

theorem State.trigger_locked {s : State} (h : s.ctl.state = .locked) (en : Fld) (cause : Nat) : s.trigger en cause = s :=
  if_neg fun hc => hc.1 h

theorem lockupReq_good (b : Bool) (s : State) : Good (.lockupReq b) s (exec (.lockupReq b) s) := by
  refine State.aclk_good (fun _ => State.Only.lawful ?_ _) fun _ h => nomatch h
  dsimp only
  refine .ite (.ite (.of_dev (State.trigger_only _ _ _)) (.dev _ _)) (.refl s)

theorem imprData_good (a : Option Nat) (s : State) : Good (.imprData a) s (exec (.imprData a) s) := by
  rw [show exec (.imprData a) s = execImprData a s from rfl, execImprData]
  exact State.aclk_good (fun _ => (State.Only.dev _ _).lawful _) fun _ h => nomatch h

end Sys2Proof.Machine
end

section
/-!
SUPPORT. The commands that act on flash, on the mode in force and on registers; with them every command's answer is good.
-/
namespace Sys2Proof.Machine
open F

theorem Lawful.flash_form {i : Instr} {s t : State} {l : List FlashOp} (hi : writesFlash i = true) (hctl : t.ctl = s.ctl)
    (hpend : t.pending = s.pending) (hmem : t.mem = { s.mem with flash := flashDo s.mem.flash l }) : Lawful i s t where
  pending := hpend
  form hs := by
    rw [Memory.wf_iff] at hs ⊢
    rw [hmem]
    exact ⟨hs.1, hs.2.1, flashDo_wf _ _ hs.2.2.1, hs.2.2.2⟩
  coherent hs := hctl ▸ hs
  moves _ := hctl ▸ CpxState.moves_refl _
  mode _ := .inl (by rw [hctl])
  flash h := Bool.noConfusion (hi.symm.trans h)
  impression _ := by rw [hmem]
  cmd _ _ := by rw [hmem]

/-- The replies that follow a commit. -/
theorem State.commit_tail {i : Instr} {s n : State} {p : Pkt} {t : Ticket} {x : Done} (hdry : p.dryRun = false)
    (hn : n = { s with ctl := x.ctl.apply s.ctl, dev := x.dev, mem := { s.mem with flash := flashDo s.mem.flash x.flash } })
    (h : Lawful i s n) : Lawful i s (s.commit p t x) := by
  unfold State.commit
  simp only [hdry, ← hn]
  have hrel : State.Only n (if x.release.isEmpty then n else n.replyWaits x.release.contains) :=
    .ite (.refl n) (n.replyWaits_only _ 0 0 _)
  simp only [Bool.false_eq_true, if_false]
  generalize (if x.release.isEmpty then n else n.replyWaits x.release.contains) = m at hrel ⊢
  split
  · exact h.trans_only (hrel.trans (State.reply_only _ _ _ _ _))
  · exact h.trans_only (hrel.trans (.dev _ _))

/-- A row whose effects may act on flash, of a command that writes it. -/
theorem State.kiland_flash {i : Instr} (s : State) {k : KSpec} (p : Pkt) (hi : writesFlash i = true)
    (hk : ∀ c d x, k.run c p d = .ok x → x.ctl = .keep) : Good i s (s.kiland k p) := by
  refine State.core_good fun _ => ?_
  rcases s.execute_cases k p with h | ⟨n, t, x, hn, _, hrun, he⟩
  · exact h.lawful i
  · rw [he]
    have hctl := hk _ _ _ hrun
    by_cases hdry : p.dryRun = true
    · rw [State.commit, if_pos hdry]
      exact (hn.trans ((State.reply_only _ _ _ _ _).trans (State.lastReply_only _ _))).lawful i
    · refine hn.then_lawful (Lawful.trans_only ?_ (State.lastReply_only _ _))
      exact State.commit_tail (by simpa using hdry) rfl (.flash_form (l := x.flash) hi (by rw [hctl]; rfl) rfl rfl)

/-- A row keeps the complex state. -/
def keepsCtl (r : Except Ref Done) : Prop := ∀ x, r = .ok x → x.ctl = .keep

theorem keepsCtl_error (e : Ref) : keepsCtl (.error e) := fun _ h => nomatch h
theorem keepsCtl_ok {x : Done} (h : x.ctl = .keep) : keepsCtl (.ok x) := fun y hy => by cases hy; exact h
theorem keepsCtl_ite {c : Prop} [Decidable c] {a b : Except Ref Done} (ha : keepsCtl a) (hb : keepsCtl b) :
    keepsCtl (if c then a else b) := by split <;> assumption

theorem imageWriteBegin_good (p : Pkt) (s : State) : Good (.imageWriteBegin p) s (exec (.imageWriteBegin p) s) := by
  refine State.kiland_flash s (k := kImageWriteBegin) p rfl fun c d => ?_
  refine keepsCtl_ite (keepsCtl_ite (keepsCtl_error _) (keepsCtl_ite (keepsCtl_error _) (keepsCtl_ite (keepsCtl_error _) ?_)))
    (keepsCtl_error _)
  exact keepsCtl_ok rfl

theorem imageWriteData_good (p : Pkt) (s : State) : Good (.imageWriteData p) s (exec (.imageWriteData p) s) := by
  refine State.kiland_flash s (k := kImageWriteData) p rfl fun c d => ?_
  refine keepsCtl_ite ?_ (keepsCtl_error _)
  split
  · exact keepsCtl_error _
  · exact keepsCtl_ite (keepsCtl_error _) (keepsCtl_ite (keepsCtl_ok rfl) (keepsCtl_ok rfl))

theorem imageWriteEnd_good (p : Pkt) (s : State) : Good (.imageWriteEnd p) s (exec (.imageWriteEnd p) s) := by
  refine State.kiland_flash s (k := kImageWriteEnd) p rfl fun c d => ?_
  refine keepsCtl_ite ?_ (keepsCtl_error _)
  split
  · exact keepsCtl_error _
  · exact keepsCtl_ite (keepsCtl_error _) (keepsCtl_ok rfl)

/-- What MODE_SET may leave: flash alone, and the complex as it is, in the mode asked for, or in its wakes while RUNNING. -/
def modeResult (c : Cx) (r : Except Ref Done) : Prop :=
  ∀ x, r = .ok x → x.flash = [] ∧ (x.ctl = .keep ∨ (∃ m, x.ctl = .mode m) ∨ (c.ctl.state = .running ∧ ∃ m, x.ctl = .wakes m))

theorem kModeSet_result (c : Cx) (p : Pkt) (d : Dev) : modeResult c (kModeSet.run c p d) := by
  intro x hx
  simp only [kModeSet, kspec] at hx
  generalize hcur : (if c.ctl.state = .running then c.ctl.mode else none) = cur at hx
  split at hx
  · cases hx
  · rename_i m hm
    split at hx
    · cases hx
      exact ⟨rfl, .inl rfl⟩
    · split at hx
      · cases hx
      · split at hx
        · rename_i heco
          cases hx
          refine ⟨rfl, .inr (.inr ⟨?_, m, rfl⟩)⟩
          by_contra hne
          rw [if_neg hne] at hcur
          exact Option.some_ne_none _ (heco.1.symm.trans hcur.symm)
        · cases hx
          have hflash : ∀ (b : Prop) [Decidable b] (n : Dev), (if b then doneWait n .ecoOff else done n).flash = [] :=
            fun b _ n => by
            split <;> rfl
          exact ⟨hflash _ _, .inr (.inl ⟨m, rfl⟩)⟩

theorem KSpec.legal_of_check {k : KSpec} {c : Cx} {p : Pkt} {d : Dev} (h : k.preCheck c p d = none) :
    k.legalIn c.ctl.state = true := by
  unfold KSpec.preCheck at h
  split at h
  · cases h
  · split at h
    · cases h
    · rename_i hl
      simpa using hl

theorem modeSet_good (p : Pkt) (s : State) : Good (.modeSet p) s (exec (.modeSet p) s) := by
  refine State.core_good (g := fun s => s.execute kModeSet p) fun _ => ?_
  rcases s.execute_cases kModeSet p with h | ⟨n, t, x, hn, hcheck, hrun, he⟩
  · exact h.lawful _
  · have hlegal : n.ctl.state = .ready ∨ n.ctl.state = .running := by
      have h := KSpec.legal_of_check hcheck
      revert h
      show kModeSet.legalIn n.ctl.state = true → _
      cases n.ctl.state <;> decide
    obtain ⟨hflash, hctl⟩ := kModeSet_result _ _ _ _ hrun
    rw [he]
    by_cases hdry : p.dryRun = true
    · rw [State.commit, if_pos hdry]
      exact (hn.trans ((State.reply_only _ _ _ _ _).trans (State.lastReply_only _ _))).lawful _
    · refine hn.then_lawful (Lawful.trans_only ?_ (State.lastReply_only _ _))
      refine State.commit_tail (by simpa using hdry) rfl (.of_only (x.ctl.apply n.ctl) ?_ fun hs => ?_)
      · rw [hflash]
        exact .dev _ _
      · rcases hctl with hc | ⟨m, hc⟩ | ⟨hst, m, hc⟩ <;> rw [hc]
        · exact ⟨hs, CpxState.moves_refl _, .inl rfl⟩
        · refine ⟨Ctl.coherent_running hs ?_, Ctl.moves_running (hlegal.imp_right .inl), .inr (.inr (.inr (.inr ⟨p, rfl⟩)))⟩
          rcases hlegal with h | h <;> simp [h]
        · refine ⟨?_, CpxState.moves_refl _, .inl rfl⟩
          have hst' : n.ctl.state = .running := hst
          rw [Ctl.coherent_iff] at hs ⊢
          simp_all [CtlOp.apply]

/-! Register accesses. -/

theorem State.readAt_only (s : State) (o size : Nat) : State.Only s (s.readAt o size).2 := by
  unfold State.readAt
  split
  · exact .refl s
  · exact .refl s
  · exact .refl s
  · exact .dev _ _

theorem State.read_only (s : State) (a : Agent) (o size : Nat) : State.Only s (s.read a o size) := by
  unfold State.read
  dsimp only
  refine State.Only.trans (t := if badShape o size ∧
    s.detects a then { s with dev := s.dev.accessError (isMgmt a) o size false } else s)
    (.ite (.dev _ _) (.refl s)) ?_
  generalize (if badShape o size ∧ s.detects a then { s with dev := s.dev.accessError (isMgmt a) o size false } else s) = n
  split
  · exact (n.readAt_only o size).trans (.dev _ _)
  · exact .dev _ _

theorem rcRead_good (a : Agent) (o n : Nat) (s : State) : Good (.rcRead a o n) s (exec (.rcRead a o n) s) :=
  State.aclk_good (fun _ => (State.Only.ite (s.read_only a o n) (.refl s)).lawful _) fun _ h => nomatch h

theorem accessError_good (a : Agent) (o n : Nat) (w : Bool) (s : State) :
    Good (.accessError a o n w) s (exec (.accessError a o n w) s) := by
  refine State.aclk_good (fun _ => State.Only.lawful ?_ _) fun _ h => nomatch h
  dsimp only
  refine .ite ?_ (.refl s)
  have hlatch : State.Only s (if s.detects a then { s with dev := s.dev.accessError (isMgmt a) o n w } else s) :=
    .ite (.dev _ _) (.refl s)
  exact .ite hlatch (hlatch.trans (.dev _ _))

theorem State.mboxGo_only (s : State) : State.Only s s.mboxGo := by
  unfold State.mboxGo
  split
  · exact ⟨rfl, rfl, rfl, rfl, rfl, fun _ => rfl⟩
  · exact ⟨rfl, rfl, rfl, rfl, rfl, fun _ => rfl⟩
  · exact .dev _ _

theorem mboxGo_good (len : Nat) (s : State) : Good (.mboxGo len) s (exec (.mboxGo len) s) := by
  refine State.aclk_good (fun _ => (State.Only.ite (.of_dev (State.mboxGo_only _)) (.refl s)).lawful _) fun hl _ => ?_
  simp [Ctl.mboxServed, Ctl.live, hl]

/-- What a register write leaves of a state: all but the device, the mailbox buffers and a release asked for. -/
structure State.Beside (s t : State) : Prop where
  ctl : t.ctl = { s.ctl with release := t.ctl.release }
  pending : t.pending = s.pending
  flash : t.mem.flash = s.mem.flash
  impression : t.mem.impression = s.mem.impression
  form : Memory.wf s.mem = true → Memory.wf t.mem = true

namespace State.Beside
variable {s t u : State}

theorem of_only (h : State.Only s t) : State.Beside s t := ⟨by rw [h.ctl], h.pending, h.flash, h.impression, h.form⟩

theorem trans (h : State.Beside s t) (k : State.Beside t u) : State.Beside s u :=
  ⟨k.ctl.trans (by rw [h.ctl]), k.pending.trans h.pending, k.flash.trans h.flash, k.impression.trans h.impression,
    fun w => k.form (h.form w)⟩

theorem ite {c : Prop} [Decidable c] (h : State.Beside s t) (k : State.Beside s u) : State.Beside s (if c then t else u) := by
  split <;> assumption

theorem foldl {α : Type} {g : State → α → State} (hg : ∀ s a, State.Beside s (g s a)) (l : List α) (s : State) :
    State.Beside s (l.foldl g s) := by
  induction l generalizing s with
  | nil => exact of_only (.refl s)
  | cons a l ih => exact (hg s a).trans (ih _)

end State.Beside

theorem State.actWrite_beside (a : Agent) (ws : List FldWrite) (s : State) (w : FldWrite) : State.Beside s (s.actWrite a ws w) := by
  have hdev : ∀ d, State.Beside s { s with dev := d } := fun d => .of_only (.dev s d)
  unfold State.actWrite
  refine .ite (hdev _) (.ite (hdev _) (.ite (hdev _) (.ite (hdev _) (.ite (hdev _) (.ite (hdev _)
    (.ite (.of_only s.mboxGo_only) (.ite (hdev _) (.ite (hdev _) (.ite (.of_only (s.trigger_only _ _))
      (.ite ?_ (.ite (hdev _) (.of_only (.refl s)))))))))))))
  unfold State.askRelease
  split
  · exact ⟨rfl, rfl, rfl, rfl, id⟩
  · exact .of_only (.refl s)

theorem State.writeAt_beside (s : State) (a : Agent) (o size data : Nat) : State.Beside s (s.writeAt a o size data) := by
  unfold State.writeAt
  split
  · split
    · exact .of_only (.refl s)
    · refine ⟨rfl, rfl, rfl, rfl, fun hs => ?_⟩
      rw [Memory.wf_iff] at hs ⊢
      exact ⟨putCells_wf _ _ _ _ hs.1, hs.2.1, hs.2.2.1, hs.2.2.2⟩
  · exact .of_only (.refl s)
  · exact .of_only (.refl s)
  · dsimp only
    exact ((State.Beside.of_only (.dev s _)).trans (State.Beside.foldl (State.actWrite_beside a _) _ _)).trans (.of_only (.dev _ _))

theorem State.write_beside (s : State) (a : Agent) (o size data : Nat) : State.Beside s (s.write a o size data) := by
  unfold State.write
  split
  · exact .of_only (.ite (.dev _ _) (.refl s))
  · split
    · exact s.writeAt_beside a o size data
    · exact .of_only (.refl s)

theorem State.Beside.lawful {s t : State} (h : State.Beside s t) (a : Agent) (o n x : Nat) :
    Lawful (.registerWrite a o n x) s t where
  pending := h.pending
  form := h.form
  coherent hs := by
    rw [h.ctl]
    rw [Ctl.coherent_iff] at hs ⊢
    exact hs
  moves _ := by
    rw [h.ctl]
    exact CpxState.moves_refl _
  mode _ := .inl (by rw [h.ctl])
  flash _ := h.flash
  impression _ := h.impression
  cmd _ hi := absurd rfl (hi a o n x)

theorem registerWrite_good (a : Agent) (o n x : Nat) (s : State) :
    Good (.registerWrite a o n x) s (exec (.registerWrite a o n x) s) := by
  refine State.aclk_good (fun _ => State.Beside.lawful ?_ a o n x) fun _ h => nomatch h
  split
  · exact s.write_beside _ _ _ _
  · exact .of_only (.refl s)

/-! The commands of the core clocks that answer others or wait. -/

theorem resetComplete_good (c : Scope) (s : State) : Good (.resetComplete c) s (exec (.resetComplete c) s) := by
  refine State.core_only _ s ?_
  split
  · exact .of_dev (State.replyWaits_only _ _ 0 0 _)
  · exact .refl s

theorem functionResetDone_good (f : Nat) (s : State) : Good (.functionResetDone f) s (exec (.functionResetDone f) s) := by
  refine State.core_only _ s ?_
  split
  · exact .of_dev (State.replyWaits_only _ _ 0 0 _)
  · exact .refl s

theorem txEasyEntryDone_good (p : Nat) (s : State) : Good (.txEasyEntryDone p) s (exec (.txEasyEntryDone p) s) := by
  refine State.core_only _ s ?_
  split
  · exact .of_dev (State.replyWaits_only _ _ 0 0 _)
  · exact .refl s

end Sys2Proof.Machine
end

section
/-! SUPPORT. Every command's answer is good; what a step of the queue does. -/
namespace Sys2Proof.Machine
open F

/-! The gates over the clocked device: by lane, port, class, ring, engine and page. -/

section
variable (i : Instr) (s : State)
theorem State.onLane_good (n : Nat) (g : Dev → Dev) : Good i s (s.onLane n g) := State.onDev_good i s _
theorem State.onPort_good (p : Nat) (g : Dev → Dev) : Good i s (s.onPort p g) := State.onDev_good i s _
theorem State.onAnyPort_good (p : Nat) (g : Dev → Dev) : Good i s (s.onAnyPort p g) := State.onDev_good i s _
theorem State.onClass_good (p c : Nat) (g : Nat → Dev → Dev) : Good i s (s.onClass p c g) := State.onDev_good i s _
theorem State.onHost_good (g : Dev → Dev) : Good i s (s.onHost g) := State.onDev_good i s _
theorem State.onRing_good (r : Nat) (g : Dev → Dev) : Good i s (s.onRing r g) := State.onHost_good i s _
theorem State.onEngine_good (e : Nat) (x : EngOp) : Good i s (s.onEngine e x) := State.onDev_good i s _
theorem State.onPage_good (f : Nat) (g : Dev → Dev) : Good i s (s.onPage f g) := State.onDev_good i s _
end

/-- Every command of the list is good: the rows of Table 107 that are plain, the commands above, and those on the clocked
device alone. -/
theorem exec_good (i : Instr) (s : State) : Good i s (exec i s) := by
  by_cases hi : plainCommand i = true
  · exact exec_plain s hi
  · cases i with
    | modeSet p => exact modeSet_good p s
    | imageWriteBegin p => exact imageWriteBegin_good p s
    | imageWriteData p => exact imageWriteData_good p s
    | imageWriteEnd p => exact imageWriteEnd_good p s
    | complexReset => exact complexReset_good s
    | resetComplete c => exact resetComplete_good c s
    | functionResetDone f => exact functionResetDone_good f s
    | txEasyEntryDone p => exact txEasyEntryDone_good p s
    | modeSwitchCommit => exact modeSwitchCommit_good s
    | startModeSwitch => exact startModeSwitch_good s
    | commandWaitEnd n => exact State.core_only (g := fun s => s.waitEnd n) _ s (s.waitEnd_only n)
    | kilLen n => exact State.core_only (g := fun s => s.lenRefused n) _ s (s.lenRefused_only n)
    | commandPacketRefused n b => exact State.core_only (g := fun s =>
      s.packetRefused listedOpcodes n b) _ s (s.packetRefused_only _ n b)
    | barrier p => exact State.core_only (g := fun s => s.barrierRun p) _ s (s.barrierRun_only p)
    | registerWrite a o n x => exact registerWrite_good a o n x s
    | rcRead a o n => exact rcRead_good a o n s
    | accessError a o n w => exact accessError_good a o n w s
    | mboxGo n => exact mboxGo_good n s
    | lckSideTrigger => exact State.aclk_good (fun _ => (s.trigger_only _ _).lawful _) fun hl _ => s.trigger_locked hl _ _
    | imprTrigger => exact State.aclk_good (fun _ => (s.trigger_only _ _).lawful _) fun hl _ => s.trigger_locked hl _ _
    | lckSideRelease => exact State.aclk_good (fun _ => s.askRelease_lawful _) fun _ h => nomatch h
    | imprRelease => exact State.aclk_good (fun _ => s.askRelease_lawful _) fun _ h => nomatch h
    | lckSideClear => unfold exec; exact State.onIsland_good s _ rfl
    | imprClear => unfold exec; exact State.onIsland_good s _ rfl
    | imprData a => exact imprData_good a s
    | islandPowerOn => exact islandPowerOn_good s
    | islandSupplyLoss => exact islandSupplyLoss_good s
    | p9ChipReset => exact p9ChipReset_good s
    | chipRefLoss => exact chipRefLoss_good s
    | chipRefReturn => exact chipRefReturn_good s
    | pllLock => exact pllLock_good s
    | pllUnlock => exact pllUnlock_good s
    | compositorBoot => exact compositorBoot_good s
    | bootRetry => exact bootRetry_good s
    | imageLoadComplete a b => exact imageLoadComplete_good a b s
    | readyEntry n => exact readyEntry_good n s
    | fwHeartbeat => exact State.core_only (g := fun s => s) _ s (.refl s)
    | domainOn k => exact domainOn_good k s
    | domainOff k => exact domainOff_good k s
    | refWindowEnd e n => unfold exec; exact State.onIsland_good s _ rfl
    | modPrsChange e b => unfold exec; exact State.onIsland_good s _ rfl
    | modIntChange e b => unfold exec; exact State.onIsland_good s _ rfl
    | cpxWake b => unfold exec; exact State.onIsland_good s _ rfl
    | lockupReq b => exact lockupReq_good b s
    | sidebandGlitch n => unfold exec; exact State.onIsland_good s _ rfl
    | sidebandLatchEdge n => unfold exec; exact State.onIsland_good s _ rfl
    | filterClockStop n => unfold exec; exact State.onIsland_good s _ rfl
    | safeEntry => exact safeEntry_good s
    | safeExit => exact safeExit_good s
    | lockupEntry => exact lockupEntry_good s
    | captureComplete => exact captureComplete_good s
    | autoRelease => exact autoRelease_good s
    | lockupRelease => exact lockupRelease_good s
    | cpxPdCtlWrite _ | stepGo _ _ | timebaseStep | slewGo | slewDone | snapGo | engineFifoEntry _
    | prfEngResultRead _ _ | evcPendSet _ | evcPendClr _ | evcTgtClaim _ | evcTgtEoi _ _ _ | evcVecMask _ _
    | ackedWrite | galleyTrainingDone _ | galleyClearDone | fwWatchdog | bankPower _ | domainIdleOff _
    | txPllLocked _ | txPllUnlock _ | rxHeadDecision _ | headHandoff _ _ _ | rxFrameEnd _ | rxRmOverflow _ _
    | aliveJudgement _ _ _ _ | recordAgeWalk | recircLateDiscard _ | scrubVisit _ _ _ _ | scrubPassDone
    | extentSwap _ | queueArrive _ _ _ _ | queueFront _ _ _ _ | queueDrop _ _ _ _ | shaperRefill _ | policerRefill _
    | ageingWalk | telemetryWalk | stampMove | sourceEvent _ _ | coalTimerExpiry _ | routeCommit | faultReaction
    | galleyChannelError _ | patternCheckerLock _ | patternCheckerLost _ _ _ =>
      dsimp only [exec]
      exact State.onDev_good _ s _
    | inject _ | losAssert _ | losDeassert _ | cdrLock _ | cdrUnlock _ | rxPpmUpdate _ _ | trainingFrame _ _
    | trainingLockLoss _ | eyeMeasurement _ _ | peakTrackStep _ _ | commaBlock _ _ =>
      dsimp only [exec]
      exact State.onLane_good _ s _ _
    | attnSendDone _ | wakeWaitExpiry _ | quietPeriodEnd _ | clause73Complete _ _ | detectTimeout _ | trainTimeout _
    | codingTxStart _ | rosterTimeout _ | codewordReceived _ _ _ | alignLossTimeout _ | hiserWindowEnd _
    | easyExpectLapse _ | wakeTimeout _ | rxPauseTimerLoad _ | rxPauseTimerExpiry _ _ | xoffFallReport _ _
    | fcRefreshExpiry _ | controlFrameSend _ | txUnderrun _ | gateEntryBoundary _ | switchGuardStart _ | gateSwitch _ =>
      dsimp only [exec]
      exact State.onPort_good _ s _ _
    | coxDecision _ | txFrameStart _ | txFrameEnd _ _ _ =>
      dsimp only [exec]
      exact State.onAnyPort_good _ s _ _
    | occupancyReport _ _ _ | reportStale _ _ | galleyAgeCheck _ _ | windowCutoff _ _ =>
      dsimp only [exec]
      exact State.onClass_good _ s _ _ _
    | hostTxHandoff | hostRxFrame _ _ | hostRxDeliver _ | starveTimeout _ =>
      dsimp only [exec]
      exact State.onHost_good _ s _
    | indexLineReadDone _ _ | descriptorFetchDone _ _ | descriptorRetry _ _ | publishTimer _ | recordPost _
    | recordRingPoll _ | hostReadFault _ =>
      dsimp only [exec]
      exact State.onRing_good _ s _ _
    | prfEngCfg _ _ _ | preset _ _ _ | start _ | prfEngFeedB _ _ | prfEngFeedH _ _ | prfEngFeedW _ _ =>
      dsimp only [exec]
      exact State.onEngine_good _ s _ _
    | doorbell _ _ | doorbellFence _ _ _ | hpePageReset _ | functionLevelReset _ =>
      dsimp only [exec]
      exact State.onPage_good _ s _ _
    | attentionDeclared _ _ =>
      dsimp only [exec]
      exact State.onLane_good _ s _ _
    | galleyRelease _ _ _ =>
      dsimp only [exec]
      exact State.onPort_good _ s _ _
    | txQueueService _ =>
      dsimp only [exec]
      exact State.onHost_good _ s _
    | mirrorRefresh _ _ _ =>
      dsimp only [exec]
      exact State.onDev_good _ s _
    | _ => exact absurd rfl hi

theorem step_cons {c : Instr} {l : List Instr} {s : State} (h : s.pending = c :: l) : step s = exec c { s with pending := l } := by
  unfold step
  rw [h]

theorem step_nil {s : State} (h : s.pending = []) : step s = s.idle := by
  unfold step
  rw [h]

/-- A tick leaves all but the device alone. -/
theorem State.idle_only {s t : State} (h : s.idle = .next t) : State.Only s t := by
  unfold State.idle at h
  cases h
  exact .ite (.dev _ _) (.refl s)

/-- A step of the queue keeps what every command's step and every tick keep. -/
theorem step_keeps {P : State → Prop} (hq : ∀ s l, P { s with pending := l } ↔ P s) (hlaw : ∀ i s t, Lawful i s t → P s → P t)
    {s t : State} (hs : P s) (h : step s = .next t) : P t := by
  cases hp : s.pending with
  | nil => exact hlaw .fwHeartbeat s t ((State.idle_only ((step_nil hp).symm.trans h)).lawful _) hs
  | cons c l =>
    rw [step_cons hp] at h
    exact hlaw c _ t ((exec_good c _).kept t h) ((hq s l).mpr hs)

/-- In LOCKED an agent other than the side path is served nowhere, and no error of its accesses is detected. -/
theorem State.served_locked {s : State} {a : Agent} (hs : s.ctl.state = .locked) (ha : a ≠ .side) (o : Nat) :
    s.served a o = false ∧ s.detects a = false := by
  refine ⟨?_, by simp [State.detects, Ctl.live, hs]⟩
  cases a <;> simp_all [State.served]

end Sys2Proof.Machine

open Sys2Proof Sys2Proof.Machine in
/-- Settles O14: a command of ACLK or of the core clocks stops, and so does a chip reset without CHIP_REF. -/
theorem chipRefAbsentStops : Obligations.ChipRefAbsentStops := by
  intro i s hlost
  refine ⟨fun hon hoff hchip hloss hret => (exec_good i s).stops hlost ?_, ?_⟩
  · cases i with
    | islandPowerOn => exact absurd rfl hon
    | islandSupplyLoss => exact absurd rfl hoff
    | p9ChipReset => exact absurd rfl hchip
    | chipRefLoss => exact absurd rfl hloss
    | chipRefReturn => exact absurd rfl hret
    | _ => rfl
  · rintro rfl hsup href
    simp [exec, execP9ChipReset, hsup, href]

open Sys2Proof Sys2Proof.Machine in
/-- Settles O39: every gate has a next state while CHIP_REF runs, and no command is refused. -/
theorem everyCommandCompletes : Obligations.EveryCommandCompletes := by
  refine ⟨fun i s href hlost => ?_, fun i s => (exec_good i s).known⟩
  obtain ⟨t, ht⟩ := (exec_good i s).completes href hlost
  exact ⟨t, ht, ((exec_good i s).kept t ht).pending⟩

open Sys2Proof Sys2Proof.Machine in
/-- Settles O43: every command's step is lawful. -/
theorem complexStateMoves : Obligations.ComplexStateMoves := by
  intro i s t hcoh ht
  have h := (exec_good i s).kept t ht
  exact ⟨h.moves hcoh, h.mode hcoh⟩

open Sys2Proof Sys2Proof.Machine in
/-- Settles O45: every command's step is lawful. -/
theorem buffersIsolated : Obligations.BuffersIsolated := by
  intro i s t ht
  have h := (exec_good i s).kept t ht
  exact ⟨h.flash, h.impression, h.cmd⟩

open Sys2Proof Sys2Proof.Machine in
/-- Settles O38: both clauses are the equations of a step. -/
theorem stepRunsFrontCommand : Obligations.StepRunsFrontCommand := by
  refine ⟨fun c l s h => step_cons h, fun s h => ?_⟩
  rw [step_nil h]
  refine ⟨fun ha hc => ?_, fun hoff => ?_⟩
  · obtain ⟨hsup, hlost⟩ := s.awake_iff.mp ha
    simp [State.idle, hsup, hlost, hc]
  · have hnot : (s.ctl.supply && !s.ctl.refLost && s.ctl.clocked) = false := by
      rcases hoff with ha | hc
      · rw [show (s.ctl.supply && !s.ctl.refLost) = false from ha, Bool.false_and]
      · rw [hc, Bool.and_false]
    simp [State.idle, hnot]

open Sys2Proof Sys2Proof.Machine in
/-- Settles O40: every command's step keeps the canonical form. -/
theorem memoryFormKept : Obligations.MemoryFormKept :=
  fun _ _ hs h => step_keeps (P := fun s => Memory.wf s.mem = true) (fun _ _ => Iff.rfl) (fun _ _ _ hl => hl.form) hs h

open Sys2Proof Sys2Proof.Machine in
/-- Settles O42: every command's step keeps the complex state coherent. -/
theorem coherenceKept : Obligations.CoherenceKept :=
  fun _ _ hs h => step_keeps (P := fun s => Ctl.coherent s.ctl = true) (fun _ _ => Iff.rfl) (fun _ _ _ hl => hl.coherent) hs h

open Sys2Proof Sys2Proof.Machine in
/-- Settles O44: nothing is served in LOCKED but the side path's few registers. -/
theorem lockedCommandsHeld : Obligations.LockedCommandsHeld := by
  intro s ha hs
  refine ⟨fun i hi => (exec_good i s).held ha hs hi, fun a o n x hside => ?_, fun a o n hside ho => ?_, fun o n x ho hstart => ?_⟩
  · obtain ⟨hserved, hdet⟩ := s.served_locked hs hside o
    rw [show exec (.registerWrite a o n x) s = execRegisterWrite a o n x s from rfl, execRegisterWrite, State.aclk_awake ha]
    simp [State.write, hserved, hdet]
  · obtain ⟨hserved, hdet⟩ := s.served_locked hs hside o
    rw [show exec (.rcRead a o n) s = execRcRead a o n s from rfl, execRcRead, State.aclk_awake ha, if_pos ho]
    simp [State.read, hserved, hdet]
  · have hserved : s.served .side o = false := by
      simp only [State.served, Bool.or_eq_false_iff, Bool.and_eq_false_iff, decide_eq_false_iff_not]
      omega
    rw [show exec (.registerWrite .side o n x) s = execRegisterWrite .side o n x s from rfl, execRegisterWrite, State.aclk_awake ha]
    simp [State.write, hserved, State.detects]

open Sys2Proof Sys2Proof.Machine Sys2Proof.Machine.F in
/-- Settles O41: every clause is read off the state before power. -/
theorem resetHolds : Obligations.ResetHolds :=
  ⟨rfl, rfl, rfl, rfl, fun _ _ => rfl, fun _ => rfl, fun _ => ⟨rfl, rfl, rfl⟩, rfl, rfl⟩

open Sys2Proof Sys2Proof.Machine in
/-- Settles O47: an access that is not served reads 0; where the complex serves one is a question of its state. -/
theorem servedOffsets : Obligations.ServedOffsets := by
  intro s o ho
  refine ⟨fun n a ha hserved hshape => ?_, ?_, fun a hside =>
    ⟨fun hs => (s.served_locked hs hside o).1, fun hs => ?_, fun hlive => ?_⟩⟩
  · rw [show exec (.rcRead a o n) s = execRcRead a o n s from rfl, execRcRead, State.aclk_awake ha, if_pos ho]
    simp [State.read, hserved, hshape]
  · simp [State.served]
  · cases a <;> simp_all [State.served, mboxOffset] <;> tauto
  · have hst : s.ctl.state ≠ .locked ∧ s.ctl.state ≠ .powered := by
      constructor <;> intro h <;> simp [Ctl.live, h] at hlive
    have hserved : s.served a o = (!(decide (0x2C00000 ≤ o) && decide (o < 0x2C40000)) || s.dev.pdOn 33) := by
      cases a <;> cases hs : s.ctl.state <;> simp_all [State.served]
    rw [hserved]
    simp only [Bool.or_eq_true, Bool.not_eq_true', Bool.and_eq_false_iff, decide_eq_false_iff_not, not_and_or]
end

section
/-!
SUPPORT. Configuration fields and register writes (R9): outside SERVICE and IMAGE_LOAD every field a write may change is a
status or run-time field. `cfgMask` has a bit for the number of each configuration field.
-/
namespace Sys2Proof.Machine
open F

def cfgMask : Nat :=
  0x400000001fc01e0e000000000000000000060003fe0000f01e000060043ff8000007ffdff800003000000201e00000080ffffc07f0300001c007c0000000fffffff80300c0000000000003fe000ff00000000007c08c8003fc07c00090000

theorem cfgMask_all : (allFlds.all fun F => cfgMask.testBit F.id == F.cfg) = true := by decide +kernel

theorem cfgMask_spec {F : Fld} (h : F ∈ allFlds) : cfgMask.testBit F.id = F.cfg :=
  beq_iff_eq.mp (List.all_eq_true.mp cfgMask_all F h)

/-- Every configuration field reads the same. -/
def Dev.CfgKept (d e : Dev) : Prop := ∀ G j, cfgMask.testBit G.id = true → e.get G j = d.get G j

namespace Dev.CfgKept
variable {d e g : Dev}

theorem refl (d : Dev) : Dev.CfgKept d d := fun _ _ _ => rfl
theorem trans (h : Dev.CfgKept d e) (k : Dev.CfgKept e g) : Dev.CfgKept d g := fun G j hG => (k G j hG).trans (h G j hG)
theorem other (h : e.f = d.f) : Dev.CfgKept d e := fun _ j _ => by simp only [Dev.get, h]

theorem put {F : Fld} {i v : Nat} (hF : cfgMask.testBit F.id = false) : Dev.CfgKept d (d.put F i v) := fun _ j hG =>
  d.get_put_id i j v fun he => Bool.noConfusion ((he ▸ hF).symm.trans hG)

theorem puts {i : Nat} {l : List (Fld × Nat)} (hl : (l.all fun p => !cfgMask.testBit p.1.id) = true) :
    Dev.CfgKept d (d.puts i l) := fun _ j hG => d.get_puts_id i j l fun p hp he => by
  have hp' := List.all_eq_true.mp hl p hp
  rw [he, hG] at hp'
  exact Bool.noConfusion hp'

theorem ite {c : Prop} [Decidable c] (h : Dev.CfgKept d e) (k : Dev.CfgKept d g) : Dev.CfgKept d (if c then e else g) := by
  split <;> assumption

theorem foldl {α : Type} {l : List α} {g : Dev → α → Dev} (hg : ∀ x a, a ∈ l → Dev.CfgKept x (g x a)) :
    Dev.CfgKept d (l.foldl g d) := by
  induction l generalizing d with
  | nil => exact refl d
  | cons a l ih => exact (hg d a List.mem_cons_self).trans (ih fun x b hb => hg x b (List.mem_cons_of_mem _ hb))

/-- What changes only fields of a list that holds no configuration field. -/
theorem of_keeps {S : List Nat} (hS : (S.all fun i => !cfgMask.testBit i) = true) (h : Dev.keeps S d e) : Dev.CfgKept d e :=
  fun G j hG => h G j fun hmem => by
    have hi := List.all_eq_true.mp hS G.id hmem
    rw [hG] at hi
    exact Bool.noConfusion hi

end Dev.CfgKept

theorem evcIds_status : (evcIds.all fun i => !cfgMask.testBit i) = true := by decide +kernel

theorem Dev.Evc.cfgKept {d e : Dev} (h : Dev.Evc d e) : Dev.CfgKept d e := .of_keeps evcIds_status h.keeps

/-! The operations a register write starts. -/

theorem Dev.engDo_cfgKept (d : Dev) (e : Nat) (x : EngOp) : Dev.CfgKept d (d.engDo e x) := by
  cases x with
  | feed n data => exact .put (by decide)
  | cfg v =>
    have hputs : Dev.CfgKept d (d.puts e [(PRF_ENG_CFG.WIDTH, clampTo (bitsOf v 0 7) 1 64), (PRF_ENG_CFG.REFIN, bitsOf v 8 1),
      (PRF_ENG_CFG.REFOUT, bitsOf v 9 1)]) := .puts (by simp only [List.all_cons, List.all_nil]; rfl)
    simp only [Dev.engDo]
    split
    · exact hputs.trans (.puts (by simp only [List.all_cons, List.all_nil]; rfl))
    · exact hputs.trans (.puts (by simp only [List.all_cons, List.all_nil]; rfl))
    · exact hputs
  | poly v => exact .put (by decide)
  | init v => exact .put (by decide)
  | xorout v => exact .put (by decide)
  | start => exact .put (by decide)
  | none => exact .refl d

theorem Dev.engPush_cfgKept (d : Dev) (e : Nat) (x : EngOp) : Dev.CfgKept d (d.engPush e x) := by
  have hstep : Dev.CfgKept d (d.engStep e) := by
    unfold Dev.engStep
    split
    · exact .refl d
    · exact Dev.CfgKept.trans (.other rfl) (Dev.engDo_cfgKept _ e _)
  exact Dev.CfgKept.trans (.ite hstep (.refl d)) (.other rfl)

theorem Dev.ackRecord_cfgKept (d : Dev) : Dev.CfgKept d d.ackRecord := by
  have hack : Dev.CfgKept d (if d.on FLT_REC_STATUS.VALID 0 then d.put FLT_REC_STATUS.ACKED 0 1 else d) :=
    .ite (.put (by decide)) (.refl d)
  refine .ite (hack.trans (.trans ?_ (.other rfl))) hack
  exact Dev.CfgKept.trans (.put (by decide)) (Dev.CfgKept.trans (.put (by decide)) (.other rfl))

theorem Dev.stepGo_cfgKept (d : Dev) (add neg : Bool) : Dev.CfgKept d (d.stepGo add neg) :=
  .ite (d.seen_evc _ _).cfgKept (.trans (.put (by decide)) (.other rfl))

theorem Dev.slewGo_cfgKept (d : Dev) : Dev.CfgKept d d.slewGo := .trans (.put (by decide)) (.other rfl)

theorem Dev.badDoorbell_cfgKept (d : Dev) (f : Nat) : Dev.CfgKept d (d.badDoorbell f) :=
  Dev.CfgKept.trans (.put (F := HPE_F_BAD_DOORBELL.COUNT) (by decide)) (Dev.seen_evc _ _ _).cfgKept

theorem Dev.lineAsk_cfgKept (d : Dev) (r : Nat) : Dev.CfgKept d (d.lineAsk r) := .ite (.other rfl) (.other rfl)

theorem Dev.doorbell_cfgKept (d : Dev) (f w : Nat) : Dev.CfgKept d (d.doorbell f w) := by
  refine .ite (.refl d) ?_
  split
  · exact d.badDoorbell_cfgKept f
  · have hask : ∀ r x, Dev.CfgKept d ((d.setRing r x).lineAsk r) := fun r x => .trans (.other rfl) (Dev.lineAsk_cfgKept _ r)
    exact .ite ((hask _ _).trans (.other rfl)) (hask _ _)

theorem Dev.openDrop_cfgKept (d : Dev) (r : Nat) : Dev.CfgKept d (d.openDrop r) := by
  unfold Dev.openDrop
  dsimp only
  refine Dev.CfgKept.trans (e := if (d.ring r).openD.isEmpty then d else d.inc (RING_CNT.COUNT 4) r)
    (.ite (.refl d) (.put (by decide))) ?_
  exact Dev.CfgKept.trans (.ite (.put (by decide)) (.refl _)) (.other rfl)

theorem Dev.ringEmpty_cfgKept (d : Dev) (r : Nat) : Dev.CfgKept d (d.ringEmpty r) := by
  unfold Dev.ringEmpty
  extract_lets d1 x d2 d3 run d4
  have h1 : Dev.CfgKept d d1 := .trans (.other rfl) (Dev.openDrop_cfgKept _ r)
  have h2 : Dev.CfgKept d d2 := h1.trans (.put (by decide))
  have h3 : Dev.CfgKept d d3 := h2.trans (.other rfl)
  have h4 : Dev.CfgKept d d4 := h3.trans (.ite (.refl _) (.put (by decide)))
  exact h4.trans (.other rfl)

theorem copyStatus_status (c : Nat) : cfgMask.testBit (copyStatus c).id = false := by
  unfold copyStatus
  split <;> decide

theorem Dev.sessionEnd_cfgKept (d : Dev) : Dev.CfgKept d d.sessionEnd := by
  have hact : Dev.CfgKept d (d.put CMP_IMG_WRITE.ACTIVE 0 0) := .put (by decide)
  exact .ite ((hact.trans (.other rfl)).trans (.put (copyStatus_status _))) (hact.trans (.other rfl))

theorem Dev.fnResetAsk_cfgKept (d : Dev) (f : Nat) : Dev.CfgKept d (d.fnResetAsk f) := by
  have hreset : Dev.CfgKept d (d.fnReset f) := by
    refine .ite (.refl d) ?_
    have hbusy : Dev.CfgKept d (d.put HPE_FN_STATUS.RESET_BUSY f 1) := .put (by decide)
    exact (hbusy.trans (.foldl fun x r _ => x.ringEmpty_cfgKept r)).trans (.other rfl)
  exact .ite (hreset.trans (Dev.sessionEnd_cfgKept _)) hreset

theorem Dev.accessError_cfgKept (d : Dev) (m : Bool) (o n : Nat) (w : Bool) : Dev.CfgKept d (d.accessError m o n w) := by
  have hcount : Dev.CfgKept d (d.inc CPX_BAD_ACCESS.COUNT 0) := .put (by decide)
  exact .ite (hcount.trans (.put (by decide))) (hcount.trans (.puts (by simp only [List.all_cons, List.all_nil]; rfl)))

/-- A write of a status or run-time field. -/
theorem Dev.statusWrite_cfgKept (d : Dev) {w : FldWrite} (hw : cfgMask.testBit w.fld.id = false) :
    Dev.CfgKept d (d.statusWrite w) := by
  unfold Dev.statusWrite
  dsimp only
  split
  · exact .ite (Dev.CfgKept.trans (.put hw) (Dev.runsEnd_evc _).cfgKept) (.put hw)
  · exact .ite (.ite (.put (by decide)) (.refl d)) (.put hw)
  · exact .ite (.refl d) (.ite d.ackRecord_cfgKept (.ite (.refl d) (.trans (.put (by decide)) (.other rfl))))
  · exact .refl d

theorem State.mboxGo_cfgKept (s : State) : Dev.CfgKept s.dev s.mboxGo.dev := by
  unfold State.mboxGo
  split
  · exact .puts (by simp only [List.all_cons, List.all_nil]; rfl)
  · exact .puts (by simp only [List.all_cons, List.all_nil]; rfl)
  · exact .put (by decide)

theorem State.trigger_cfgKept (s : State) (en : Fld) (cause : Nat) : Dev.CfgKept s.dev (s.trigger en cause).dev := by
  unfold State.trigger
  split
  · exact .other (Dev.askLockup_f _ _)
  · exact .refl _

theorem State.askRelease_dev (s : State) : s.askRelease.dev = s.dev := by
  unfold State.askRelease
  split <;> rfl

theorem Dev.snapGo_cfgKept (d : Dev) : Dev.CfgKept d d.snapGo := .puts (by simp only [List.all_cons, List.all_nil]; rfl)

/-- Every configuration field of a state's device reads the same. -/
def State.CfgKept (s t : State) : Prop := Dev.CfgKept s.dev t.dev

theorem State.CfgKept.ite {s t u : State} {c : Prop} [Decidable c] (h : State.CfgKept s t) (k : State.CfgKept s u) :
    State.CfgKept s (if c then t else u) := by
  split <;> assumption

theorem State.CfgKept.dev {s : State} {d : Dev} (h : Dev.CfgKept s.dev d) : State.CfgKept s { s with dev := d } := h

/-- A field that acts when written changes no configuration field. -/
theorem State.actWrite_cfgKept (a : Agent) (ws : List FldWrite) (s : State) (w : FldWrite) :
    State.CfgKept s (s.actWrite a ws w) := by
  unfold State.actWrite
  refine .ite (.dev (s.dev.stepGo_cfgKept _ _)) (.ite (.dev s.dev.slewGo_cfgKept) (.ite (.dev s.dev.snapGo_cfgKept)
    (.ite (.dev (s.dev.pendSet_evc _).cfgKept) (.ite (.dev (s.dev.pendClr_evc _).cfgKept) (.ite (.dev (s.dev.eoi_evc _ _ _).cfgKept)
      (.ite s.mboxGo_cfgKept (.ite (.dev (s.dev.doorbell_cfgKept _ _)) (.ite (.dev (s.dev.fnResetAsk_cfgKept _))
        (.ite (s.trigger_cfgKept _ _) (.ite ?_ (.ite (.dev (.put (by decide))) (.dev (.refl _)))))))))))))
  rw [State.CfgKept, s.askRelease_dev]
  exact .refl _

/-- The configuration part of an access, where it is not honoured, is logged at most. -/
theorem Dev.cfgWrites_cfgKept {c : Ctl} (hc : c.honours = false) (d : Dev) (o : Nat) (ws : List FldWrite) :
    Dev.CfgKept d (d.cfgWrites c o ws) := by
  unfold Dev.cfgWrites
  dsimp only
  refine .ite (.refl d) ?_
  rw [if_pos (by simp [hc])]
  exact .ite (Dev.Evc.cfgKept (d.faults_evc _)) (.refl d)

/-- A register found at an offset is one of its place's, and its fields are fields of the map. -/
theorem Dev.wordAt_flds {d : Dev} {o h i : Nat} {p : Place} {r : RegDef} (hw : d.wordAt o = some (p, i, r, h)) :
    ∀ F ∈ r.flds, F ∈ allFlds := by
  unfold Dev.wordAt at hw
  split at hw
  · rename_i p' _ _ _
    obtain ⟨q, hq, hfound⟩ := List.exists_of_findSome?_eq_some hw
    have hr : r = q ∧ p = p' := by
      split at hfound
      · cases hfound
        exact ⟨rfl, rfl⟩
      · split at hfound
        · cases hfound
          exact ⟨rfl, rfl⟩
        · cases hfound
    obtain ⟨rfl, rfl⟩ := hr
    intro F hF
    exact List.mem_flatMap.mpr ⟨p, by cases p <;> decide, List.mem_flatMap.mpr ⟨r, hq, hF⟩⟩
  · cases hw

theorem Dev.partAt_flds {d : Dev} {o sh : Nat} {x : Part} (hx : x ∈ d.partAt o sh) : ∀ F ∈ x.reg.flds, F ∈ allFlds := by
  unfold Dev.partAt at hx
  split at hx
  · rename_i hw
    cases List.mem_singleton.mp hx
    exact Dev.wordAt_flds hw
  · cases hx

theorem Dev.parts_flds {d : Dev} {o size : Nat} {x : Part} (hx : x ∈ d.parts o size) : ∀ F ∈ x.reg.flds, F ∈ allFlds := by
  have hboth : x ∈ d.partAt o 0 ++ d.partAt (o + 4) 32 → ∀ F ∈ x.reg.flds, F ∈ allFlds := fun h =>
    (List.mem_append.mp h).elim Dev.partAt_flds Dev.partAt_flds
  unfold Dev.parts at hx
  split at hx
  · split at hx
    · rename_i hw
      split at hx
      · cases List.mem_singleton.mp hx
        exact Dev.wordAt_flds hw
      · exact hboth hx
    · exact hboth hx
  · exact Dev.partAt_flds hx

/-- A field an access writes that is no configuration field. -/
theorem status_of_parts {d : Dev} {o size data : Nat} {w : FldWrite}
    (hw : w ∈ ((d.parts o size).flatMap (partWrites data)).filter fun w => !w.fld.cfg) : cfgMask.testBit w.fld.id = false := by
  obtain ⟨hmem, hcfg⟩ := List.mem_filter.mp hw
  obtain ⟨x, hx, hin⟩ := List.mem_flatMap.mp hmem
  have hfld : w.fld ∈ allFlds := by
    unfold partWrites at hin
    split at hin
    · cases hin
    · obtain ⟨F, hF, rfl⟩ := List.mem_map.mp hin
      exact Dev.parts_flds hx F (List.mem_filter.mp hF).1
  rw [cfgMask_spec hfld]
  simpa using hcfg

theorem State.foldl_cfgKept {α : Type} {g : State → α → State} (hg : ∀ s a, State.CfgKept s (g s a)) (l : List α) (s : State) :
    State.CfgKept s (l.foldl g s) := by
  induction l generalizing s with
  | nil => exact Dev.CfgKept.refl _
  | cons a l ih => exact Dev.CfgKept.trans (hg s a) (ih _)

theorem Ctl.honours_release {c e : Ctl} (h : e = { c with release := e.release }) : e.honours = c.honours := by
  rw [h]
  rfl

/-- A write that is served changes no configuration field where direct writes are not honoured. -/
theorem State.writeAt_cfgKept {s : State} (hc : s.ctl.honours = false) (a : Agent) (o size data : Nat) :
    State.CfgKept s (s.writeAt a o size data) := by
  unfold State.writeAt
  split
  · split <;> exact Dev.CfgKept.refl _
  · exact Dev.CfgKept.refl _
  · exact Dev.CfgKept.refl _
  · extract_lets ps ws st s1 s2
    have h1 : State.CfgKept s s1 := by
      refine Dev.CfgKept.trans (.foldl fun x w hw => x.statusWrite_cfgKept (status_of_parts hw)) (.foldl fun x p _ => ?_)
      exact .ite (x.engPush_cfgKept _ _) (.refl x)
    have h2 : State.CfgKept s s2 := Dev.CfgKept.trans h1 (State.foldl_cfgKept (State.actWrite_cfgKept a st) _ s1)
    have hctl : s2.ctl.honours = false := by
      rw [← hc]
      exact Ctl.honours_release (c := s1.ctl) (State.Beside.foldl (State.actWrite_beside a st) _ s1).ctl
    exact Dev.CfgKept.trans h2 (Dev.cfgWrites_cfgKept hctl _ o ws)

theorem State.write_cfgKept {s : State} (hc : s.ctl.honours = false) (a : Agent) (o size data : Nat) :
    State.CfgKept s (s.write a o size data) :=
  .ite (.ite (.dev (Dev.accessError_cfgKept _ _ _ _ _)) (Dev.CfgKept.refl _))
    (.ite (s.writeAt_cfgKept hc a o size data) (Dev.CfgKept.refl _))

end Sys2Proof.Machine

open Sys2Proof Sys2Proof.Machine in
/-- Settles O46: the fields a write carries out by themselves, or through the fields that act, are no configuration fields. -/
theorem configurationProtected : Obligations.ConfigurationProtected := by
  intro a o n x s t F j hF hcfg hload hserv h
  have hhon : s.ctl.honours = false := by
    cases hs : s.ctl.state <;> simp_all [Ctl.honours]
  have hkept : State.CfgKept s t := by
    rcases s.aclk_cases (fun s => if o < 0x4000000 then s.write a o n (x % 2 ^ (8 * n)) else s) with ⟨_, ho⟩ | ⟨_, _, ho⟩ | ⟨_, ho⟩
    · cases ho.symm.trans h
    · cases ho.symm.trans h
      exact Dev.CfgKept.refl _
    · cases ho.symm.trans h
      exact .ite (s.write_cfgKept hhon a o n _) (Dev.CfgKept.refl _)
  exact hkept F j ((cfgMask_spec hF).trans hcfg)
end

section
/-!
SUPPORT. The read-back of configuration edits, clearing reads of mirrored counters, the hysteresis of a class, and the order
of resets and of power requests. With these, O55, O57, O58 and O60.
-/
namespace Sys2Proof.Machine
open F

theorem Dev.setCfg_of_running {d : Dev} (h : d.cmp.quiesce = false) (F : Fld) (i v : Nat) :
    d.setCfg F i v = d.put F i v := by
  simp [Dev.setCfg, h]

theorem Dev.edit_cons {d : Dev} (h : d.cmp.quiesce = false) (e : Edit) (l : List Edit) :
    d.edit (e :: l) = (d.put e.1 e.2.1 e.2.2).edit l := by
  rw [Dev.edit, List.foldl_cons, Dev.setCfg_of_running h, Dev.edit]

/-- Edits change no field but those they name. -/
theorem Dev.get_edit_of_ne {l : List Edit} : ∀ {d : Dev}, d.cmp.quiesce = false → ∀ {G : Fld} {j : Nat},
    (∀ e ∈ l, ¬(e.1.id = G.id ∧ e.2.1 = j)) → (d.edit l).get G j = d.get G j := by
  induction l with
  | nil => exact fun _ _ _ _ => rfl
  | cons e l ih =>
    intro d hq G j hne
    have hfirst : G.id ≠ e.1.id ∨ j ≠ e.2.1 := by
      have hnot := hne e List.mem_cons_self
      by_cases hid : e.1.id = G.id
      · exact Or.inr fun hj => hnot ⟨hid, hj.symm⟩
      · exact Or.inl fun hG => hid hG.symm
    rw [Dev.edit_cons hq, ih (d := d.put e.1 e.2.1 e.2.2) hq (fun x hx => hne x (List.mem_cons_of_mem _ hx)),
      Dev.get_put_ne _ _ hfirst]

/-- An edit reads back where no later one names its field. -/
theorem Dev.get_edit_of_mem {l : List Edit} : ∀ {d : Dev}, d.cmp.quiesce = false →
    l.Pairwise (fun a b => ¬(a.1.id = b.1.id ∧ a.2.1 = b.2.1)) → ∀ {e : Edit}, e ∈ l →
    (d.edit l).get e.1 e.2.1 = e.2.2 % 2 ^ e.1.w := by
  induction l with
  | nil => exact fun _ _ _ h => nomatch h
  | cons a l ih =>
    intro d hq hl e he
    obtain ⟨ha, hl⟩ := List.pairwise_cons.mp hl
    rw [Dev.edit_cons hq]
    rcases List.mem_cons.mp he with rfl | he
    · have hlater : ∀ x ∈ l, ¬(x.1.id = e.1.id ∧ x.2.1 = e.2.1) := fun x hx hxe => ha x hx ⟨hxe.1.symm, hxe.2.symm⟩
      rw [Dev.get_edit_of_ne (d := d.put e.1 e.2.1 e.2.2) hq hlater, Dev.get_put]
    · exact ih (d := d.put a.1 a.2.1 a.2.2) hq hl he

/-- Edits change register fields only. -/
theorem Dev.edit_eq {l : List Edit} : ∀ {d : Dev}, d.cmp.quiesce = false → d.edit l = { d with f := (d.edit l).f } := by
  induction l with
  | nil => exact fun _ => rfl
  | cons e l ih =>
    intro d hq
    rw [Dev.edit_cons hq]
    exact ih (d := d.put e.1 e.2.1 e.2.2) hq

theorem fldGet_put_ne {F G : Fld} (t : Tab (Tab Nat)) {i j : Nat} (v : Nat) (h : G.id ≠ F.id ∨ j ≠ i) :
    fldGet (fldPut t F i v) G j = fldGet t G j :=
  Dev.get_put_ne { State.reset.dev with f := t } v h

theorem Dev.rcClear_of_mirrored {d : Dev} {F : Fld} (h : mirrored F = true) (i : Nat) :
    d.rcClear F i = { d.put F i (d.get F i - d.mirror F i) with mir := fldPut d.mir F i 0 } := if_pos h

theorem Dev.rcClear_of_unmirrored {d : Dev} {F : Fld} (h : mirrored F = false) (i : Nat) : d.rcClear F i = d.put F i 0 := by
  simp [Dev.rcClear, h]

/-- A clearing read leaves every other counter and every other mirror alone. -/
theorem Dev.rcClear_ne (d : Dev) {F G : Fld} {i j : Nat} (h : G.id ≠ F.id ∨ j ≠ i) :
    (d.rcClear F i).get G j = d.get G j ∧ (d.rcClear F i).mirror G j = d.mirror G j := by
  cases hm : mirrored F with
  | false => rw [Dev.rcClear_of_unmirrored hm]; exact ⟨d.get_put_ne _ h, rfl⟩
  | true => rw [Dev.rcClear_of_mirrored hm]; exact ⟨d.get_put_ne _ h, fldGet_put_ne d.mir 0 h⟩

theorem Dev.get_rcClear_of_mirrored {d : Dev} {F : Fld} (h : mirrored F = true) (i : Nat) :
    (d.rcClear F i).get F i = (d.get F i - d.mirror F i) % 2 ^ F.w := by
  rw [Dev.rcClear_of_mirrored h]
  exact d.get_put F i _

/-- What was counted between the mirror's refresh and the clearing read is kept. -/
theorem Dev.get_rcClear_counted {d : Dev} {F : Fld} {i n : Nat} (h : mirrored F = true) (hd : d.get F i < 2 ^ F.w) :
    (((d.mirrorOne i F).add F i n).rcClear F i).get F i = min (d.get F i + n) (2 ^ F.w - 1) - d.get F i := by
  have hcount : ((d.mirrorOne i F).add F i n).get F i = min (d.get F i + n) (2 ^ F.w - 1) := (d.mirrorOne i F).get_add F i n
  have hmirror : ((d.mirrorOne i F).add F i n).mirror F i = d.get F i :=
    (fldGet_put d.mir F i (d.get F i)).trans (Nat.mod_eq_of_lt hd)
  rw [Dev.get_rcClear_of_mirrored h, hcount, hmirror]
  exact Nat.mod_eq_of_lt (by omega)

/-- A fold whose steps, for the members of its list, change fields of a set only. -/
theorem Dev.keeps.foldl_mem {α : Type} {S : List Nat} {g : Dev → α → Dev} {l : List α}
    (hg : ∀ x, ∀ a ∈ l, Dev.keeps S x (g x a)) {d e : Dev} (h : Dev.keeps S d e) : Dev.keeps S d (l.foldl g e) := by
  induction l generalizing e with
  | nil => exact h
  | cons a l ih =>
    exact ih (fun x b hb => hg x b (List.mem_cons_of_mem _ hb)) (h.trans (hg e a List.mem_cons_self))

theorem mem_bitList {n w k : Nat} (h : k ∈ bitList n w) : k < w := List.mem_range.mp (List.mem_of_mem_filter h)

/-- The fields the forming of a port's pause states may change (R147, R148, R213). -/
def fcIds : List Nat := [GAL_FC_STATUS.TX_XOFF.id, GAL_FC_STATUS.PORT_XOFF.id, X.GAL_REP.id] ++
  (List.range 8).map fun k => (GAL_FC_TX_XOFF.COUNT k).id

theorem Dev.fcRequest_keeps (S : List Nat) (d : Dev) (p : Nat) : Dev.keeps S d (d.fcRequest p) :=
  Dev.keeps.setMac (Dev.keeps.refl S d)

theorem Dev.fcForm_keeps (d : Dev) (p : Nat) : Dev.keeps fcIds d (d.fcForm p) := by
  have hcount : ∀ k < 8, (GAL_FC_TX_XOFF.COUNT k).id ∈ fcIds := by decide
  unfold Dev.fcForm
  extract_lets old now oldPort port rep rep' counted written
  have hcounted : Dev.keeps fcIds d counted := Dev.keeps.foldl_mem
    (fun x k hk => Dev.keeps.inc (hcount k (mem_bitList hk)) (Dev.keeps.refl _ x)) (Dev.keeps.refl _ d)
  have hwritten : Dev.keeps fcIds d written := Dev.keeps.puts rfl hcounted
  exact Dev.keeps.ite (hwritten.trans (Dev.fcRequest_keeps _ _ _)) hwritten

theorem Dev.formed_keeps (d : Dev) (p : Nat) : Dev.keeps fcIds d ((d.fcForm p).fcRequest p) :=
  (d.fcForm_keeps p).trans (Dev.fcRequest_keeps _ _ _)

/-- The fields the hysteresis of a class may change. -/
def hystIds : List Nat := GAL_PC_STATUS.XOFF.id :: GAL_PC_STATUS.XOFF_SEEN.id :: fcIds

theorem Dev.hyst_keeps (d : Dev) (pc : Nat) : Dev.keeps hystIds d (d.hyst pc) := by
  have hfc : ∀ x ∈ fcIds, x ∈ hystIds := fun x hx => List.mem_cons_of_mem _ (List.mem_cons_of_mem _ hx)
  have hdown : Dev.keeps hystIds d (d.put GAL_PC_STATUS.XOFF pc 0) := Dev.keeps.put (by decide) (Dev.keeps.refl _ d)
  unfold Dev.hyst
  extract_lets p m g xoff occ hi lo stale
  refine Dev.keeps.ite (Dev.keeps.ite (hdown.trans ((Dev.fcForm_keeps _ _).mono hfc)) (Dev.keeps.refl _ d)) (Dev.keeps.ite ?_
    (Dev.keeps.ite (hdown.trans ((Dev.formed_keeps _ _).mono hfc)) (Dev.keeps.refl _ d)))
  exact (Dev.keeps.puts rfl (Dev.keeps.refl _ d)).trans ((Dev.formed_keeps _ _).mono hfc)

/-- The hysteresis of a class in GALLEY or CORE mode, in the terms of R147. -/
theorem Dev.hyst_of_mode {d : Dev} {pc occ hi lo : Nat} {stale : Bool}
    (h : (d.fcMode pc = fcGalley ∧ occ = (if d.keys GAL_CH_STATUS.FAILED ≠ [] ∧ d.get GAL_STATUS.IN_SERVICE 0 ≠ 1 then
        d.get GAL_PC_XOFF.XOFF_TH pc else d.get GAL_PC_STATUS.OCCUPANCY pc) ∧ hi = d.get GAL_PC_XOFF.XOFF_TH pc ∧
      lo = d.get GAL_PC_XON.XON_TH pc ∧ stale = false) ∨
    (d.fcMode pc = fcCore ∧ occ = (d.gal pc).report.getD 0 ∧ hi = 1024 * d.get GAL_PC_CORE.CORE_XOFF_KIB pc ∧
      lo = 1024 * d.get GAL_PC_CORE.CORE_XON_KIB pc ∧ stale = (d.gal pc).stale)) :
    d.hyst pc = if d.get GAL_PC_STATUS.XOFF pc ≠ 1 ∧ (hi ≤ occ ∨ stale = true) then
        ((d.puts pc [(GAL_PC_STATUS.XOFF, 1), (GAL_PC_STATUS.XOFF_SEEN, 1)]).fcForm (pc / 16)).fcRequest (pc / 16)
      else if d.get GAL_PC_STATUS.XOFF pc = 1 ∧ occ < lo ∧ stale = false then
        ((d.put GAL_PC_STATUS.XOFF pc 0).fcForm (pc / 16)).fcRequest (pc / 16)
      else d := by
  rcases h with ⟨hm, hocc, hhi, hlo, hst⟩ | ⟨hm, hocc, hhi, hlo, hst⟩
  · have hseen : d.occSeen pc = occ := by
      rw [hocc, Dev.occSeen, hm]
      simp [Dev.galFailed, Dev.on]
    simp [Dev.hyst, hm, hseen, hhi, hlo, hst, Dev.on, show fcGalley ≠ fcNone from by decide,
      show (fcGalley == fcCore) = false from by decide]
  · have hseen : d.occSeen pc = occ := by
      rw [hocc, Dev.occSeen, hm]
      exact if_pos (by decide)
    simp [Dev.hyst, hm, hseen, hhi, hlo, hst, Dev.on, show fcCore ≠ fcNone from by decide,
      show fcCore ≠ fcGalley from by decide, and_assoc]

theorem Dev.powerUp_draining {d : Dev} {k : Nat} (h : (d.pd k).st = 3) : (d.powerUp k).pd k = ⟨3, true, false⟩ := by
  simp [Dev.powerUp, h, Dev.pd_set]

theorem Dev.powerUp_off {d : Dev} {k : Nat} (h : (d.pd k).st = 0) : (d.powerUp k).pd k = ⟨1, false, false⟩ := by
  simp [Dev.powerUp, h, Dev.pd_set]

theorem Dev.powerDown_on {d : Dev} {k : Nat} (h : (d.pd k).st = 2) : (d.powerDown k).pd k = ⟨3, false, false⟩ := by
  simp [Dev.powerDown, h, Dev.pd_set]

theorem Dev.powerDown_powering {d : Dev} {k : Nat} (h : (d.pd k).st = 1) : (d.powerDown k).pd k = ⟨1, false, true⟩ := by
  simp [Dev.powerDown, h, Dev.pd_set]

/-- Writes of one field at several objects leave the power domains alone. -/
theorem Dev.foldl_put_pd (F : Fld) (v k : Nat) (g : Nat → Nat) (l : List Nat) (d : Dev) :
    (l.foldl (fun d i => d.put F (g i) v) d).pd k = d.pd k := by
  induction l generalizing d with
  | nil => rfl
  | cons i l ih => exact ih (d.put F (g i) v)

theorem Dev.bankStale_pd (d : Dev) (b k : Nat) : (d.bankStale b).pd k = d.pd k := by
  unfold Dev.bankStale
  split
  · rfl
  · exact Dev.foldl_put_pd _ _ _ (fun i => b * 8 + i) _ d

/-- A domain that has drained with a power-up waiting starts powering. -/
theorem Dev.domainOff_waited {d : Dev} {k : Nat} (h : d.pd k = ⟨3, true, false⟩) : (d.domainOff k).pd k = ⟨1, false, false⟩ := by
  unfold Dev.domainOff
  simp only [h, if_true]
  split
  · rw [Dev.bankStale_pd, Dev.pd_set]
  · exact Dev.pd_set _ _ _

/-- A request no reset in progress contains joins the resets, in the place of those it contains. -/
theorem Dev.resets_resetAsk {d : Dev} {s : Scope} (h : ∀ r ∈ d.resets, r.holds s = false) :
    (d.resetAsk s).resets = d.resets.filter (fun r => !s.holds r) ++ [s] := by
  have hany : (d.resets.any fun r => r.holds s) = false := List.any_eq_false.mpr fun r hr => by simp [h r hr]
  simp [Dev.resetAsk, hany]

theorem Dev.resetAsk_absorbed {d : Dev} {s r : Scope} (hr : r ∈ d.resets) (h : r.holds s = true) : d.resetAsk s = d :=
  if_pos (List.any_eq_true.mpr ⟨r, hr, h⟩)

theorem Dev.resetAsk_apart {d : Dev} (s : Scope) (h : d.resets.Pairwise Scope.apart) :
    (d.resetAsk s).resets.Pairwise Scope.apart := by
  by_cases hr : ∃ r ∈ d.resets, r.holds s = true
  · obtain ⟨r, hr, hs⟩ := hr
    rwa [Dev.resetAsk_absorbed hr hs]
  · push Not at hr
    have hfree : ∀ r ∈ d.resets, r.holds s = false := fun r hm => Bool.eq_false_iff.mpr (hr r hm)
    rw [Dev.resets_resetAsk hfree]
    refine List.pairwise_append.mpr ⟨h.filter _, List.pairwise_singleton _ _, fun r hm x hx => ?_⟩
    obtain rfl := List.mem_singleton.mp hx
    obtain ⟨hmem, hnot⟩ := List.mem_filter.mp hm
    exact ⟨hfree r hmem, by simpa using hnot⟩

end Sys2Proof.Machine

open Sys2Proof Sys2Proof.Machine Sys2Proof.Machine.F in
/-- Settles O55: by induction on the edits, each of them the write of one field. -/
theorem editsReadBack : Obligations.EditsReadBack := fun _ _ hq hl =>
  ⟨fun _ he => Dev.get_edit_of_mem hq hl he, fun _ _ hne => Dev.get_edit_of_ne hq hne, Dev.edit_eq hq⟩

open Sys2Proof Sys2Proof.Machine Sys2Proof.Machine.F in
/-- Settles O57: the clearing read of a mirrored counter subtracts the mirror, any other clears. -/
theorem rcReadsSubtract : Obligations.RcReadsSubtract := by
  intro d F i n
  refine ⟨fun h => ?_, fun h => ⟨Dev.get_rcClear_of_mirrored h i, ?_⟩, fun h hd => Dev.get_rcClear_counted h hd,
    fun G j h => d.rcClear_ne h⟩
  · rw [Dev.rcClear_of_unmirrored h, Dev.get_put, Nat.zero_mod]
  · rw [Dev.rcClear_of_mirrored h]
    exact (fldGet_put d.mir F i 0).trans (Nat.zero_mod _)

open Sys2Proof Sys2Proof.Machine Sys2Proof.Machine.F in
/-- Settles O58: the hysteresis in the terms of R147, case by case; what forms the port's pause states leaves the classes'
status alone. -/
theorem hysteresisRight : Obligations.HysteresisRight := by
  intro d pc occ hi lo stale h
  have hxoff := fun x : Dev => x.formed_keeps (pc / 16) GAL_PC_STATUS.XOFF pc (by decide)
  have hseen := fun x : Dev => x.formed_keeps (pc / 16) GAL_PC_STATUS.XOFF_SEEN pc (by decide)
  rw [Dev.hyst_of_mode h]
  refine ⟨fun h0 hup => ?_, fun h0 hlt hst => ?_, fun h1 hlt hst => ?_, fun h1 hup => ?_, fun qc hq => ?_⟩
  · rw [if_pos ⟨by omega, hup⟩, hxoff, hseen, Dev.puts_cons, Dev.puts_cons, Dev.puts_nil, Dev.get_put,
      Dev.get_put_id _ _ _ _ (by decide), Dev.get_put]
    exact ⟨rfl, rfl⟩
  · rw [if_neg fun hc => hc.2.elim (by omega) (by simp [hst]), if_neg fun hc => by omega]
  · rw [if_neg fun hc => hc.1 h1, if_pos ⟨h1, hlt, hst⟩, hxoff, Dev.get_put, Nat.zero_mod]
  · rw [if_neg fun hc => hc.1 h1, if_neg fun hc => hup.elim (by omega) (by simp [hc.2.2])]
  · have hother := fun x : Dev => x.formed_keeps (pc / 16) GAL_PC_STATUS.XOFF qc (by decide)
    split
    · rw [hother, Dev.puts_cons, Dev.puts_cons, Dev.puts_nil, Dev.get_put_id _ _ _ _ (by decide),
        Dev.get_put_obj _ _ _ _ _ hq.symm]
    · split
      · rw [hother, Dev.get_put_obj _ _ _ _ _ hq.symm]
      · rfl

open Sys2Proof Sys2Proof.Machine Sys2Proof.Machine.F in
/-- Settles O60: by the cases of a reset request, and by the state of a domain a power request finds. -/
theorem resetsAndDomainsOrdered : Obligations.ResetsAndDomainsOrdered := by
  intro d
  refine ⟨fun s ⟨r, hr, hs⟩ => Dev.resetAsk_absorbed hr hs, fun s hs => ?_, fun s => d.resetAsk_apart s, fun k hk => ?_,
    fun k hk => by rw [Dev.powerUp_off hk], fun k hk => by rw [Dev.powerDown_on hk], fun k hk => ?_⟩
  · rw [Dev.resets_resetAsk hs]
    exact ⟨by simp, fun r hr => by simp [hr]⟩
  · have hwait := Dev.powerUp_draining hk
    rw [hwait, Dev.domainOff_waited hwait]
    exact ⟨rfl, rfl⟩
  · rw [Dev.powerDown_powering hk]
    exact ⟨rfl, rfl⟩
end

section
/-!
SUPPORT. The procedures of the event controller: what the choice of a target and of a vector satisfies. With these, O59.
-/
namespace Sys2Proof.Machine
open F

/-- A key that does not read the default is listed. -/
theorem Tab.mem_of_get_ne {α : Type} {t : Tab α} {k : Nat} {a : α} (h : t.get k a ≠ a) : k ∈ t.map (·.1) := by
  induction t with
  | nil => exact absurd rfl h
  | cons p t ih =>
    obtain ⟨k', v⟩ := p
    by_cases hk : k' = k
    · exact hk ▸ List.mem_cons_self
    · exact List.mem_cons_of_mem _ (ih fun he => h (by rw [Tab.get, if_neg hk, he]))

/-- The keys of a canonical table rise. -/
theorem Tab.keys_pairwise {α : Type} {t : Tab α} {n : Nat} (h : t.risingFrom n = true) :
    (t.map (·.1)).Pairwise (· < ·) ∧ ∀ k ∈ t.map (·.1), n ≤ k := by
  induction t generalizing n with
  | nil => exact ⟨List.Pairwise.nil, fun _ hk => nomatch hk⟩
  | cons p t ih =>
    obtain ⟨k, v⟩ := p
    simp only [Tab.risingFrom, Bool.and_eq_true, decide_eq_true_eq] at h
    obtain ⟨hk, ht⟩ := h
    obtain ⟨hp, hle⟩ := ih ht
    refine ⟨List.pairwise_cons.mpr ⟨fun x hx => hle x hx, hp⟩, fun x hx => ?_⟩
    rcases List.mem_cons.mp hx with rfl | hx
    · exact hk
    · exact le_trans (by omega) (hle x hx)

/-- A vector in a state other than IDLE is listed. -/
theorem Dev.mem_vecsIn {d : Dev} {st v : Nat} (hst : st ≠ 0) : v ∈ d.vecsIn st ↔ d.get EVC_VEC_STATUS.STATE v = st := by
  have hrst : EVC_VEC_STATUS.STATE.rstAt v = 0 := if_neg fun h => absurd h.2 (by decide)
  simp only [Dev.vecsIn, List.mem_filter, beq_iff_eq, and_iff_right_iff_imp]
  rintro rfl
  exact Tab.mem_of_get_ne (hst.trans_eq hrst.symm)

theorem Dev.mem_sentTo {d : Dev} {t v : Nat} :
    v ∈ d.sentTo t ↔ d.get EVC_VEC_STATUS.STATE v = 3 ∧ d.get EVC_VEC_STATUS.TARGET v = t := by
  rw [Dev.sentTo, List.mem_filter, Dev.mem_vecsIn (by decide), beq_iff_eq]

/-- The vectors a claim may take, in the order of R289. -/
def Dev.claimable (d : Dev) (t : Nat) : List Nat :=
  (List.range 15).flatMap fun k =>
    ((d.sentTo t).filter fun v => d.on EVC_TGT_CFG.ENABLE t && decide (d.isPrio t < d.get X.EVC_PRIO v)).filter
      fun v => d.get X.EVC_PRIO v == 15 - k

theorem Dev.claimVec_eq (d : Dev) (t : Nat) : d.claimVec t = (d.claimable t).head? := rfl

theorem Dev.mem_claimable {d : Dev} {t v : Nat} : v ∈ d.claimable t ↔
    (d.get EVC_VEC_STATUS.STATE v = 3 ∧ d.get EVC_VEC_STATUS.TARGET v = t) ∧
    (d.get EVC_TGT_CFG.ENABLE t = 1 ∧ d.isPrio t < d.get X.EVC_PRIO v) ∧ d.get X.EVC_PRIO v ≤ 15 := by
  simp only [Dev.claimable, List.mem_flatMap, List.mem_filter, List.mem_range, Dev.mem_sentTo, Bool.and_eq_true,
    decide_eq_true_eq, beq_iff_eq, Dev.on]
  constructor
  · rintro ⟨k, -, ⟨hsent, hen⟩, hk⟩
    exact ⟨hsent, hen, by omega⟩
  · rintro ⟨hsent, hen, hle⟩
    exact ⟨15 - d.get X.EVC_PRIO v, by omega, ⟨hsent, hen⟩, by omega⟩

/-- A claim's order: descending priority, ties to the lower number. -/
theorem Dev.claimable_sorted {d : Dev} (t : Nat) (h : Tab.wf (d.f.get EVC_VEC_STATUS.STATE.id []) 0 = true) :
    (d.claimable t).Pairwise fun v u =>
      d.get X.EVC_PRIO u < d.get X.EVC_PRIO v ∨ (d.get X.EVC_PRIO u = d.get X.EVC_PRIO v ∧ v ≤ u) := by
  have hkeys : (d.keys EVC_VEC_STATUS.STATE).Pairwise (· < ·) := (Tab.keys_pairwise (Bool.and_eq_true_iff.mp h).1).1
  refine List.pairwise_flatMap.mpr ⟨fun k _ => ?_, ?_⟩
  · refine List.Pairwise.imp_of_mem (fun {v u} hv hu hlt => Or.inr ⟨?_, le_of_lt hlt⟩)
      ((((hkeys.filter _).filter _).filter _).filter _)
    have hv := (List.mem_filter.mp hv).2
    have hu := (List.mem_filter.mp hu).2
    rw [beq_iff_eq] at hv hu
    rw [hv, hu]
  · refine List.Pairwise.imp_of_mem (fun {j k} _ hk hlt v hv u hu => Or.inl ?_) List.pairwise_lt_range
    have hk := List.mem_range.mp hk
    have hv := (List.mem_filter.mp hv).2
    have hu := (List.mem_filter.mp hu).2
    rw [beq_iff_eq] at hv hu
    omega

theorem Dev.on_of_accepts {d : Dev} {t v : Nat} (h : d.accepts t v = true) : d.on EVC_TGT_CFG.ENABLE t = true := by
  simp only [Dev.accepts, Bool.and_eq_true] at h
  exact h.1.1

theorem Dev.mem_rotation {l : List Nat} {r t : Nat} :
    t ∈ (l.filter fun t => decide (r < t)) ++ l.filter (fun t => decide (t ≤ r)) ↔ t ∈ l := by
  simp only [List.mem_append, List.mem_filter, decide_eq_true_eq]
  constructor
  · rintro (h | h) <;> exact h.1
  · exact fun h => (lt_or_ge r t).imp (fun hlt => ⟨h, hlt⟩) fun hge => ⟨h, hge⟩

theorem Dev.rrTarget_spec {d : Dev} {v t : Nat} (h : d.rrTarget v = some t) :
    d.accepts t v = true ∧ t ∈ d.setTargets (d.get EVC_VEC_CFG.TSET v) :=
  ⟨List.find?_some (p := fun t => d.accepts t v) h, Dev.mem_rotation.mp (List.mem_of_find?_eq_some h)⟩

/-- Round robin finds a target where the set holds one that accepts. -/
theorem Dev.rrTarget_isSome {d : Dev} {v t : Nat} (ht : t ∈ d.setTargets (d.get EVC_VEC_CFG.TSET v))
    (ha : d.accepts t v = true) : (d.rrTarget v).isSome = true :=
  List.find?_isSome.mpr ⟨t, Dev.mem_rotation.mpr ht, ha⟩

/-- The member of lowest current priority is a member, and of those with no higher number the first in rising order. -/
theorem Dev.lowTarget_spec {d : Dev} {l : List Nat} (hl : l.Pairwise (· < ·)) {t : Nat} (h : d.lowTarget l = some t) :
    t ∈ l ∧ ∀ u ∈ l, d.get EVC_TGT_PRIO.CUR_PRIO t < d.get EVC_TGT_PRIO.CUR_PRIO u ∨
      d.get EVC_TGT_PRIO.CUR_PRIO t = d.get EVC_TGT_PRIO.CUR_PRIO u ∧ t ≤ u := by
  induction l generalizing t with
  | nil => cases h
  | cons a l ih =>
    obtain ⟨ha, hl⟩ := List.pairwise_cons.mp hl
    unfold Dev.lowTarget at h
    cases hr : d.lowTarget l with
    | none =>
      have hnil : l = [] := by
        cases l with
        | nil => rfl
        | cons b l =>
          unfold Dev.lowTarget at hr
          revert hr
          split
          · nofun
          · split <;> nofun
      subst hnil
      rw [hr] at h
      obtain rfl := Option.some.inj h
      exact ⟨List.mem_cons_self, fun u hu => Or.inr (by simp [List.mem_singleton.mp hu])⟩
    | some b =>
      obtain ⟨hb, hmin⟩ := ih hl hr
      rw [hr] at h
      dsimp only at h
      split at h
      case isTrue hlt =>
        obtain rfl := Option.some.inj h
        refine ⟨List.mem_cons_of_mem _ hb, fun u hu => ?_⟩
        rcases List.mem_cons.mp hu with rfl | hu
        · exact Or.inl hlt
        · exact hmin u hu
      case isFalse hge =>
        obtain rfl := Option.some.inj h
        refine ⟨List.mem_cons_self, fun u hu => ?_⟩
        rcases List.mem_cons.mp hu with rfl | hu
        · exact Or.inr ⟨rfl, le_refl _⟩
        · have hlt := ha u hu
          have := hmin u hu
          omega

theorem Dev.setTargets_sorted (d : Dev) (k : Nat) : (d.setTargets k).Pairwise (· < ·) := List.pairwise_lt_range.filter _

/-- What the routing procedure of R287 returns. -/
theorem Dev.routeTarget_cases {d : Dev} {v t : Nat} (h : d.routeTarget v = some t) :
    (d.get EVC_VEC_CFG.ROUTE v = 0 ∧ d.rrTarget v = some t) ∨
    (d.lowTarget (d.setTargets (d.get EVC_VEC_CFG.TSET v)) = some t ∧ d.accepts t v = true) := by
  unfold Dev.routeTarget at h
  by_cases hr : d.get EVC_VEC_CFG.ROUTE v = 0
  · simp only [hr, if_true] at h
    cases hrr : d.rrTarget v with
    | some u => rw [hrr] at h; exact Or.inl ⟨hr, h⟩
    | none => rw [hrr] at h; exact Or.inr (by grind)
  · simp only [hr, if_false] at h
    exact Or.inr (by grind)

end Sys2Proof.Machine

open Sys2Proof Sys2Proof.Machine Sys2Proof.Machine.F in
/-- Settles O59: the routing by the cases of its procedure, the claim by the order of the vectors it may take. -/
theorem routingAndClaimRight : Obligations.RoutingAndClaimRight := by
  intro d
  refine ⟨fun v t h => ?_, fun v t hr ht ha => ?_, fun t v hwf h => ?_, fun t u h hen hst htgt hle => ?_⟩
  · rcases Dev.routeTarget_cases h with ⟨hr, hrr⟩ | ⟨hlow, hacc⟩
    · exact ⟨(Dev.rrTarget_spec hrr).1, (Dev.rrTarget_spec hrr).2, fun hne => absurd hr hne⟩
    · obtain ⟨hmem, hmin⟩ := Dev.lowTarget_spec (d.setTargets_sorted _) hlow
      exact ⟨hacc, hmem, fun _ => hmin⟩
  · obtain ⟨u, hu⟩ := Option.isSome_iff_exists.mp (Dev.rrTarget_isSome ht ha)
    simp [Dev.routeTarget, hr, hu]
  · rw [Dev.claimVec_eq] at h
    obtain ⟨l, hl⟩ := List.head?_eq_some_iff.mp h
    have hmem : v ∈ d.claimable t := by rw [hl]; exact List.mem_cons_self
    obtain ⟨⟨hst, htgt⟩, ⟨hen, hlt⟩, -⟩ := Dev.mem_claimable.mp hmem
    refine ⟨hst, htgt, hen, hlt, fun u hsu htu hlu hle => ?_⟩
    have hu : u ∈ d.claimable t := Dev.mem_claimable.mpr ⟨⟨hsu, htu⟩, ⟨hen, hlu⟩, hle⟩
    have hsorted := Dev.claimable_sorted t hwf
    rw [hl] at hu hsorted
    rcases List.mem_cons.mp hu with rfl | hu
    · exact Or.inr ⟨rfl, le_refl _⟩
    · exact (List.pairwise_cons.mp hsorted).1 u hu
  · rw [Dev.claimVec_eq, List.head?_eq_none_iff] at h
    by_contra hlt
    have hu : u ∈ d.claimable t := Dev.mem_claimable.mpr ⟨⟨hst, htgt⟩, ⟨hen, by omega⟩, hle⟩
    rw [h] at hu
    exact nomatch hu
end

section
/-!
SUPPORT. One fault through the desk in stages: entered, noted as an event, the quiet timer loaded, its local reactions listed,
its lock-up and its SAFE entry asked for. With these, O50.
-/
namespace Sys2Proof.Machine
open F

/-- A bit set in a number below a power of two that holds it. -/
theorem bitAt_setBitAt_mod (n : Nat) {k w : Nat} (h : k < w) : bitAt (setBitAt n k % 2 ^ w) k = true := by
  have hbit : ∀ m i, bitAt m i = m.testBit i := fun m i => by
    rw [bitAt, Nat.shiftRight_eq_div_pow, Nat.testBit_eq_decide_div_mod_eq]; rfl
  rw [hbit, Nat.testBit_mod_two_pow, setBitAt]
  simp only [h, decide_true, Bool.true_and]
  split
  case isTrue hset => rwa [hbit] at hset
  case isFalse hclear =>
    rw [hbit, Bool.not_eq_true] at hclear
    rw [Nat.add_comm, Nat.testBit_two_pow_add_eq, hclear, Bool.not_false]

/-- Every class fits the record's map. -/
theorem faultClass_lt {src cls : Nat} (h : faultClass src = some cls) : cls < 64 := by
  have hmem : cls ∈ faultClasses := by
    unfold faultClass at h
    extract_lets c at h
    cases hc : c with
    | none => simp [hc] at h
    | some k =>
      simp only [hc] at h
      split at h
      case isTrue hk =>
        split at h
        · cases h
        · exact Option.some.inj h ▸ hk
      case isFalse => cases h
  have hall : ∀ k ∈ faultClasses, k < 64 := by decide
  exact hall cls hmem

section
variable (d : Dev) (r : Raised) (cls : Nat)

/-- The fault entered and shown as a cause of the desk's event source (R344, R346). -/
def Dev.noted : Dev :=
  if bitAt (d.reactByte cls r.sev) 0 then (d.enter r cls).seen srcDesk (if d.opens then 0 else 1) else d.enter r cls

/-- And the quiet timer loaded while in SAFE (R349). -/
def Dev.quieted : Dev :=
  if (d.noted r cls).on FLT_STATUS.SAFE 0 && decide (2 ≤ r.sev) then (d.noted r cls).quietLoad else d.noted r cls

/-- And the local reactions listed (R341). -/
def Dev.reacted : Dev :=
  if d.reactByte cls r.sev / 2 % 8 ≠ 0 then
    { d.quieted r cls with desk := { (d.quieted r cls).desk with
        reacts := (d.quieted r cls).desk.reacts ++ [⟨r.src, d.reactByte cls r.sev⟩] } }
  else d.quieted r cls

/-- And a lock-up asked for (R343). -/
def Dev.lockAsked : Dev :=
  if bitAt (d.reactByte cls r.sev) 5 then (d.reacted r cls).askLockup 1 else d.reacted r cls

theorem Dev.faults_staged {r : Raised} {cls : Nat} (hc : faultClass r.src = some cls) :
    d.faults [r] =
      if bitAt (d.reactByte cls r.sev) 4 && !bitAt (d.reactByte cls r.sev) 5 then (d.lockAsked r cls).askSafe
      else d.lockAsked r cls := by
  rw [d.faults_singleton hc]
  simp only [Dev.raise1, hc]
  rfl

theorem Dev.enter_sansFields : (d.enter r cls).sansFields = d.sansFields := by
  unfold Dev.enter
  split <;> simp [Dev.openRecord, Dev.mergeRecord, Dev.countLog, Dev.logFault]

theorem Dev.noted_sansFields : (d.noted r cls).sansFields = d.sansFields := by
  unfold Dev.noted
  split <;> simp only [Dev.seen_sansFields, Dev.enter_sansFields]

theorem Dev.noted_desk : (d.noted r cls).desk = d.desk :=
  (congrArg Dev.desk (d.noted_sansFields r cls) : (d.noted r cls).sansFields.desk = d.sansFields.desk)

theorem Dev.quieted_trigs : (d.quieted r cls).desk.trigs = d.desk.trigs := by
  rw [← d.noted_desk r cls, Dev.quieted]
  split <;> rfl

theorem Dev.quieted_reacts : (d.quieted r cls).desk.reacts = d.desk.reacts := by
  rw [← d.noted_desk r cls, Dev.quieted]
  split <;> rfl

theorem Dev.reacted_trigs : (d.reacted r cls).desk.trigs = d.desk.trigs := by
  rw [← d.quieted_trigs r cls, Dev.reacted]
  split <;> rfl

theorem Dev.askLockup_reacts (c : Nat) : (d.askLockup c).desk.reacts = d.desk.reacts := by
  unfold Dev.askLockup; split <;> rfl

theorem Dev.askSafe_desk : d.askSafe.desk = d.desk := by
  unfold Dev.askSafe
  split
  · rfl
  · split <;> rfl

theorem Dev.lockAsked_reacts : (d.lockAsked r cls).desk.reacts = (d.reacted r cls).desk.reacts := by
  unfold Dev.lockAsked
  split
  · rw [Dev.askLockup_reacts]
  · rfl

theorem Dev.faults_desk {r : Raised} {cls : Nat} (hc : faultClass r.src = some cls) :
    (d.faults [r]).desk = (d.lockAsked r cls).desk := by
  rw [d.faults_staged hc]
  split
  · rw [Dev.askSafe_desk]
  · rfl

/-- The fields a fault may change short of a SAFE entry. -/
def unsafeIds : List Nat :=
  FLT_STATUS.QUIET_LEFT_MS.id :: FLT_CNT.COUNT.id :: FLT_LOG_HEAD.HEAD.id :: logIds ++ recordIds ++ mergeIds ++ seenIds

theorem Dev.enter_keeps : Dev.keeps unsafeIds d (d.enter r cls) := by
  have hcounted : Dev.keeps unsafeIds d (d.countLog r cls) := (d.countLog_keeps r cls).mono (by decide)
  unfold Dev.enter
  exact Dev.keeps.ite (Dev.keeps.puts rfl hcounted) (Dev.keeps.step (Dev.mergeRecord_keeps_merge _ _ _) (by decide) hcounted)

theorem Dev.lockAsked_keeps : Dev.keeps unsafeIds d (d.lockAsked r cls) := by
  have hnoted : Dev.keeps unsafeIds d (d.noted r cls) :=
    Dev.keeps.ite (Dev.keeps.step (Dev.seen_keeps _ _ _) (by decide) (d.enter_keeps r cls)) (d.enter_keeps r cls)
  have hquieted : Dev.keeps unsafeIds d (d.quieted r cls) :=
    Dev.keeps.ite (Dev.keeps.other rfl (Dev.keeps.put (by decide) hnoted)) hnoted
  have hreacted : Dev.keeps unsafeIds d (d.reacted r cls) := Dev.keeps.ite (Dev.keeps.other rfl hquieted) hquieted
  exact Dev.keeps.ite (Dev.keeps.other (Dev.askLockup_f _ _) hreacted) hreacted

/-- What a merged fault leaves in the fields of the log, the record and the counts. -/
theorem Dev.enter_merged (h : d.opens = false) : d.enter r cls = (d.countLog r cls).mergeRecord r cls := by
  rw [Dev.enter, h]; rfl

/-- The fault shown as merged leaves FAULT_SEEN alone. -/
theorem Dev.get_seen_merge : (d.seen srcDesk 1).get FLT_STATUS.FAULT_SEEN 0 = d.get FLT_STATUS.FAULT_SEEN 0 := by
  simp only [Dev.seen, show (srcFlags srcDesk)[1]? = some ⟨FLT_STATUS.MERGE_SEEN, 0, 0⟩ from rfl]
  split
  · rfl
  · rw [Dev.event_keeps _ _ _ _ _ _ (by decide), Dev.get_put_id _ _ _ _ (by decide)]

/-- A merged fault leaves FAULT_SEEN alone. -/
theorem Dev.get_faults_seen {r : Raised} {cls : Nat} (hc : faultClass r.src = some cls) (h : d.opens = false) :
    (d.faults [r]).get FLT_STATUS.FAULT_SEEN 0 = d.get FLT_STATUS.FAULT_SEEN 0 := by
  have henter : (d.enter r cls).get FLT_STATUS.FAULT_SEEN 0 = d.get FLT_STATUS.FAULT_SEEN 0 := by
    rw [Dev.enter_merged _ _ _ h, Dev.mergeRecord_keeps_merge _ _ _ _ _ (by decide), Dev.countLog_keeps _ _ _ _ _ (by decide)]
  have hnoted : (d.noted r cls).get FLT_STATUS.FAULT_SEEN 0 = d.get FLT_STATUS.FAULT_SEEN 0 := by
    rw [← henter, Dev.noted, h]
    split
    · exact Dev.get_seen_merge _
    · rfl
  have hrest : Dev.keeps [FLT_STATUS.ENTERING.id, FLT_STATUS.QUIET_LEFT_MS.id] (d.noted r cls) (d.faults [r]) := by
    have h0 := Dev.keeps.refl [FLT_STATUS.ENTERING.id, FLT_STATUS.QUIET_LEFT_MS.id] (d.noted r cls)
    have hquieted : Dev.keeps _ (d.noted r cls) (d.quieted r cls) :=
      Dev.keeps.ite (Dev.keeps.other rfl (Dev.keeps.put (by decide) h0)) h0
    have hreacted : Dev.keeps _ (d.noted r cls) (d.reacted r cls) := Dev.keeps.ite (Dev.keeps.other rfl hquieted) hquieted
    have hlock : Dev.keeps _ (d.noted r cls) (d.lockAsked r cls) :=
      Dev.keeps.ite (Dev.keeps.other (Dev.askLockup_f _ _) hreacted) hreacted
    rw [d.faults_staged hc]
    refine Dev.keeps.ite ?_ hlock
    unfold Dev.askSafe
    exact Dev.keeps.ite hlock (Dev.keeps.ite (Dev.keeps.put (by decide) hlock) (Dev.keeps.other rfl hlock))
  rw [hrest _ _ (by decide), hnoted]

/-- What an asked SAFE entry leaves (R348). -/
theorem Dev.askSafe_of_not_safe {d : Dev} (h : d.get FLT_STATUS.SAFE 0 = 0) :
    (d.get X.CMP_READY 0 = 1 → d.askSafe.get FLT_STATUS.ENTERING 0 = 1) ∧
    (d.get X.CMP_READY 0 = 0 → d.askSafe.cmp.safeHeld = true) := by
  constructor <;> intro hr <;> simp [Dev.askSafe, Dev.on, h, hr]
  decide

/-- The log entry and the counts of a fault, whether it opens the record or is merged (R342). -/
theorem Dev.get_faults_counted {r : Raised} {cls : Nat} (hc : faultClass r.src = some cls) :
    (d.faults [r]).get FLT_CNT.COUNT cls = min (d.get FLT_CNT.COUNT cls + 1) (2 ^ FLT_CNT.COUNT.w - 1) ∧
    (d.faults [r]).get FLT_LOG_HEAD.HEAD 0 = (d.get FLT_LOG_HEAD.HEAD 0 + 1) % 2 ^ FLT_LOG_HEAD.HEAD.w ∧
    ∀ p ∈ logFields d.now d.tsValid r (!d.opens),
      (d.faults [r]).get p.1 (d.get FLT_LOG_HEAD.HEAD 0 % 64) = p.2 % 2 ^ p.1.w := by
  have hlogged : ∀ G j, G.id ∈ FLT_CNT.COUNT.id :: FLT_LOG_HEAD.HEAD.id :: logIds →
      (d.faults [r]).get G j = (d.countLog r cls).get G j := fun G j hG => by
    have hfree : ∀ n ∈ FLT_CNT.COUNT.id :: FLT_LOG_HEAD.HEAD.id :: logIds, n ∉ reactIds ∧ n ∉ recordIds ∧ n ∉ mergeIds := by
      decide
    obtain ⟨hreact, hrec, hmerge⟩ := hfree _ hG
    rw [d.faults_keeps_entered hc G j hreact, Dev.enter]
    split
    · exact Dev.get_puts_id _ _ _ _ fun p hp he => hrec (he ▸ List.mem_map_of_mem (f := (·.1.id)) hp)
    · exact Dev.mergeRecord_keeps_merge _ _ _ _ _ hmerge
  have hhead : (d.inc FLT_CNT.COUNT cls).get FLT_LOG_HEAD.HEAD 0 = d.get FLT_LOG_HEAD.HEAD 0 := d.get_inc_id cls 0 (by decide)
  have hvalid : (d.inc FLT_CNT.COUNT cls).tsValid = d.tsValid := by
    rw [Dev.tsValid, Dev.on, Dev.get_inc_id _ _ _ (by decide)]; rfl
  have hnotLog : FLT_LOG_HEAD.HEAD.id ∉ logIds := by decide
  refine ⟨?_, ?_, fun p hp => ?_⟩
  · rw [hlogged _ _ List.mem_cons_self, Dev.countLog, Dev.logFault_keeps_log _ _ _ _ _ (by decide), Dev.get_inc]
  · rw [hlogged _ _ (List.mem_cons_of_mem _ List.mem_cons_self), Dev.countLog, Dev.logFault, Dev.get_wrap,
      Dev.get_puts_id _ _ _ _ fun p hp he => absurd (he ▸ List.mem_map_of_mem (f := (·.1.id)) hp) hnotLog, hhead]
  · have hid : p.1.id ∈ logIds := List.mem_map_of_mem (f := (·.1.id)) hp
    rw [hlogged _ _ (List.mem_cons_of_mem _ (List.mem_cons_of_mem _ hid)), ← hhead]
    rw [← hvalid] at hp
    exact (d.inc FLT_CNT.COUNT cls).get_logFault r (!d.opens) hp

/-- What a merged fault adds to the record (R346). -/
theorem Dev.get_faults_mergedInto {r : Raised} {cls : Nat} (hc : faultClass r.src = some cls) (h : d.opens = false) :
    (d.faults [r]).get FLT_REC_MERGE_MAP.MAP 0 = setBitAt (d.get FLT_REC_MERGE_MAP.MAP 0) cls % 2 ^ FLT_REC_MERGE_MAP.MAP.w ∧
    (d.faults [r]).get FLT_REC_STATUS.MERGE_COUNT 0 =
      min (d.get FLT_REC_STATUS.MERGE_COUNT 0 + 1) (2 ^ FLT_REC_STATUS.MERGE_COUNT.w - 1) ∧
    (d.faults [r]).get FLT_REC_STATUS.PEAK_SEV 0 = max (d.get FLT_REC_STATUS.PEAK_SEV 0) r.sev % 2 ^ FLT_REC_STATUS.PEAK_SEV.w := by
  have hrec : ∀ G, G.id ∈ recordIds → (d.faults [r]).get G 0 = ((d.countLog r cls).mergeRecord r cls).get G 0 := fun G hG => by
    have hfree : ∀ n ∈ recordIds, n ∉ reactIds := by decide
    rw [d.faults_keeps_entered hc G 0 (hfree _ hG), Dev.enter_merged _ _ _ h]
  have hold : ∀ G, G.id ∈ recordIds → (d.countLog r cls).get G 0 = d.get G 0 := fun G hG => by
    have hfree : ∀ n ∈ recordIds, n ∉ FLT_CNT.COUNT.id :: FLT_LOG_HEAD.HEAD.id :: logIds := by decide
    exact d.countLog_keeps r cls G 0 (hfree _ hG)
  simp (disch := decide) only [hrec, Dev.mergeRecord, Dev.puts_cons, Dev.puts_nil, Dev.get_inc, Dev.get_inc_id, Dev.get_put,
    Dev.get_put_id, hold, and_self]

end

end Sys2Proof.Machine

open Sys2Proof Sys2Proof.Machine Sys2Proof.Machine.F in
/-- Settles O50: a fault passes the stages of the desk, each of which leaves alone what the others say. -/
theorem faultCountedMergedReacted : Obligations.FaultCountedMergedReacted := by
  rintro d e r cls hc hsev rfl
  have hsrc : r.src < 2 ^ 16 := (faultClass_src_lt hc).trans (by decide)
  obtain ⟨hcount, hhead, hlog⟩ := d.get_faults_counted hc
  have hdesk := d.faults_desk hc
  have hsafe : ∀ G j, G.id ∉ unsafeIds → (d.lockAsked r cls).get G j = d.get G j := d.lockAsked_keeps r cls
  refine ⟨⟨hcount, hhead, ?_, ?_⟩, fun hm => ?_, fun hb => ?_, fun hb => ?_, fun hb => ?_, fun hb => ?_⟩
  · exact (hlog (FLT_LOG_LO.SOURCE, r.src) (by simp [logFields])).trans (Nat.mod_eq_of_lt hsrc)
  · exact (hlog (FLT_LOG_LO.SEV, r.sev) (by simp [logFields])).trans (Nat.mod_eq_of_lt hsev)
  · have ho : d.opens = false := Bool.eq_false_iff.mpr fun h => by
      have hopens := d.opens_iff.mp h
      omega
    obtain ⟨hmap, hmcount, hpeak⟩ := d.get_faults_mergedInto hc ho
    exact ⟨hmap ▸ bitAt_setBitAt_mod _ (faultClass_lt hc), hmcount, hpeak, d.get_faults_seen hc ho⟩
  · rw [hdesk, Dev.lockAsked_reacts, Dev.reacted, if_pos hb]
    exact congrArg (· ++ [_]) (d.quieted_reacts r cls)
  · rw [hdesk, Dev.lockAsked_reacts, Dev.reacted, if_neg (not_not.mpr hb), Dev.quieted_reacts]
  · rw [hdesk, d.faults_staged hc, hb, Bool.not_true, Bool.and_false, if_neg Bool.false_ne_true,
      hsafe _ _ (by decide), Dev.lockAsked, if_pos hb]
    exact ⟨Dev.askLockup_mem _ _, rfl⟩
  · have hlock : d.lockAsked r cls = d.reacted r cls := by rw [Dev.lockAsked, hb, if_neg Bool.false_ne_true]
    refine ⟨by rw [hdesk, hlock, Dev.reacted_trigs], fun hs hclear => ?_⟩
    have hkept := Dev.askSafe_of_not_safe (d := d.lockAsked r cls) ((hsafe _ _ (by decide)).trans hclear)
    rw [hsafe X.CMP_READY 0 (by decide)] at hkept
    rwa [d.faults_staged hc, hb, hs, Bool.not_false, Bool.and_true, if_pos rfl]
end

section
/-!
SUPPORT. The island through a complex reset: its fields keep their values but for those of CPX_START that tell of the
start-up. With these, O13 and O15.
-/
namespace Sys2Proof.Machine
open F

/-- A filter by key keeps the entries of the keys it lets through. -/
theorem Tab.get_filter {α : Type} (t : Tab α) {q : Nat → Bool} {k : Nat} (a : α) (h : q k = true) :
    Tab.get (t.filter fun p => q p.1) k a = t.get k a := by
  induction t with
  | nil => rfl
  | cons p t ih =>
    obtain ⟨k', v⟩ := p
    by_cases hk : k' = k
    · subst hk
      rw [List.filter_cons_of_pos (by exact h), Tab.get, Tab.get, if_pos rfl, if_pos rfl]
    · by_cases hq : q k' = true
      · rw [List.filter_cons_of_pos (by exact hq), Tab.get, Tab.get, if_neg hk, if_neg hk, ih]
      · rw [List.filter_cons_of_neg (by exact hq), Tab.get, if_neg hk, ih]

theorem islandField_of_mem {F : Fld} (h : F ∈ islandFields) : islandField F.id = true :=
  List.any_eq_true.mpr ⟨F, h, beq_self_eq_true _⟩

/-- A complex reset keeps every field of the island but STEP, CAUSE and STARTS. -/
theorem Dev.get_restarted (d : Dev) (cause : Nat) {F : Fld} (hF : F ∈ islandFields)
    (hstep : F ≠ CPX_START.STEP) (hcause : F ≠ CPX_START.CAUSE) (hstarts : F ≠ CPX_START.STARTS) (i : Nat) :
    (d.restarted cause).get F i = d.get F i := by
  have hids : ∀ F ∈ islandFields, F ≠ CPX_START.STEP → F ≠ CPX_START.CAUSE → F ≠ CPX_START.STARTS →
      CPX_START.STEP.id ≠ F.id ∧ CPX_START.CAUSE.id ≠ F.id ∧ CPX_START.STARTS.id ≠ F.id := by decide
  obtain ⟨h1, h2, h3⟩ := hids F hF hstep hcause hstarts
  unfold Dev.restarted
  extract_lets blank n
  rw [Dev.get_inc_id _ _ _ h3, Dev.puts_cons, Dev.puts_cons, Dev.puts_nil, Dev.get_put_id _ _ _ _ h2,
    Dev.get_put_id _ _ _ _ h1]
  exact congrArg (fun t => Tab.get t i _) (Tab.get_filter d.f [] (islandField_of_mem hF))

theorem Dev.get_restarted_step (d : Dev) (cause : Nat) :
    (d.restarted cause).get CPX_START.STEP 0 = 2 ∧ (d.restarted cause).get CPX_START.CAUSE 0 = cause % 8 := by
  unfold Dev.restarted
  extract_lets blank n
  simp (disch := decide) only [Dev.get_inc_id, Dev.puts_cons, Dev.puts_nil, Dev.get_put, Dev.get_put_id]
  exact ⟨rfl, rfl⟩

theorem Dev.get_restarted_starts (d : Dev) (cause : Nat) :
    (d.restarted cause).get CPX_START.STARTS 0 = min (d.get CPX_START.STARTS 0 + 1) 0xFFFFFFFF := by
  unfold Dev.restarted
  extract_lets blank n
  have hold : n.get CPX_START.STARTS 0 = d.get CPX_START.STARTS 0 :=
    congrArg (fun t => Tab.get t 0 _) (Tab.get_filter d.f [] (islandField_of_mem (F := CPX_START.STARTS) (by decide)))
  simp (disch := decide) only [Dev.get_inc, Dev.puts_cons, Dev.puts_nil, Dev.get_put_id, hold]
  rfl

theorem Dev.on_of_get {d : Dev} {F : Fld} {i : Nat} (h : d.get F i = 1) : d.on F i = true := by simp [Dev.on, h]
theorem Dev.not_on_of_get {d : Dev} {F : Fld} {i : Nat} (h : d.get F i = 0) : d.on F i = false := by simp [Dev.on, h]

end Sys2Proof.Machine

open Sys2Proof Sys2Proof.Machine Sys2Proof.Machine.F in
/-- Settles O13: each event is one branch of its definition; a chip reset is a complex reset of the unlocked island. -/
theorem supplyAndClockEventsRun : Obligations.SupplyAndClockEventsRun := by
  intro s
  refine ⟨fun hs => ?_, fun hs => ?_, fun hs hc => ?_, fun hs => ?_, fun hs hr => ?_⟩
  · rw [show exec .islandPowerOn s = execIslandPowerOn s from rfl, execIslandPowerOn, hs]
    refine ⟨_, rfl, rfl, ?_⟩
    simp only [Bool.false_eq_true, if_false]
    refine ⟨?_, ?_, ?_, ?_, rfl, rfl⟩ <;>
      simp (disch := decide) only [Dev.puts_cons, Dev.puts_nil, Dev.get_put, Dev.get_put_id] <;> rfl
  · rw [show exec .islandSupplyLoss s = execIslandSupplyLoss s from rfl, execIslandSupplyLoss, if_pos hs]
    exact ⟨_, rfl, rfl, rfl, rfl, rfl, rfl⟩
  · rw [show exec .p9ChipReset s = execP9ChipReset s from rfl, execP9ChipReset, hs, hc]
    refine ⟨_, rfl, ?_⟩
    dsimp only [State.complexReset]
    have hstep := (s.dev.unlock.puts 0 [(CPX_START.BOOT_TRIES, 0), (CPX_START.BOOT_FAIL, 0)]).get_restarted_step 1
    have hkeep : ∀ F ∈ islandFields, F ≠ CPX_START.STEP → F ≠ CPX_START.CAUSE → F ≠ CPX_START.STARTS →
        ((s.dev.unlock.puts 0 [(CPX_START.BOOT_TRIES, 0), (CPX_START.BOOT_FAIL, 0)]).restarted 1).get F 0 =
          (s.dev.unlock.puts 0 [(CPX_START.BOOT_TRIES, 0), (CPX_START.BOOT_FAIL, 0)]).get F 0 :=
      fun F h1 h2 h3 h4 => Dev.get_restarted _ 1 h1 h2 h3 h4 0
    refine ⟨by rw [hs, hc], hstep.1, hstep.2, ?_, ?_, ?_, ?_, ?_, ?_, rfl, rfl, rfl, rfl⟩
    · rw [hkeep _ (by decide) (by decide) (by decide) (by decide)]
      simp (disch := decide) only [Dev.puts_cons, Dev.puts_nil, Dev.get_put, Dev.get_put_id, Nat.zero_mod]
    · rw [hkeep _ (by decide) (by decide) (by decide) (by decide)]
      simp (disch := decide) only [Dev.puts_cons, Dev.puts_nil, Dev.get_put, Nat.zero_mod]
    · rw [hkeep _ (by decide) (by decide) (by decide) (by decide)]
      simp (disch := decide) only [Dev.unlock, Dev.puts_cons, Dev.puts_nil, Dev.get_put, Dev.get_put_id, Nat.zero_mod]
    · rw [hkeep _ (by decide) (by decide) (by decide) (by decide)]
      simp (disch := decide) only [Dev.unlock, Dev.puts_cons, Dev.puts_nil, Dev.get_put, Dev.get_put_id, Nat.zero_mod]
    · rw [Dev.get_restarted_starts]
      simp (disch := decide) only [Dev.unlock, Dev.puts_cons, Dev.puts_nil, Dev.get_put_id]
    · rw [hkeep _ (by decide) (by decide) (by decide) (by decide)]
      simp (disch := decide) only [Dev.unlock, Dev.puts_cons, Dev.puts_nil, Dev.get_put_id]
  · rw [show exec .chipRefLoss s = execChipRefLoss s from rfl, execChipRefLoss, if_pos hs]
  · rw [show exec .chipRefReturn s = execChipRefReturn s from rfl, execChipRefReturn, hs, hr]
    rfl

open Sys2Proof Sys2Proof.Machine Sys2Proof.Machine.F in
/-- Settles O15: each event is one branch of its definition. -/
theorem startUpEventsRun : Obligations.StartUpEventsRun := by
  intro s
  refine ⟨fun ha h1 h2 => ?_, fun ha h1 h2 h3 h4 => ?_, fun ha h1 h2 => ?_, fun ha h1 h2 h3 => ?_, fun ha h1 h2 h3 => ?_,
    fun ha h1 h2 h3 => ?_, fun fa fb hc h1 h2 => ?_, fun hc h1 h2 h3 => ?_, fun failed hc h1 h2 h3 h4 => ?_,
    fun hc h1 h2 h3 => ?_, fun ms hc h1 h2 h3 => ?_, fun hc => ?_, fun hc => ?_, fun cause hc h1 => ?_⟩
  · rw [show exec (.domainOn 34) s = execDomainOn 34 s from rfl, execDomainOn, if_pos rfl, State.aclk_awake ha, if_pos ⟨h1, h2⟩]
  · rw [show exec .pllLock s = execPllLock s from rfl, execPllLock, State.aclk_awake ha, if_pos (by simp [h1, h2, h3, h4])]
  · rw [show exec .pllUnlock s = execPllUnlock s from rfl, execPllUnlock, State.aclk_awake ha, if_pos ⟨h1, h2⟩]
  · rw [show exec .compositorBoot s = execCompositorBoot s from rfl, execCompositorBoot, State.aclk_awake ha, if_pos ⟨h1, h2, h3⟩]
    refine ⟨_, rfl, rfl, rfl, ?_⟩
    dsimp only
    split <;> simp (disch := decide) only [Dev.puts_cons, Dev.puts_nil, Dev.get_put, Dev.get_put_id] <;> exact ⟨rfl, rfl⟩
  · rw [show exec .bootRetry s = execBootRetry s from rfl, execBootRetry, State.aclk_awake ha, if_pos ⟨h1, h2⟩]
    dsimp only
    rw [if_pos (by omega : s.dev.get CPX_START.BOOT_TRIES 0 + 1 < 3)]
    have hstep := s.dev.get_restarted_step 4
    refine ⟨_, rfl, rfl, rfl, ?_, ?_, ?_⟩
    · exact (Dev.get_put_id _ _ _ _ (by decide)).trans hstep.1
    · exact (Dev.get_put_id _ _ _ _ (by decide)).trans hstep.2
    · exact (Dev.get_put _ _ _ _).trans (Nat.mod_eq_of_lt (show _ < 4 by omega))
  · rw [show exec .bootRetry s = execBootRetry s from rfl, execBootRetry, State.aclk_awake ha, if_pos ⟨h1, h2⟩]
    dsimp only
    rw [if_neg (by omega : ¬ s.dev.get CPX_START.BOOT_TRIES 0 + 1 < 3)]
    refine ⟨_, rfl, rfl, ?_⟩
    simp (disch := decide) only [Dev.puts_cons, Dev.puts_nil, Dev.get_put, Dev.get_put_id]
    exact ⟨rfl, rfl⟩
  · rw [show exec (.imageLoadComplete fa fb) s = execImageLoadComplete fa fb s from rfl, execImageLoadComplete,
      State.core_clocked hc, if_pos ⟨h1, h2⟩]
  · rw [show exec (.galleyTrainingDone 0) s = execGalleyTrainingDone 0 s from rfl, execGalleyTrainingDone,
      State.onDev_clocked hc, if_pos (by simp [h1, h2, h3]), if_pos (by decide)]
  · rw [show exec (.galleyTrainingDone failed) s = execGalleyTrainingDone failed s from rfl, execGalleyTrainingDone,
      State.onDev_clocked hc, if_pos (by simp [h1, h2, h3]), if_neg h4, Dev.each]
  · rw [show exec .galleyClearDone s = execGalleyClearDone s from rfl, execGalleyClearDone, State.onDev_clocked hc,
      if_pos (by simp [h1, h2, h3, Dev.on]), Dev.puts_cons, Dev.puts_cons, Dev.puts_cons, Dev.puts_nil, Dev.each]
  · rw [show exec (.readyEntry ms) s = execReadyEntry ms s from rfl, execReadyEntry, State.core_clocked hc,
      if_pos ⟨h1, h2, h3⟩]
    exact ⟨_, rfl, rfl, rfl, rfl⟩
  · rw [show exec .fwHeartbeat s = execFwHeartbeat s from rfl, execFwHeartbeat, State.core_clocked hc]
  · rw [show exec .fwWatchdog s = execFwWatchdog s from rfl, execFwWatchdog, State.onDev_clocked hc]
  · rw [show exec .complexReset s = execComplexReset s from rfl, execComplexReset, State.core_clocked hc, h1]
    exact ⟨_, rfl, rfl, (s.dev.get_restarted_step cause).1, (s.dev.get_restarted_step cause).2, rfl, rfl, rfl,
      fun F hF h1 h2 h3 i => s.dev.get_restarted cause hF h1 h2 h3 i⟩
end

section
/-!
SUPPORT. Passed commands whose effect reaches flash, the complex state or other commands. With these, O3.
-/
namespace Sys2Proof.Machine
open F

section
variable {s s1 : State} {k : KSpec} {p : Pkt} {t : Ticket}

/-- A passed command that no admission judges commits its effect. -/
theorem State.Passes.next_commit {x : Done} (h : s.Passes k p s1 t) (hr : k.run s1.cx p s1.dev = .ok x) (ha : k.admits = 0) :
    s.kiland k p = .next ((s1.commit p t x).lastReply t) :=
  State.kiland_next h hr (s1.admits_zero ha _)

/-- A passed command that writes flash and waits for it. -/
theorem State.Passes.next_flash {d : Dev} {w : Wait} {l : List FlashOp} (h : s.Passes k p s1 t)
    (hr : k.run s1.cx p s1.dev = .ok { doneWait d w with flash := l }) (ha : k.admits = 0) :
    s.kiland k p = .next (({ s1 with mem := { s1.mem with flash := flashDo s1.mem.flash l } } : State).waiting d t w) := by
  rw [h.next_commit hr ha, State.commit, if_neg (by simp [h.real])]
  rfl

/-- A passed command that moves the complex state, releases other commands and replies or waits. -/
theorem State.Passes.next_moves {d : Dev} {o : CtlOp} {l : List Wait} (h : s.Passes k p s1 t) (ha : k.admits = 0) :
    (k.run s1.cx p s1.dev = .ok { done d with ctl := o, release := l } → s.kiland k p = .next
      ((({ s1 with ctl := o.apply s1.ctl, dev := d } : State).released l).replied t [])) ∧
    (∀ w, k.run s1.cx p s1.dev = .ok { doneWait d w with ctl := o, release := l } → s.kiland k p = .next
      ((({ s1 with ctl := o.apply s1.ctl, dev := d } : State).released l).held t w)) := by
  refine ⟨fun hr => ?_, fun w hr => ?_⟩ <;>
    (rw [h.next_commit hr ha, State.commit, if_neg (by simp [h.real])]; rfl)

section
variable {c : Cx} {d : Dev} {m : Mode} {cur : Option Mode} {rel : List Nat} (hm : modeOf p.target = some m)
  (hcur : cur = if c.ctl.state = .running then c.ctl.mode else none)
  (hrel : rel = if cur = some .economy then d.enteringTx else [])
include hm hcur

/-- MODE_SET to the mode in force. -/
theorem kModeSet_run_in (hin : cur = some m) : kModeSet.run c p d = .ok (done d) := by
  simp only [kModeSet, kspec, hm, ← hcur]
  exact if_pos hin

include hrel

/-- MODE_SET with a wake to do first. -/
theorem kModeSet_run_wakes {x : Ran} {n : Dev} (hout : cur ≠ some m) (hb : d.modeBuild c cur m = .ok x) (heco : cur = some .economy)
    (hwake : d.easyTx ≠ [] ∨ d.pdOn 33 = false)
    (hn : n = (d.each rel Dev.easyCancel).each (d.easyTx.filter fun q => !(d.port q).txWake) Dev.wakeTx) :
    kModeSet.run c p d = .ok { doneWait (if n.pdOn 33 then n else n.powerUp 33) .modeSwitch with
      ctl := .wakes m, release := rel.map .easy } := by
  have hif : cur = some .economy ∧ ((!d.easyTx.isEmpty) = true ∨ (!d.pdOn 33) = true) := by simpa using ⟨heco, hwake⟩
  simp only [kModeSet, kspec, hm, ← hcur, if_neg hout, hb, if_pos hif, ← hrel, ← hn]

/-- MODE_SET with no wake to do. -/
theorem kModeSet_run_builds {x : Ran} {n : Dev} (hout : cur ≠ some m) (hb : d.modeBuild c cur m = .ok x)
    (hwake : cur = some .economy → d.easyTx = [] ∧ d.pdOn 33 = true) (hn : n = (Dev.modeEnter x m).each rel Dev.easyCancel) :
    kModeSet.run c p d = .ok { (if n.on X.CMP_ECO 0 then doneWait n .ecoOff else done n) with
      ctl := .mode m, release := rel.map .easy } := by
  have hif : ¬(cur = some .economy ∧ ((!d.easyTx.isEmpty) = true ∨ (!d.pdOn 33) = true)) := by
    rintro ⟨heco, hor⟩
    obtain ⟨hnil, hon⟩ := hwake heco
    simp [hnil, hon] at hor
  simp only [kModeSet, kspec, hm, ← hcur, if_neg hout, hb, if_neg hif, ← hrel, ← hn]

end

theorem copyRun_of_lt {g : Cx → Pkt → Dev → Except Ref Done} {c : Cx} {d : Dev} (h : p.target < 2) :
    copyRun g c p d = g c p d := if_pos h
end

section
variable {s s1 : State} {p : Pkt} {t : Ticket}

theorem imageWriteBegin_next {d e : Dev} (h : s.Passes kImageWriteBegin p s1 t) (hlt : p.target < 2)
    (h1 : 112 ≤ p.word 0 % 2 ^ 32) (h2 : p.word 0 % 2 ^ 32 ≤ 16777216) (h3 : p.word 0 % 2 ^ 32 % 8 = 0)
    (h4 : 1 ≤ p.word 0 / 2 ^ 32) (h5 : p.word 0 / 2 ^ 32 ≤ 0xFFFFFFFE)
    (hother : s1.dev.get (copyStatus (1 - p.target)) 0 = 1 → s1.dev.get (copyGen (1 - p.target)) 0 < p.word 0 / 2 ^ 32)
    (huse : s1.dev.cmp.inUse = some p.target → s1.dev.get (copyStatus (1 - p.target)) 0 = 1)
    (hd : d = if s1.dev.cmp.session.isSome then s1.dev.sessionEnd else s1.dev)
    (he : e = ((d.copyShow p.target 3 (d.get (copyResult p.target) 0) (d.get (copyFail p.target) 0) []).puts 0
      [(CMP_IMG_WRITE.ACTIVE, 1), (CMP_IMG_WRITE.COPY, p.target), (CMP_IMG_WRITE.ISSUER, p.issuer),
        (CMP_IMG_WRITE.NEXT_OFFSET, 0)]).emit (.flashErase p.target)) :
    exec (.imageWriteBegin p) s = .next (({ s1 with mem := { s1.mem with
        flash := flashDo s1.mem.flash [.erase p.target] } } : State).waiting
      { e with cmp := { e.cmp with session := some ⟨p.word 0 / 2 ^ 32, p.word 0 % 2 ^ 32, []⟩ } } t (.flash [])) := by
  have hlen : ¬(p.word 0 % 2 ^ 32 < 112 ∨ 16777216 < p.word 0 % 2 ^ 32 ∨ p.word 0 % 2 ^ 32 % 8 ≠ 0) := by omega
  have hgen : ¬(p.word 0 / 2 ^ 32 = 0 ∨ 0xFFFFFFFE < p.word 0 / 2 ^ 32 ∨ (s1.dev.get (copyStatus (1 - p.target)) 0 = 1 ∧
      p.word 0 / 2 ^ 32 ≤ s1.dev.get (copyGen (1 - p.target)) 0)) := by
    rintro (h0 | h0 | ⟨ho, h0⟩)
    · omega
    · omega
    · exact absurd (hother ho) (by omega)
  have hfree : ¬(s1.dev.cmp.inUse = some p.target ∧ ¬s1.dev.get (copyStatus (1 - p.target)) 0 = 1) :=
    fun h0 => h0.2 (huse h0.1)
  refine h.next_flash (l := [.erase p.target]) ?_ rfl
  simp only [kImageWriteBegin, kspec, copyRun_of_lt hlt, if_neg hlen, if_neg hgen, if_neg hfree, ← hd, ← he]

theorem flashDo_write_start (f : List Host.Cell) (c : Nat) (l : List Byte) :
    flashDo f [.write c 0 l] = putCells f (copyBase c) 0xFF l := by
  rw [flashDo, flashDo, Nat.add_zero]

theorem imageWriteData_run {x : Session} {data : List Nat} {late : List Byte} {off : Nat} {e : Dev} (c : Cx) (d : Dev)
    (hlate : late = byteList (data.drop (64 - off))) (hlt : p.target < 2) (hx : d.holds p = some x)
    (hoff : off = p.word 0) (hdata : data = wordBytes (p.words.drop 1)) (hnext : off = d.get CMP_IMG_WRITE.NEXT_OFFSET 0)
    (hfit : off + data.length ≤ x.length)
    (he : e = ({ d.put CMP_IMG_WRITE.NEXT_OFFSET 0 (off + data.length) with
        cmp := { d.cmp with session := some { x with header := x.header ++ byteList (data.take (64 - off)) } } } : Dev)) :
    kImageWriteData.run c p d = if late.isEmpty then .ok (done e)
      else .ok { doneWait e (.flash []) with flash := [.write p.target (max off 64) late] } := by
  simp only [kImageWriteData, copyRun_of_lt hlt, hx, ← hoff, ← hdata, ← hlate, ← he]
  exact if_neg (by omega)

theorem imageWriteEnd_run {x : Session} {r : Nat × Nat} {c : Cx} {d e : Dev} (hlt : p.target < 2) (hx : d.holds p = some x)
    (hlen : x.length ≤ d.get CMP_IMG_WRITE.NEXT_OFFSET 0)
    (hr : r = if (checkCopy c.mem.flash (nats x.header) p.target).1 ≠ 0 then
          ((checkCopy c.mem.flash (nats x.header) p.target).1, (checkCopy c.mem.flash (nats x.header) p.target).2.1)
        else if leField (nats x.header) 8 4 ≠ x.generation then (10, 8)
        else if leField (nats x.header) 12 4 ≠ x.length then (10, 12) else (0, 0))
    (he : e = d.copyShow p.target (if r.1 = 0 then 1 else 0) r.1 r.2 (nats x.header)) :
    kImageWriteEnd.run c p d = .ok { doneWait (if r.1 = 0 then e.inc CMP_IMG_WRITES.COUNT 0 else e)
      (.flash [r.1 + r.2 * 2 ^ 32]) with flash := if r.1 = 0 then [.write p.target 0 x.header] else [] } := by
  simp only [kImageWriteEnd, kspec, copyRun_of_lt hlt, hx, if_neg (Nat.not_lt.mpr hlen), ← hr, ← he]

theorem imageRead_run {c : Cx} {d : Dev} (hlt : p.target < 2)
    (hses : d.cmp.session.isSome = true → d.get CMP_IMG_WRITE.COPY 0 ≠ p.target)
    (h1 : p.word 0 % 2 ^ 32 % 8 = 0) (h2 : p.word 0 / 2 ^ 32 % 8 = 0) (h3 : 8 ≤ p.word 0 / 2 ^ 32)
    (h4 : p.word 0 / 2 ^ 32 ≤ 32768) (h5 : p.word 0 % 2 ^ 32 + p.word 0 / 2 ^ 32 ≤ 16777216) :
    kImageRead.run c p d = .ok (doneWait d (.flash
      (bytesWords c.mem.flash (copyBase p.target + p.word 0 % 2 ^ 32) (p.word 0 / 2 ^ 32) 0xFF))) := by
  have hlen : ¬(p.word 0 % 2 ^ 32 % 8 ≠ 0 ∨ p.word 0 / 2 ^ 32 % 8 ≠ 0 ∨ p.word 0 / 2 ^ 32 < 8 ∨
      32768 < p.word 0 / 2 ^ 32) := by omega
  have hfree : ¬(d.cmp.session.isSome = true ∧ d.get CMP_IMG_WRITE.COPY 0 = p.target) := fun h0 => hses h0.1 h0.2
  simp only [kImageRead, kspec, copyRun_of_lt hlt, if_neg hlen, if_neg (Nat.not_lt.mpr h5),
    if_neg hfree]

end

end Sys2Proof.Machine

open Sys2Proof Sys2Proof.Machine Sys2Proof.Machine.F in
/-- Settles O3: each command's meaning is computed under its premises, and what it commits is read off its effect. -/
theorem modeAndImageCommandsRun : Obligations.ModeAndImageCommandsRun := by
  intro s p s1 t
  refine ⟨fun m cur rel h hm hcur hrel => ⟨fun hin => ?_, fun x n s2 hout hb hwk hn hs2 => ?_, fun x d heco hne hb hwake hd => ?_⟩,
    fun h hc => ?_, fun c len gen d e h hc hlt hlen hgen h1 h2 h3 h4 h5 hother huse hd he => ?_,
    fun x off data late e h hlate hlt hx hoff hdata hnext hfit he => ?_, fun x r d h hlt hx hlen hr hd => ?_,
    fun h hlt hses h1 h2 h3 h4 h5 => ?_, fun x h hlt hx => ?_⟩
  · exact h.next_done (kModeSet_run_in hm hcur hin) (s1.admits_zero rfl _)
  · have hrun := kModeSet_run_builds (c := s1.cx) (d := s1.dev) hm hcur hrel hout hb hwk hn
    subst hs2
    by_cases heco : n.get X.CMP_ECO 0 = 1
    · rw [Dev.on_of_get heco, if_pos rfl] at hrun
      rw [if_pos heco]
      exact (h.next_moves (d := n) (o := .mode m) (l := rel.map .easy) rfl).2 _ hrun
    · rw [if_neg (by simpa [Dev.on] using heco)] at hrun
      rw [if_neg heco]
      exact (h.next_moves (d := n) (o := .mode m) (l := rel.map .easy) rfl).1 hrun
  · exact (h.next_moves (d := if d.pdOn 33 then d else d.powerUp 33) (o := .wakes m) (l := rel.map .easy)
      rfl).2 _ (kModeSet_run_wakes (c := s1.cx) (d := s1.dev) hm hcur hrel
      (fun he => hne (Option.some.inj (he.symm.trans heco))) hb heco hwake hd)
  · exact h.next_read (l := [0x3220000, 0x3220010, 0x3220018, 0x3220020, 0x3220028].map fun o => (.glob, o, 0)) hc rfl rfl
  · subst hc hlen hgen
    exact imageWriteBegin_next h hlt h1 h2 h3 h4 h5 hother huse hd he
  · have hrun := imageWriteData_run s1.cx s1.dev hlate hlt hx hoff hdata hnext hfit he
    refine ⟨fun hnil => ?_, fun hne => ?_⟩
    · exact h.next_done (hrun.trans (if_pos (by simp [hnil]))) (s1.admits_zero rfl _)
    · exact h.next_flash (l := [.write p.target (max off 64) late]) (hrun.trans (if_neg (by simpa using hne))) rfl
  · have hrun := imageWriteEnd_run (c := s1.cx) hlt hx hlen hr hd
    refine ⟨fun h0 => ?_, fun h0 => ?_⟩
    · simp only [if_pos h0] at hrun
      rw [← flashDo_write_start]
      exact h.next_flash (l := [.write p.target 0 x.header]) hrun rfl
    · simp only [if_neg h0] at hrun
      exact h.next_flash (l := []) hrun rfl
  · exact h.next_wait (imageRead_run hlt hses h1 h2 h3 h4 h5) (s1.admits_zero rfl _)
  · refine h.next_done ?_ (s1.admits_zero rfl _)
    simp only [kImageAbort, kspec, copyRun_of_lt hlt, hx, Option.isSome_some, if_true]
end

section
/-!
SUPPORT. Power domains, reference windows, transmit PLLs and the ends of resets as events. With these, O16.
-/
namespace Sys2Proof.Machine
open F

theorem Cmp.waits_eta {c : Cmp} (h : c.waits = []) : { c with waits := [] } = c := by rw [← h]

/-- With no command waiting none is answered. -/
theorem State.replyWaits_nil {s : State} (h : s.dev.cmp.waits = []) (g : Wait → Bool) (st det : Nat) (b : Wait → List Nat) :
    s.replyWaits g st det b = s := by
  unfold State.replyWaits
  rw [h]
  exact congrArg (fun c => ({ s with dev := { s.dev with cmp := c } } : State)) (Cmp.waits_eta h)

theorem State.domain33_of_nil {s : State} (h : s.dev.cmp.waits = []) : s.domain33 = s := by
  unfold State.domain33
  simp only [h, List.filterMap_nil, List.foldl_nil]
  exact State.replyWaits_nil (s := s) h _ _ _ _

theorem State.ecoSettled_of_not {s : State} (h : s.dev.get X.CMP_ECO 0 = 0) : s.ecoSettled = s :=
  if_neg fun hc => by simp [Dev.on, h] at hc

/-- An action that changes nothing at any object of a list. -/
theorem Dev.each_of_id {g : Dev → Nat → Dev} {d : Dev} {l : List Nat} (h : ∀ p ∈ l, g d p = d) : d.each l g = d := by
  induction l with
  | nil => rfl
  | cons p l ih => rw [Dev.each_cons, h p List.mem_cons_self, ih fun q hq => h q (List.mem_cons_of_mem _ hq)]

/-- One field written with one value at several objects. -/
theorem Dev.get_foldl_put (F : Fld) (v j : Nat) (g : Nat → Nat) {l : List Nat} (d : Dev)
    (h : d.get F j = v % 2 ^ F.w ∨ j ∈ l.map g) :
    (l.foldl (fun d i => d.put F (g i) v) d).get F j = v % 2 ^ F.w := by
  induction l generalizing d with
  | nil => exact h.resolve_right fun hj => nomatch hj
  | cons i l ih =>
    refine ih _ ?_
    by_cases hj : j = g i
    · exact Or.inl (hj ▸ d.get_put F (g i) v)
    · rw [Dev.get_put_ne _ _ (Or.inr hj)]
      exact h.imp_right fun hm => (List.mem_cons.mp hm).resolve_left hj

theorem Dev.pd_domainOn_high {d e : Dev} {k : Nat} (hk : k = 32 ∨ k = 33) (hst : (d.pd k).st = 1)
    (hstep : d.get CPX_START.STEP 0 ≠ 7)
    (he : e = d.setPd k ⟨if (d.pd k).downWait && d.mayPowerDown k then 3 else 2, false, false⟩) :
    d.domainOn k = if (d.pd k).downWait && !d.mayPowerDown k then
      e.put CPX_PD_CTL.REQ 0 (setBitAt (e.get CPX_PD_CTL.REQ 0) k) else e := by
  have hlt : ¬ k < 32 := by omega
  have hdown : ((d.pd k).downWait && !((d.pd k).downWait && d.mayPowerDown k)) = ((d.pd k).downWait && !d.mayPowerDown k) := by
    cases (d.pd k).downWait <;> rfl
  unfold Dev.domainOn
  rw [if_pos hst]
  dsimp only
  rw [if_neg hlt, ite_self, hdown, ← he, if_neg]
  split
  · rw [Dev.get_put_id _ _ _ _ (by decide), he, Dev.setPd_get]; exact hstep
  · rw [he, Dev.setPd_get]; exact hstep

theorem Dev.bankStale_f (d : Dev) (b : Nat) : ∃ f, d.bankStale b = { d with f := f } := by
  have hfold : ∀ (l : List Nat) (d : Dev), ∃ f,
      l.foldl (fun d i => d.put LN_EIGHT_STATUS.MIRROR_STALE (b * 8 + i) 1) d = { d with f := f } := fun l => by
    induction l with
    | nil => exact fun d => ⟨d.f, rfl⟩
    | cons i l ih => exact fun d => ih (d.put LN_EIGHT_STATUS.MIRROR_STALE (b * 8 + i) 1)
  unfold Dev.bankStale
  split
  · exact ⟨d.f, rfl⟩
  · exact hfold _ d

theorem Dev.pllsStop_f (d : Dev) (k : Nat) : ∃ f, d.pllsStop k = { d with f := f } := by
  have hfold : ∀ (l : List Nat) (d : Dev), ∃ f,
      l.foldl (fun d i => d.put LN_EIGHT_STATUS.TX_PLL_LOCK (k / 2 * 8 + i) 0) d = { d with f := f } := fun l => by
    induction l with
    | nil => exact fun d => ⟨d.f, rfl⟩
    | cons i l ih => exact fun d => ih (d.put LN_EIGHT_STATUS.TX_PLL_LOCK (k / 2 * 8 + i) 0)
  unfold Dev.pllsStop
  split
  · exact hfold _ d
  · exact ⟨d.f, rfl⟩

theorem Dev.pllsStop_pd (d : Dev) (k j : Nat) : (d.pllsStop k).pd j = d.pd j := by
  obtain ⟨f, hf⟩ := d.pllsStop_f k
  rw [hf]; rfl

theorem Dev.eightRuns_congr {d e : Dev} (h : ∀ k, e.pd k = d.pd k) (n : Nat) : e.eightRuns n = d.eightRuns n := by
  simp only [Dev.eightRuns, Dev.pdRuns, Dev.pdOn, h]

theorem mem_eights {b i : Nat} (h : i < 8) : b * 8 + i ∈ (List.range 8).map fun i => b * 8 + i :=
  List.mem_map_of_mem (f := fun i => b * 8 + i) (List.mem_range.mpr h)

/-- With no domain of the bank running the mirrors of its eights are stale. -/
theorem Dev.get_bankStale {d : Dev} {b i : Nat} (hi : i < 8) (h : d.eightRuns (b * 8) = false) :
    (d.bankStale b).get LN_EIGHT_STATUS.MIRROR_STALE (b * 8 + i) = 1 := by
  unfold Dev.bankStale
  rw [if_neg (by simp [h])]
  exact Dev.get_foldl_put _ 1 _ (fun i => b * 8 + i) d (Or.inr (mem_eights hi))

/-- A bank's transmit domain that is not ON has no transmit PLL running. -/
theorem Dev.get_pllsStop {d : Dev} {k i : Nat} (hk : k < 32) (heven : k % 2 = 0) (hoff : d.pdOn k = false) (hi : i < 8) :
    (d.pllsStop k).get LN_EIGHT_STATUS.TX_PLL_LOCK (k / 2 * 8 + i) = 0 := by
  unfold Dev.pllsStop
  rw [if_pos ⟨hk, heven, by simp [hoff]⟩]
  exact Dev.get_foldl_put _ 0 _ (fun i => k / 2 * 8 + i) d (Or.inr (mem_eights hi))

theorem Dev.powerDown_other {d : Dev} {k j : Nat} (h : j ≠ k) (hst : (d.pd k).st = 2) : (d.powerDown k).pd j = d.pd j := by
  simp only [Dev.powerDown, hst]
  exact Dev.pd_set_ne _ _ h.symm

/-- A draining domain is OFF, or on its way ON again where a power-up waited. -/
theorem Dev.domainOff_draining {d : Dev} {k : Nat} (h : (d.pd k).st = 3) :
    (d.domainOff k).pd k = ⟨if (d.pd k).upWait then 1 else 0, false, false⟩ ∧
    (k < 32 → (d.domainOff k).eightRuns (k / 2 * 8) = false → ∀ i, i < 8 →
      (d.domainOff k).get LN_EIGHT_STATUS.MIRROR_STALE (k / 2 * 8 + i) = 1) := by
  unfold Dev.domainOff
  rw [if_pos h]
  dsimp only
  refine ⟨?_, fun hk hoff i hi => ?_⟩
  · split
    · rw [Dev.bankStale_pd, Dev.pd_set]
    · exact Dev.pd_set _ _ _
  · rw [if_pos hk] at hoff ⊢
    rw [Dev.eightRuns_congr fun j => Dev.bankStale_pd _ _ j] at hoff
    exact Dev.get_bankStale hi hoff

theorem Dev.domainOff_keeps (d : Dev) (k : Nat) : Dev.keeps [LN_EIGHT_STATUS.MIRROR_STALE.id] d (d.domainOff k) := by
  have hstale : ∀ (x : Dev) b, Dev.keeps [LN_EIGHT_STATUS.MIRROR_STALE.id] x (x.bankStale b) := fun x b =>
    Dev.keeps.ite (Dev.keeps.refl _ _)
      (Dev.keeps.foldl (fun y i => Dev.keeps.put (by decide) (Dev.keeps.refl _ y)) (Dev.keeps.refl _ _))
  have hset : ∀ x, Dev.keeps [LN_EIGHT_STATUS.MIRROR_STALE.id] d (d.setPd k x) := fun x => Dev.keeps.setPd (Dev.keeps.refl _ _)
  exact Dev.keeps.ite (Dev.keeps.ite ((hset _).trans (hstale _ _)) (hset _)) (Dev.keeps.refl _ _)

/-- A domain that comes ON with nothing waiting for it changes nothing beside. -/
theorem State.settled_still {s : State} (hw : s.dev.cmp.waits = []) (heco : s.dev.get X.CMP_ECO 0 = 0) :
    (if s.dev.pdOn 33 then s.domain33 else s).ecoSettled = s := by
  rw [State.domain33_of_nil hw, ite_self, State.ecoSettled_of_not heco]

/-- A bank domain that comes ON in a bank without ports. -/
theorem Dev.domainOn_bank {d : Dev} {k : Nat} (hk : k < 32) (hst : (d.pd k).st = 1) (hb : d.bankPorts (k / 2) = [])
    (hstep : d.get CPX_START.STEP 0 ≠ 7) (hdw : (d.pd k).downWait = false) : d.domainOn k = d.setPd k ⟨2, false, false⟩ := by
  have hports : (d.setPd k ⟨2, false, false⟩).bankPorts (k / 2) = [] := hb
  have hcame : (d.setPd k ⟨2, false, false⟩).bankCameOn k = d.setPd k ⟨2, false, false⟩ := by
    rw [Dev.bankCameOn, hports, Dev.each_nil]
  unfold Dev.domainOn
  rw [if_pos hst]
  dsimp only
  rw [hdw, Bool.false_and, Bool.false_and, if_neg Bool.false_ne_true, if_neg Bool.false_ne_true, if_neg Bool.false_ne_true,
    if_pos hk, hcame]
  exact if_neg hstep

/-- The window of a checker whose complex does not act on it (R31). -/
theorem Dev.refWindow_still (d : Dev) (e n : Nat) :
    (d.refWindow false e n).get LN_EIGHT_STATUS.REF_OK e = (if 2436 ≤ n ∧ n ≤ 2447 then 1 else 0) ∧
    (d.refWindow false e n).get LN_EIGHT_STATUS.REF_COUNT e = min n 4095 ∧
    (n < 2436 ∨ 2447 < n → (d.refWindow false e n).get LN_EIGHT_STATUS.REF_FAULT e = 1) := by
  have hcount : min n 4095 % 2 ^ LN_EIGHT_STATUS.REF_COUNT.w = min n 4095 :=
    Nat.mod_eq_of_lt (lt_of_le_of_lt (min_le_right _ _) (by decide))
  unfold Dev.refWindow
  extract_lets ok was good shown staled
  rw [if_pos (show (!false) = true from rfl)]
  have hok : ok = decide (2436 ≤ n ∧ n ≤ 2447) := (Bool.decide_and _ _).symm
  have hstaled : staled.get LN_EIGHT_STATUS.REF_OK e = (if 2436 ≤ n ∧ n ≤ 2447 then 1 else 0) ∧
      staled.get LN_EIGHT_STATUS.REF_COUNT e = min n 4095 := by
    have hshown : shown.get LN_EIGHT_STATUS.REF_OK e = (if 2436 ≤ n ∧ n ≤ 2447 then 1 else 0) ∧
        shown.get LN_EIGHT_STATUS.REF_COUNT e = min n 4095 := by
      simp (disch := decide) only [shown, hok, Dev.puts_cons, Dev.puts_nil, Dev.get_put, Dev.get_put_id, flag,
        decide_eq_true_eq, hcount, and_true]
      split <;> rfl
    simp only [staled]
    split
    · simpa (disch := decide) only [Dev.get_put_id] using hshown
    · exact hshown
  split
  case isTrue hin => exact ⟨hstaled.1, hstaled.2, fun hout => by simp [hok] at hin; omega⟩
  case isFalse =>
    simp (disch := decide) only [Dev.get_put_id, Dev.get_put]
    exact ⟨hstaled.1, hstaled.2, fun _ => rfl⟩

/-- A window out of bounds at a complex that acts on it (R32). -/
theorem Dev.refWindow_bad {d m x : Dev} {e n : Nat} (hn : n < 2436 ∨ 2447 < n)
    (hm : m = d.puts e [(LN_EIGHT_STATUS.REF_OK, 0), (LN_EIGHT_STATUS.REF_COUNT, min n 4095), (X.REF_GOOD, 0)])
    (hx : x = (if n = 0 then m.put LN_EIGHT_STATUS.MIRROR_STALE e 1 else m).seen (srcEight e 8) 0) :
    d.refWindow true e n = if d.on LN_EIGHT_STATUS.REF_OK e then
      ((x.eightOff e).put X.REF_HOLD e 1).fault 48 (e * 8) sevDegraded (min n 4095) else x := by
  have hok : (decide (2436 ≤ n) && decide (n ≤ 2447)) = false := by
    rcases hn with h | h <;> simp [Nat.not_le.mpr h]
  simp [Dev.refWindow, hok, hx, hm, flag]

theorem Dev.attnStart_of_awake {d : Dev} {p : Nat} (h : (d.port p).txWake = false) : d.attnStart p = d :=
  if_neg (by simp [h])

/-- A PLL no port waits for only shows its lock. -/
theorem Dev.pllLocked_idle {d : Dev} {e : Nat} (hw : d.pllWanted e = true) (hr : d.get LN_EIGHT_STATUS.REF_OK e = 1)
    (hp : ∀ p ∈ d.eightPorts e, (d.port p).pllWait = false ∧ (d.port p).txWake = false) :
    d.pllLocked e = d.put LN_EIGHT_STATUS.TX_PLL_LOCK e 1 := by
  unfold Dev.pllLocked
  rw [if_pos (by simp [hw, Dev.on, hr])]
  refine Dev.each_of_id fun p hm => ?_
  obtain ⟨hpll, htx⟩ := hp p hm
  have hport : (d.put LN_EIGHT_STATUS.TX_PLL_LOCK e 1).port p = d.port p := rfl
  dsimp only
  rw [hport, hpll, if_neg Bool.false_ne_true]
  exact Dev.attnStart_of_awake htx

end Sys2Proof.Machine

open Sys2Proof Sys2Proof.Machine Sys2Proof.Machine.F in
/-- Settles O16: each event is one branch of its definition. -/
theorem powerEventsRun : Obligations.PowerEventsRun := by
  intro s
  refine ⟨fun k d e hc hk hst hstep hw heco hd he => ?_, fun k hc hk hst hb hstep hdw => ?_, fun k hc hst heco => ?_,
    fun hc hpd heco => ?_, fun k hc hk hst => ?_, fun k hc hs hk hon hidle => ?_, fun e n ha he => ?_,
    fun e n m d hc he hn hm hd => ?_, fun e hc he hw hr hp => ?_, fun e hc he h1 h0 => ?_, fun r hc hr hset => ?_,
    fun f hc hf hb => ?_⟩
  · have hdev : s.dev.domainOn k = e := (Dev.pd_domainOn_high hk hst hstep hd).trans he.symm
    rw [show exec (.domainOn k) s = execDomainOn k s from rfl, execDomainOn, if_neg (by omega), State.core_clocked hc, hdev]
    have hwaits : e.cmp.waits = [] := by
      rw [he, hd]
      split <;> exact hw
    have heco : e.get X.CMP_ECO 0 = 0 := by
      rw [he, hd]
      split
      · rw [Dev.get_put_id _ _ _ _ (by decide), Dev.setPd_get, heco]
      · rw [Dev.setPd_get, heco]
    dsimp only
    split
    · exact congrArg _ (State.settled_still (s := { s with dev := e }) hwaits heco)
    · rfl
  · rw [show exec (.domainOn k) s = execDomainOn k s from rfl, execDomainOn, if_neg (by omega), State.core_clocked hc,
      Dev.domainOn_bank hk hst hb hstep hdw]
    exact congrArg _ (if_neg (by omega))
  · rw [show exec (.domainOff k) s = execDomainOff k s from rfl, execDomainOff, State.core_clocked hc]
    refine ⟨s.dev.domainOff k, ?_, Dev.domainOff_draining hst⟩
    dsimp only
    split
    case isTrue hk => rw [State.ecoSettled_of_not ((s.dev.domainOff_keeps k _ _ (by decide)).trans (heco hk))]
    case isFalse => rfl
  · rw [show exec (.domainOff 33) s = execDomainOff 33 s from rfl, execDomainOff, State.core_clocked hc]
    have hoff : s.dev.domainOff 33 = s.dev.setPd 33 ⟨0, false, false⟩ := by simp [Dev.domainOff, hpd]
    have hon : (s.dev.setPd 33 ⟨0, false, false⟩).on X.CMP_ECO 0 = true := Dev.on_of_get ((Dev.setPd_get _ _ _ _ _).trans heco)
    have hnow : (s.dev.setPd 33 ⟨0, false, false⟩).pd 33 = ⟨0, false, false⟩ := Dev.pd_set _ _ _
    dsimp only
    rw [hoff, if_pos rfl, State.ecoSettled]
    exact congrArg _ (if_pos ⟨hon, by rw [hnow]; decide, by rw [hnow]; rfl⟩)
  · rw [show exec (.bankPower k) s = execBankPower k s from rfl, execBankPower, State.onDev_clocked hc, Dev.bankLate,
      if_pos ⟨hk, hst⟩]
  · have hst : (s.dev.pd k).st = 2 := by simpa [Dev.pdOn] using hon
    rw [show exec (.domainIdleOff k) s = execDomainIdleOff k s from rfl, execDomainIdleOff, State.onDev_clocked hc, hs,
      if_pos rfl, Dev.idleOff, if_pos ⟨hk, hon, hidle⟩]
    refine ⟨_, rfl, ?_, fun j hj => ?_, fun heven i hi => Dev.get_pllsStop hk heven ?_ hi⟩
    · rw [Dev.pllsStop_pd, Dev.powerDown_on hst]
    · rw [Dev.pllsStop_pd, Dev.powerDown_other hj hst]
    · rw [Dev.pdOn, Dev.powerDown_on hst]; rfl
  · rw [show exec (.refWindowEnd e n) s = execRefWindowEnd e n s from rfl, execRefWindowEnd, State.onIsland_awake ha, if_pos he]
    exact ⟨_, rfl, fun hl => by rw [hl]; exact s.dev.refWindow_still e n⟩
  · have hl : s.ctl.live = true := (s.clocked_iff.mp hc).2.2
    rw [show exec (.refWindowEnd e n) s = execRefWindowEnd e n s from rfl, execRefWindowEnd,
      State.onIsland_awake (State.clocked_awake hc), if_pos he, hl, Dev.refWindow_bad hn hm hd]
    exact ⟨fun h1 => by rw [Dev.on_of_get h1, if_pos rfl], fun h0 => by rw [Dev.not_on_of_get h0, if_neg Bool.false_ne_true]⟩
  · rw [show exec (.txPllLocked e) s = execTxPllLocked e s from rfl, execTxPllLocked, State.onDev_clocked hc, if_pos he,
      Dev.pllLocked_idle hw hr hp]
  · rw [show exec (.txPllUnlock e) s = execTxPllUnlock e s from rfl, execTxPllUnlock, State.onDev_clocked hc, if_pos he,
      Dev.pllLost, if_pos (Dev.on_of_get h1)]
    have hoff : ((s.dev.put LN_EIGHT_STATUS.TX_PLL_LOCK e 0).seen (srcEight e 9) 0).on LN_EIGHT_STATUS.REF_OK e = false := by
      rw [Dev.not_on_of_get]
      rw [Dev.seen_keeps _ _ _ _ _ (by decide), Dev.get_put_id _ _ _ _ (by decide), h0]
    dsimp only
    rw [hoff, if_neg Bool.false_ne_true]
  · rw [show exec (.resetComplete r) s = execResetComplete r s from rfl, execResetComplete, State.core_clocked hc,
      if_pos ⟨hr, hset⟩] <;> rfl
  · rw [show exec (.functionResetDone f) s = execFunctionResetDone f s from rfl, execFunctionResetDone, State.core_clocked hc,
      if_pos ⟨hf, Dev.on_of_get hb⟩]
end

section
/-!
SUPPORT. Mode switches of the compositor and refusals of packets. With these, O17.
-/
namespace Sys2Proof.Machine
open F

/-- A fault leaves the compositor alone but for a SAFE entry it holds. -/
theorem Dev.fault_cmp (d : Dev) (cls unit sev info : Nat) :
    (d.fault cls unit sev info).cmp = { d.cmp with safeHeld := (d.fault cls unit sev info).cmp.safeHeld } :=
  congrArg Dev.cmp (Dev.eq_of_sansDesk (Dev.faults_sansDesk d _)).2

section
variable {s : State} {c : Nat} {m : Mode} (hstart : s.dev.cmp.startMode = some c) (hm : modeOf c = some m)
  (hst : s.ctl.state = .ready) (hent : s.dev.get FLT_STATUS.ENTERING 0 = 0)
include hstart hm hst hent

theorem State.startSwitch_ok {x : Ran}
    (hb : Dev.modeBuild s.cx ({ s.dev.put CPX_START.STEP 0 0 with
      cmp := { s.dev.cmp with startMode := none } } : Dev) none m = .ok x) :
    s.startSwitch = { s with
      ctl := { s.ctl with mode := some m, state := .running, switching := none }
      dev := Dev.modeEnter x m } := by
  have hnow : ¬(s.ctl.state ≠ .ready ∨ s.dev.on FLT_STATUS.ENTERING 0 = true) := by simp [hst, Dev.on, hent]
  simp only [State.startSwitch, hstart, Option.bind_some, hm, if_neg hnow]
  dsimp only [Dev.put, State.cx] at hb ⊢
  rw [hb]
  rfl

/-- A start-up switch that is refused leaves what CMP_IMG_LOAD shows of the refusal. -/
theorem State.startSwitch_error {e : Ref × Nat × Nat}
    (hb : Dev.modeBuild s.cx ({ s.dev.put CPX_START.STEP 0 0 with
      cmp := { s.dev.cmp with startMode := none } } : Dev) none m = .error e) :
    ∃ d, s.startSwitch = { s with dev := d } ∧ d.cmp.startMode = none ∧
      d.get CMP_IMG_LOAD.STATUS 0 = e.1.status % 16 ∧ d.get CMP_IMG_LOAD.DETAIL 0 = e.1.detail % 2 ^ 16 := by
  have hnow : ¬(s.ctl.state ≠ .ready ∨ s.dev.on FLT_STATUS.ENTERING 0 = true) := by simp [hst, Dev.on, hent]
  simp only [State.startSwitch, hstart, Option.bind_some, hm, if_neg hnow]
  dsimp only [Dev.put, State.cx] at hb ⊢
  rw [hb]
  refine ⟨_, rfl, ?_, ?_, ?_⟩
  · rw [Dev.fault_cmp]; rfl
  · rw [Dev.fault_keeps _ _ _ _ _ _ _ (by decide), Dev.get_inc_id _ _ _ (by decide)]
    simp (disch := decide) only [Dev.puts_cons, Dev.puts_nil, Dev.get_put, Dev.get_put_id]
    rfl
  · rw [Dev.fault_keeps _ _ _ _ _ _ _ (by decide), Dev.get_inc_id _ _ _ (by decide)]
    simp (disch := decide) only [Dev.puts_cons, Dev.puts_nil, Dev.get_put, Dev.get_put_id]
    rfl

end

/-- A switch whose wakes have ended commits, or is refused. -/
theorem State.modeCommit_ok {s : State} {m : Mode} {x : Ran} (hsw : s.ctl.switching = some m)
    (hnow : ¬((!s.dev.easyTx.isEmpty) = true ∨ (!s.dev.pdOn 33) = true ∨ s.dev.on FLT_STATUS.ENTERING 0 = true))
    (hb : s.dev.modeBuild s.cx s.ctl.mode m = .ok x) :
    s.modeCommit = ({ s with
      ctl := { s.ctl with mode := some m, state := .running, switching := none }
      dev := Dev.modeEnter x m } : State).replyWaits (· == .modeSwitch) := by
  simp only [State.modeCommit, hsw, if_neg hnow, hb]
  rfl

theorem State.modeCommit_error {s : State} {m : Mode} {e : Ref × Nat × Nat} (hsw : s.ctl.switching = some m)
    (hnow : ¬((!s.dev.easyTx.isEmpty) = true ∨ (!s.dev.pdOn 33) = true ∨ s.dev.on FLT_STATUS.ENTERING 0 = true))
    (hb : s.dev.modeBuild s.cx s.ctl.mode m = .error e) :
    s.modeCommit = ({ s with
      ctl := { s.ctl with switching := none }
      dev := s.dev.inc CMP_MODE_REFUSED.COUNT 0 } : State).replyWaits (· == .modeSwitch) e.1.status e.1.detail
        fun _ => [e.1.arg0, e.1.arg1] := by
  simp only [State.modeCommit, hsw, if_neg hnow, hb]

theorem Dev.wakesEnded {d : Dev} (heasy : d.easyTx = []) (hon : d.pdOn 33 = true) (hent : d.get FLT_STATUS.ENTERING 0 = 0) :
    ¬((!d.easyTx.isEmpty) = true ∨ (!d.pdOn 33) = true ∨ d.on FLT_STATUS.ENTERING 0 = true) := by
  simp [heasy, hon, Dev.on, hent]

end Sys2Proof.Machine

open Sys2Proof Sys2Proof.Machine Sys2Proof.Machine.F in
/-- Settles O17: each event is one branch of its definition. -/
theorem compositorEventsRun : Obligations.CompositorEventsRun := by
  intro s hc
  refine ⟨fun c m x hs hm hst hent hb => ?_, fun c m e hs hm hst hent hb => ?_, fun m x hsw heasy hon hent hb => ?_,
    fun m e hsw heasy hon hent hb => ?_, fun n w body d hw hwhy hd => ?_, fun n w p hw hwhy hent => ?_,
    fun s1 ht htake hend => ?_, fun s1 f w d hf ht hv hlen hd hend => ?_, fun s1 r seq op bytes ht htake hend hr => ?_,
    fun s1 f w r seq op bytes d hf ht hv hlen hlo hhi hr hd hend => ?_⟩
  · rw [show exec .startModeSwitch s = s.core State.startSwitch from rfl, State.core_clocked hc,
      State.startSwitch_ok hs hm hst hent hb]
  · rw [show exec .startModeSwitch s = s.core State.startSwitch from rfl, State.core_clocked hc]
    obtain ⟨d, hd, hrest⟩ := State.startSwitch_error hs hm hst hent hb
    exact ⟨d, congrArg _ hd, hrest⟩
  · rw [show exec .modeSwitchCommit s = s.core State.modeCommit from rfl, State.core_clocked hc,
      State.modeCommit_ok hsw (Dev.wakesEnded heasy hon hent) hb]
  · rw [show exec .modeSwitchCommit s = s.core State.modeCommit from rfl, State.core_clocked hc,
      State.modeCommit_error hsw (Dev.wakesEnded heasy hon hent) hb]
  · rw [show exec (.commandWaitEnd n) s = s.core (fun s => s.waitEnd n) from rfl, State.core_clocked hc]
    simp only [State.waitEnd, hw, hwhy, ← hd]
  · rw [show exec (.commandWaitEnd n) s = s.core (fun s => s.waitEnd n) from rfl, State.core_clocked hc]
    simp only [State.waitEnd, hw, hwhy, hent, Bool.false_eq_true, if_false]
    rfl
  · rw [show exec (.kilLen 64) s = s.core (fun s => s.lenRefused 64) from rfl, State.core_clocked hc]
    simp only [State.lenRefused, ht]
    rw [if_neg (by decide), if_pos ⟨htake, by simp [hend]⟩]
    rfl
  · rw [show exec (.kilLen f) s = s.core (fun s => s.lenRefused f) from rfl, State.core_clocked hc]
    simp only [State.lenRefused, ht, if_pos hf, hv, ← hd, hend, Bool.false_eq_true, if_false]
    rw [if_neg (by omega)]
    rfl
  · rw [show exec (.commandPacketRefused 64 bytes) s = s.core (fun s => s.packetRefused listedOpcodes 64 bytes) from rfl,
      State.core_clocked hc]
    have htakes : s1.mboxTakes true = true ∧ (!s1.dev.ending) = true := ⟨htake, by simp [hend]⟩
    simp only [State.packetRefused, ht, show ¬(64 : Nat) < 64 from by decide, if_false, if_pos htakes, hr]
    rfl
  · rw [show exec (.commandPacketRefused f bytes) s = s.core (fun s => s.packetRefused listedOpcodes f bytes) from rfl,
      State.core_clocked hc]
    have hbytes : ¬(cmdLen w ≠ bytes.length ∨ cmdLen w < 32 ∨ 8192 < cmdLen w) := by omega
    simp only [State.packetRefused, ht, if_pos hf, hv, if_neg hbytes, hr, ← hd, hend, Bool.false_eq_true, if_false]
    rfl
end

section
/-!
SUPPORT. The layout read through a change of other fields, and the events of a lane. With these, O18.
-/
namespace Sys2Proof.Machine
open F

theorem State.onLane_clocked {s : State} (h : s.clocked = true) {n : Nat} (hn : n < 1024) (g : Dev → Dev) :
    s.onLane n g = .next { s with dev := g s.dev } :=
  by rw [State.onLane, State.onDev_clocked h, if_pos hn]

theorem State.onPort_clocked {s : State} (h : s.clocked = true) {p : Nat} (hp : s.dev.isLanePort p = true) (g : Dev → Dev) :
    s.onPort p g = .next { s with dev := g s.dev } :=
  by rw [State.onPort, State.onDev_clocked h, if_pos hp]

/-- Two devices of one committed layout (R18). -/
def Dev.Laid (d e : Dev) : Prop := ∀ i < 8, ∀ j, e.get (LN_EIGHT_PORTMAP.FIRST i) j = d.get (LN_EIGHT_PORTMAP.FIRST i) j ∧
  e.get (LN_EIGHT_PORTMAP.WIDTH i) j = d.get (LN_EIGHT_PORTMAP.WIDTH i) j

namespace Dev.Laid
variable {d e : Dev}

theorem of_keeps {S : List Nat} (hk : Dev.keeps S d e) (hS : ∀ x ∈ S, 16 ≤ x) : Dev.Laid d e := by
  intro i hi j
  have hfree : ∀ n < 16, n ∉ S := fun n hn hm => absurd (hS n hm) (by omega)
  exact ⟨hk _ j (hfree (8 + i) (by omega)), hk _ j (hfree (0 + i) (by omega))⟩

theorem trans {f : Dev} (h : Dev.Laid d e) (k : Dev.Laid e f) : Dev.Laid d f := fun i hi j =>
  ⟨((k i hi j).1).trans (h i hi j).1, ((k i hi j).2).trans (h i hi j).2⟩

theorem put {F : Fld} {i v : Nat} (hF : 16 ≤ F.id) : Dev.Laid d (d.put F i v) :=
  of_keeps (S := [F.id]) (Dev.keeps.put List.mem_cons_self (Dev.keeps.refl _ _)) fun _ hx => List.mem_singleton.mp hx ▸ hF

theorem portWidth (h : Dev.Laid d e) (p : Nat) : e.portWidth p = d.portWidth p := by
  have hp := h (p % 8) (Nat.mod_lt _ (by decide)) (p / 8)
  simp only [Dev.portWidth, hp.1, hp.2]

theorem portLanes (h : Dev.Laid d e) (p : Nat) : e.portLanes p = d.portLanes p := by
  simp only [Dev.portLanes, h.portWidth]

theorem isLanePort (h : Dev.Laid d e) (p : Nat) : e.isLanePort p = d.isLanePort p := by
  simp only [Dev.isLanePort, Dev.isPort, h.portWidth]

theorem portOf (h : Dev.Laid d e) (n : Nat) : e.portOf n = d.portOf n := by
  have hcand : ((List.range (n % 8 + 1)).reverse.find? fun i => e.get (LN_EIGHT_PORTMAP.FIRST i) (n / 8) == 1) =
      (List.range (n % 8 + 1)).reverse.find? fun i => d.get (LN_EIGHT_PORTMAP.FIRST i) (n / 8) == 1 := by
    refine List.find?_congr fun i hi => ?_
    have hlt : i < n % 8 + 1 := List.mem_range.mp (List.mem_reverse.mp hi)
    rw [(h i (by omega) _).1]
  unfold Dev.portOf
  dsimp only
  rw [hcand]
  split
  case h_1 i hi =>
    have hlt : i < n % 8 + 1 := List.mem_range.mp (List.mem_reverse.mp (List.mem_of_find?_eq_some hi))
    rw [(h i (by omega) _).2]
  case h_2 => rfl

end Dev.Laid

theorem Dev.laneState_put {F : Fld} (d : Dev) (i v n : Nat) (h : F.id ≠ LN_LAUNCH_STATUS.STATE.id) :
    (d.put F i v).laneState n = d.laneState n := d.get_put_id i n v h

theorem Dev.rxAwake_put {F : Fld} (d : Dev) (i v n : Nat) (h : F.id ≠ LN_EASY.RX_EASY.id) :
    (d.put F i v).rxAwake n = d.rxAwake n := by
  rw [Dev.rxAwake, Dev.on, d.get_put_id i n v h]; rfl

section
variable {d : Dev} {n p : Nat}

theorem Dev.losAssert_looped (h : d.get LN_CTL.LOOPBACK n ≠ 0) : d.losAssert n = d ∧ d.cdrUnlock n = d := by
  have hloop : d.nearLoop n = true := bne_iff_ne.mpr h
  exact ⟨if_pos (by simp [hloop]), if_neg (by simp [hloop])⟩

/-- LOS asserted on a lane that had signal, once its bits are shown (R46). -/
theorem Dev.losAssert_shown {e : Dev} (hlos : d.get LN_STATUS.LOS n = 0) (hloop : d.get LN_CTL.LOOPBACK n = 0)
    (he : e = (d.put LN_STATUS.LOS n 1).put LN_STATUS.LOS_SEEN n 1) :
    (d.portOf n = none → d.losAssert n = e) ∧
    (∀ p, d.portOf n = some p → d.losAssert n =
      if (d.port p).easyArmed && d.laneState p == stActive && d.rxAwake n then e.rxEasy p else e.signalLost n) := by
  have hcond : ¬((d.on LN_STATUS.LOS n || d.nearLoop n) = true) := by simp [Dev.on, Dev.nearLoop, hlos, hloop]
  have hputs : d.puts n [(LN_STATUS.LOS, 1), (LN_STATUS.LOS_SEEN, 1)] = e := he.symm
  have hport : e.portOf n = d.portOf n :=
    he ▸ ((Dev.Laid.put (by decide)).trans (Dev.Laid.put (by decide)) : Dev.Laid d _).portOf n
  have hst : ∀ p, e.laneState p = d.laneState p := fun p => by
    rw [he, Dev.laneState_put _ _ _ _ (by decide), Dev.laneState_put _ _ _ _ (by decide)]
  have hrx : e.rxAwake n = d.rxAwake n := by
    rw [he, Dev.rxAwake_put _ _ _ _ (by decide), Dev.rxAwake_put _ _ _ _ (by decide)]
  have hp : ∀ p, e.port p = d.port p := fun p => by rw [he]; rfl
  unfold Dev.losAssert
  rw [if_neg hcond, hputs]
  dsimp only
  refine ⟨fun h => ?_, fun p h => ?_⟩ <;> rw [hport, h]
  simp only [hp, hst, hrx]

theorem Dev.losDeassert_on (hst : d.laneState n ≠ stOff) (hrx : d.rxAwake n = true) :
    (d.portOf n = none → d.losDeassert n = d.put LN_STATUS.LOS n 0) ∧
    (∀ p, d.portOf n = some p → d.losDeassert n = (d.put LN_STATUS.LOS n 0).commaSearch p n) := by
  have hport : (d.put LN_STATUS.LOS n 0).portOf n = d.portOf n := (Dev.Laid.put (by decide) : Dev.Laid d _).portOf n
  unfold Dev.losDeassert
  rw [if_neg (by simp [hst, hrx])]
  dsimp only
  refine ⟨fun h => ?_, fun p h => ?_⟩ <;> rw [hport, h]

theorem Dev.cdrLock_signal (hlos : d.get LN_STATUS.LOS n = 0) :
    (d.portOf n = none → d.cdrLock n = d.put LN_STATUS.CDR_LOCK n 1) ∧
    (∀ p, d.portOf n = some p → d.cdrLock n = ((d.put LN_STATUS.CDR_LOCK n 1).commaSearch p n).trainStep p) := by
  have hport : (d.put LN_STATUS.CDR_LOCK n 1).portOf n = d.portOf n := (Dev.Laid.put (by decide) : Dev.Laid d _).portOf n
  unfold Dev.cdrLock
  rw [if_neg (by simp [Dev.on, hlos])]
  dsimp only
  refine ⟨fun h => ?_, fun p h => ?_⟩ <;> rw [hport, h]

theorem Dev.commaSearch_starts (h1 : (d.port p).codingRx = true) (h2 : d.get LN_STATUS.CDR_LOCK n = 1)
    (h3 : d.get LN_STATUS.LOS n = 0) (h4 : d.get LN_STATUS.COMMA_STATE n = 0) :
    d.commaSearch p n = d.put LN_STATUS.COMMA_STATE n 1 := if_pos (by simp [Dev.on, h1, h2, h3, h4])

theorem Dev.commaSearch_stays
    (h : (d.port p).codingRx = false ∨ d.get LN_STATUS.CDR_LOCK n = 0 ∨ d.get LN_STATUS.COMMA_STATE n ≠ 0) :
    d.commaSearch p n = d := by
  refine if_neg fun hc => ?_
  simp only [Bool.and_eq_true, Dev.on, beq_iff_eq] at hc
  obtain ⟨⟨⟨h1, h2⟩, -⟩, h4⟩ := hc
  rcases h with h | h | h
  · rw [h] at h1; cases h1
  · omega
  · exact h h4

theorem Dev.powerUp_port (k : Nat) : (d.powerUp k).port p = d.port p := by
  unfold Dev.powerUp
  dsimp only
  split <;> rfl

/-- Attention on an armed lane (R60), by the receive direction of its port. -/
theorem Dev.attention_armed {e : Dev} (harm : d.get LN_EASY.ATTN_ARMED n = 1)
    (he : e = ((d.seen (srcEight (n / 8) 12) (n % 8)).inc LN_EASY.ATTN_COUNT n).put LN_EASY.ATTN_ARMED n 0) :
    (e.portOf n = none → d.attention n = e) ∧
    (∀ p, e.portOf n = some p → e.get LN_EASY.RX_EASY p = 1 → d.attention n =
      if e.pdOn (rxDomain p) then (e.setPort p { e.port p with wakeT := true }).wakeRx p
      else ((e.setPort p { e.port p with wakeT := true }).setPort p
        { e.port p with wakeT := true, rxWakePend := true }).powerUp (rxDomain p)) := by
  unfold Dev.attention
  rw [if_pos (Dev.on_of_get harm)]
  dsimp only
  rw [← he]
  refine ⟨fun h => ?_, fun p h hrx => ?_⟩ <;> rw [h]
  dsimp only
  rw [if_pos (Dev.on_of_get hrx), Dev.port_set]
  rfl

/-- A Celori frame on a lane that trains (R86, R89). -/
theorem Dev.trainingFrame_celori (w : Nat) (hp : d.portOf n = some p)
    (hst : d.laneState n = stTrain ∨ d.laneState n = stLock ∨ d.laneState n = stRoster) :
    (d.get LN_LAUNCH_STATUS.PARTNER p = 1 → d.trainingFrame n (.celori w) = d) ∧
    (d.get LN_LAUNCH_STATUS.PARTNER p ≠ 1 → d.trainingFrame n (.celori w) =
      if frameWordOk w then ((d.markFrame n true).celoriWord p n w).trainStep p else (d.markFrame n false).trainStep p) := by
  have hpast : d.laneState n ≠ stDetect := by rcases hst with h | h | h <;> rw [h] <;> decide
  unfold Dev.trainingFrame
  rw [hp]
  dsimp only
  rw [if_pos (Or.inr hst)]
  refine ⟨fun h => if_pos h, fun h => ?_⟩
  rw [if_neg h]
  simp only [hpast, false_and, if_false, ne_eq, not_false_eq_true, and_true]
  cases frameWordOk w <;> rfl

theorem Dev.trainingLost_eq (d : Dev) (n : Nat) : d.trainingLost n = if d.laneState n = stLock then
    ((d.setLane n { d.lane n with markers := 0, frameLock := false }).put LN_LAUNCH_STATUS.STATE n stTrain).searchStart n
    else d.setLane n { d.lane n with markers := 0, frameLock := false } := by
  simp only [Dev.trainingLost, beq_iff_eq]
  rfl

/-- An eye measurement, by what is left of the lane's search (R51). -/
theorem Dev.eyeMeasured_cases {e : Dev} (eye : Nat)
    (he : e = if d.get LN_STATUS.CDR_LOCK n = 1 then d.put LN_EQ_LIVE.EYE n (min eye 255) else d) :
    ((d.lane n).search = none → d.eyeMeasured n eye = e) ∧
    (∀ x, (d.lane n).search = some x → (searchStep x eye).todo ≠ [] →
      d.eyeMeasured n eye = e.setLane n { d.lane n with search := some (searchStep x eye) }) ∧
    (∀ x, (d.lane n).search = some x → (searchStep x eye).todo = [] → d.portOf n = none →
      d.eyeMeasured n eye = (e.put LN_EQ_LIVE.PEAK n (searchStep x eye).best).setLane n
        { d.lane n with search := none, searchDone := true, trained := (searchStep x eye).best }) := by
  have hlane : e.lane n = d.lane n := by rw [he]; split <;> rfl
  have hport : ∀ b, (e.put LN_EQ_LIVE.PEAK n b).portOf n = d.portOf n := fun b => by
    refine (Dev.Laid.trans (e := e) ?_ (Dev.Laid.put (by decide))).portOf n
    rw [he]
    split
    · exact Dev.Laid.put (by decide)
    · exact fun _ _ _ => ⟨rfl, rfl⟩
  have hshown : (if d.on LN_STATUS.CDR_LOCK n = true then d.put LN_EQ_LIVE.EYE n (min eye 255) else d) = e := by
    rw [he]; simp only [Dev.on, beq_iff_eq]
  unfold Dev.eyeMeasured
  rw [hshown]
  dsimp only
  rw [hlane]
  refine ⟨fun h => ?_, fun x h hmore => ?_, fun x h hlast hnone => ?_⟩ <;> rw [h] <;> dsimp only
  · rw [if_neg (by simp [hmore])]
  · rw [if_pos (by simp [hlast])]
    rw [show ((e.put LN_EQ_LIVE.PEAK n (searchStep x eye).best).setLane n _).portOf n =
      (e.put LN_EQ_LIVE.PEAK n (searchStep x eye).best).portOf n from rfl, hport, hnone]

end

end Sys2Proof.Machine

open Sys2Proof Sys2Proof.Machine Sys2Proof.Machine.F in
/-- Settles O18: each event of a lane is one branch of its definition. -/
theorem laneEventsRun : Obligations.LaneEventsRun := by
  intro s n hc hn
  have hlane := fun g => State.onLane_clocked hc hn g
  refine ⟨fun d h1 h2 hd => ?_, fun h => ?_, fun d h1 h2 hd => ⟨fun h => ?_, fun p hp h3 h4 h5 => ?_⟩, fun h =>
    ⟨fun hp => ?_, fun p hp h3 => ?_, fun p hp h3 h4 => ?_⟩,
    fun h1 h2 => ?_, fun ppm h1 h2 => ?_, fun ppm h1 h2 => ?_, fun runs d hr ha hd => ?_, fun p w hp hst => ?_, fun h =>
      ?_, fun h => ?_,
    fun eye d hd => ?_, fun up q hq h1 h2 h3 h4 h5 h6 => ?_, fun h => ?_, fun bits h1 h2 h3 h4 => ?_⟩
  · rw [show exec (.losAssert n) s = s.onLane n (fun d => d.losAssert n) from rfl, hlane]
    obtain ⟨hnone, hsome⟩ := Dev.losAssert_shown h1 h2 hd
    refine ⟨fun h => by rw [hnone h], fun p hp ha hst hrx => ?_, fun p hp ha => ?_⟩
    · rw [hsome p hp, if_pos (by simp [ha, hst, hrx])]
    · rw [hsome p hp, if_neg (by simp [ha])]
  · rw [show exec (.losAssert n) s = s.onLane n (fun d => d.losAssert n) from rfl,
      show exec (.cdrUnlock n) s = s.onLane n (fun d => d.cdrUnlock n) from rfl, hlane, hlane, (Dev.losAssert_looped h).1,
      (Dev.losAssert_looped h).2]
    exact ⟨rfl, rfl⟩
  · rw [show exec (.losDeassert n) s = s.onLane n (fun d => d.losDeassert n) from rfl, hlane]
    obtain ⟨hnone, hsome⟩ := Dev.losDeassert_on h1 h2
    cases hp : s.dev.portOf n with
    | none => rw [hnone hp, hd]
    | some p =>
      have hlock : (s.dev.put LN_STATUS.LOS n 0).get LN_STATUS.CDR_LOCK n = s.dev.get LN_STATUS.CDR_LOCK n :=
        Dev.get_put_id _ _ _ _ (by decide)
      have hcomma : (s.dev.put LN_STATUS.LOS n 0).get LN_STATUS.COMMA_STATE n = s.dev.get LN_STATUS.COMMA_STATE n :=
        Dev.get_put_id _ _ _ _ (by decide)
      rw [hsome p hp, hd, Dev.commaSearch_stays (Or.inr (by rw [hlock, hcomma]; exact h.resolve_left (by simp [hp])))]
  · rw [show exec (.losDeassert n) s = s.onLane n (fun d => d.losDeassert n) from rfl, hlane, (Dev.losDeassert_on h1 h2).2 p hp,
      hd, Dev.commaSearch_starts (d := s.dev.put LN_STATUS.LOS n 0) h3 ((Dev.get_put_id _ _ _ _ (by decide)).trans h4)
        (Dev.get_put _ _ _ _) ((Dev.get_put_id _ _ _ _ (by decide)).trans h5)]
  · rw [show exec (.cdrLock n) s = s.onLane n (fun d => d.cdrLock n) from rfl, hlane, (Dev.cdrLock_signal h).1 hp]
  · rw [show exec (.cdrLock n) s = s.onLane n (fun d => d.cdrLock n) from rfl, hlane, (Dev.cdrLock_signal h).2 p hp,
      Dev.commaSearch_stays (d := s.dev.put LN_STATUS.CDR_LOCK n 1) (Or.inl h3)]
  · rw [show exec (.cdrLock n) s = s.onLane n (fun d => d.cdrLock n) from rfl, hlane, (Dev.cdrLock_signal h).2 p hp,
      Dev.commaSearch_starts (d := s.dev.put LN_STATUS.CDR_LOCK n 1) h3 (Dev.get_put _ _ _ _)
        ((Dev.get_put_id _ _ _ _ (by decide)).trans h) ((Dev.get_put_id _ _ _ _ (by decide)).trans h4)]
  · rw [show exec (.cdrUnlock n) s = s.onLane n (fun d => d.cdrUnlock n) from rfl, hlane, Dev.cdrUnlock,
      if_pos (by simp [Dev.on, Dev.nearLoop, h1, h2])]
  · rw [show exec (.rxPpmUpdate n ppm) s = s.onLane n (fun d => d.ppmUpdate n ppm) from rfl, hlane, Dev.ppmUpdate,
      if_pos (Dev.on_of_get h1)]
    exact congrArg (fun d => Host.Outcome.next { s with dev := d }) (if_neg (Nat.not_lt.mpr h2))
  · rw [show exec (.rxPpmUpdate n ppm) s = s.onLane n (fun d => d.ppmUpdate n ppm) from rfl, hlane, Dev.ppmUpdate,
      if_pos (Dev.on_of_get h1)]
    exact congrArg (fun d => Host.Outcome.next { s with dev := d }) (if_pos h2)
  · rw [show exec (.attentionDeclared n runs) s = s.onLane n (fun d => if attnDecodes runs then d.attention n else d) from rfl,
      hlane, if_pos hr]
    obtain ⟨hnone, hsome⟩ := Dev.attention_armed ha hd
    refine ⟨fun h => by rw [hnone h], fun p hp hrx hon => ?_, fun p r hp hrx hoff hr => ?_⟩
    · rw [hsome p hp hrx, if_pos hon]
    · rw [hsome p hp hrx, if_neg (by simp [hoff])]
      refine ⟨_, rfl, ?_, fun hst => ?_⟩
      · rw [Dev.powerUp_port, Dev.port_set, hr]
      · refine (congrArg PdSt.st (Dev.powerUp_off ?_)).trans rfl
        exact hst
  · rw [show exec (.trainingFrame n (.celori w)) s = s.onLane n (fun d => d.trainingFrame n (.celori w)) from rfl, hlane]
    obtain ⟨hieee, hcel⟩ := Dev.trainingFrame_celori w hp hst
    exact ⟨fun h => by rw [hieee h], fun h => by rw [hcel h]⟩
  · rw [show exec (.trainingLockLoss n) s = s.onLane n (fun d => d.trainingLost n) from rfl, hlane]
    rw [Dev.trainingLost_eq, if_neg h]
  · rw [show exec (.trainingLockLoss n) s = s.onLane n (fun d => d.trainingLost n) from rfl, hlane]
    rw [Dev.trainingLost_eq, if_pos h]
  · rw [show exec (.eyeMeasurement n eye) s = s.onLane n (fun d => d.eyeMeasured n eye) from rfl, hlane]
    obtain ⟨h1, h2, h3⟩ := Dev.eyeMeasured_cases eye hd
    exact ⟨fun h => by rw [h1 h], fun x hx hmore => by rw [h2 x hx hmore],
      fun x b e hx hlast hnone hb he => by rw [h3 x hx hlast hnone, he, hb]⟩
  · rw [show exec (.peakTrackStep n up) s = s.onLane n (fun d => d.trackStep n up) from rfl, hlane]
    simp only [Dev.trackStep, ← hq]
    rw [if_pos ⟨Dev.on_of_get h1, h2, h3, h4, h5, h6⟩]
  · rw [show exec (.inject n) s = execInject n s from rfl, execInject, hlane, if_neg h]
  · have hfeed : ∀ l, s.dev.chkPins s.ctl n l = s.dev.chkFeed n l := fun l =>
      if_pos (by simp [Dev.checking, Ctl.proofing, h1, h2, h3, Dev.nearLoop, h4])
    refine ⟨?_, fun w => ?_⟩
    · rw [show exec (.patternCheckerLock ⟨n, bits⟩) s = execPatternCheckerLock ⟨n, bits⟩ s from rfl, execPatternCheckerLock,
        State.onDev_clocked hc, if_pos hn, hfeed]
    · rw [show exec (.patternCheckerLost n bits w) s = execPatternCheckerLost n bits w s from rfl, execPatternCheckerLost,
        State.onDev_clocked hc, if_pos hn, hfeed]
end

section
/-!
SUPPORT. Fields of a port's lanes written together, and the shared moves of the launch machine. With these, O21.
-/
namespace Sys2Proof.Machine
open F

namespace Dev.Laid
variable {d e : Dev}

theorem refl (d : Dev) : Dev.Laid d d := fun _ _ _ => ⟨rfl, rfl⟩

theorem symm (h : Dev.Laid d e) : Dev.Laid e d := fun i hi j => ⟨(h i hi j).1.symm, (h i hi j).2.symm⟩

theorem portPut {F : Fld} {p v : Nat} (hF : 16 ≤ F.id) : Dev.Laid d (d.portPut p F v) :=
  of_keeps (S := [F.id]) (Dev.keeps.portPut List.mem_cons_self (Dev.keeps.refl _ _)) fun _ hx => List.mem_singleton.mp hx ▸ hF

end Dev.Laid

section
variable {d : Dev} {p n : Nat}

/-- A field of every lane of a port reads back on each of them. -/
theorem Dev.get_portPut (F : Fld) (v : Nat) (hn : n ∈ d.portLanes p) : (d.portPut p F v).get F n = v % 2 ^ F.w :=
  Dev.get_foldl_put F v n id d (Or.inr (by rwa [List.map_id]))

theorem Dev.get_portPut_id {F G : Fld} (v : Nat) (h : F.id ≠ G.id) : (d.portPut p F v).get G n = d.get G n :=
  Dev.keeps.portPut (S := [F.id]) List.mem_cons_self (Dev.keeps.refl _ d) G n fun hG => h (List.mem_singleton.mp hG).symm

theorem Dev.portLanes_portPut {F : Fld} (v q : Nat) (hF : 16 ≤ F.id) : (d.portPut p F v).portLanes q = d.portLanes q :=
  (Dev.Laid.portPut hF).portLanes q

theorem Dev.portPut_port (F : Fld) (v q : Nat) : (d.portPut p F v).port q = d.port q :=
  Dev.each_keeps (P := fun x => x.port q = d.port q) (g := fun d n => d.put F n v) (fun _ _ h => h) _ d rfl

/-- Fields of every lane of a port, written one after another. -/
def Dev.portPuts (d : Dev) (p : Nat) (l : List (Fld × Nat)) : Dev := l.foldl (fun d q => d.portPut p q.1 q.2) d

theorem Dev.portPuts_keeps {S : List Nat} {l : List (Fld × Nat)} (hl : ∀ q ∈ l, q.1.id ∈ S) :
    Dev.keeps S d (d.portPuts p l) :=
  Dev.keeps.foldl_mem (fun _ q hq => Dev.keeps.portPut (hl q hq) (Dev.keeps.refl _ _)) (Dev.keeps.refl _ _)

theorem Dev.Laid.portPuts {l : List (Fld × Nat)} (hl : ∀ q ∈ l, 16 ≤ q.1.id) : Dev.Laid d (d.portPuts p l) :=
  Dev.Laid.of_keeps (S := l.map (·.1.id)) (Dev.portPuts_keeps fun _ hq => List.mem_map_of_mem (f := (·.1.id)) hq) fun _ hx => by
    obtain ⟨q, hq, rfl⟩ := List.mem_map.mp hx
    exact hl q hq

/-- Fields of a port's lanes written together, no two with one number, read back on each lane. -/
theorem Dev.get_portPuts {l : List (Fld × Nat)} (hl : (l.map (·.1.id)).Nodup) (hlow : ∀ q ∈ l, 16 ≤ q.1.id)
    (hn : n ∈ d.portLanes p) {q : Fld × Nat} (hq : q ∈ l) : (d.portPuts p l).get q.1 n = q.2 % 2 ^ q.1.w := by
  induction l generalizing d with
  | nil => cases hq
  | cons a l ih =>
    obtain ⟨ha, hl⟩ := List.nodup_cons.mp hl
    have hrest : ∀ x ∈ l, 16 ≤ x.1.id := fun x hx => hlow x (List.mem_cons_of_mem _ hx)
    rcases List.mem_cons.mp hq with rfl | hq
    · have hkept := Dev.portPuts_keeps (d := d.portPut p q.1 q.2) (p := p) (l := l) (S := l.map (·.1.id))
        (fun _ hx => List.mem_map_of_mem (f := (·.1.id)) hx)
      exact (hkept q.1 n ha).trans (Dev.get_portPut q.1 q.2 hn)
    · exact ih (d := d.portPut p a.1 a.2) hl hrest (by rwa [Dev.portLanes_portPut _ _ (hlow a List.mem_cons_self)]) hq

/-- What a port that has gone to OFF shows on its lanes (Table 30). -/
def offFields : List (Fld × Nat) := [(LN_LAUNCH_STATUS.STATE, stOff), (LN_LAUNCH_STATUS.QUIET, 0), (LN_LAUNCH_STATUS.PRS_ABSENT, 0),
  (LN_STATUS.LOS, 1), (LN_STATUS.CDR_LOCK, 0), (LN_STATUS.RX_PPM, 0), (LN_EQ_LIVE.EYE, 0)]

theorem Dev.toOff_eq (d : Dev) (p : Nat) : d.toOff p = (d.quit p).portPuts p offFields := rfl

theorem Dev.get_toOff (hn : n ∈ (d.toOff p).portLanes p) {q : Fld × Nat} (hq : q ∈ offFields) :
    (d.toOff p).get q.1 n = q.2 % 2 ^ q.1.w := by
  have hlow : ∀ q ∈ offFields, 16 ≤ q.1.id := by decide
  rw [Dev.toOff_eq] at hn ⊢
  rw [(Dev.Laid.portPuts hlow).portLanes] at hn
  exact Dev.get_portPuts (by decide) hlow hn hq

/-- What a port that has gone to DETECT shows on its lanes, apart from the presence of its module (R49, R81). -/
def detectFields (b : Bool) : List (Fld × Nat) := [(LN_LAUNCH_STATUS.STATE, stDetect), (LN_LAUNCH_STATUS.QUIET, flag !b)]

theorem Dev.get_toDetect (b : Bool) (hn : n ∈ (d.toDetect p b).portLanes p) :
    (d.toDetect p b).laneState n = stDetect ∧ (d.toDetect p b).get LN_LAUNCH_STATUS.QUIET n = (if b then 0 else 1) ∧
      ((d.toDetect p b).port p).pllWait = b := by
  have hlow : ∀ q ∈ detectFields b, 16 ≤ q.1.id := by cases b <;> decide
  have hshown : n ∈ (d.quit p).portLanes p := by
    have hmoved : Dev.Laid (d.quit p) (d.toDetect p b) :=
      ((Dev.Laid.portPuts hlow).trans (Dev.Laid.portPut (by decide)) : Dev.Laid (d.quit p) _)
    rwa [← hmoved.portLanes]
  have hread : ∀ q ∈ detectFields b, (d.toDetect p b).get q.1 n = q.2 % 2 ^ q.1.w := fun q hq => by
    have hne : ∀ q ∈ detectFields b, LN_LAUNCH_STATUS.PRS_ABSENT.id ≠ q.1.id := by cases b <;> decide
    exact (Dev.get_portPut_id _ (hne q hq)).trans (Dev.get_portPuts (by cases b <;> decide) hlow hshown hq)
  refine ⟨hread _ List.mem_cons_self, (hread _ (List.mem_cons_of_mem _ List.mem_cons_self)).trans ?_, ?_⟩
  · cases b <;> rfl
  · exact congrArg PortSt.pllWait (Dev.port_set _ _ _)

/-- The fields the start of a PEAK search may change (R51). -/
def searchIds : List Nat := [LN_EQ_LIVE.POLE.id, LN_EQ_LIVE.DCGAIN.id, LN_EQ_LIVE.PEAK.id]

theorem Dev.searchStart_keeps (d : Dev) (n : Nat) : Dev.keeps searchIds d (d.searchStart n) := by
  have hlive : Dev.keeps searchIds d (d.puts n [(LN_EQ_LIVE.POLE, d.get LN_RX_EQ.POLE n),
    (LN_EQ_LIVE.DCGAIN, d.get LN_RX_EQ.DCGAIN n)]) :=
    Dev.keeps.puts rfl (Dev.keeps.refl _ _)
  unfold Dev.searchStart
  exact Dev.keeps.ite (Dev.keeps.setLane hlive) (Dev.keeps.setLane (Dev.keeps.put (by decide) hlive))

theorem Dev.searchStart_port (d : Dev) (n p : Nat) : (d.searchStart n).port p = d.port p := by
  unfold Dev.searchStart
  dsimp only
  split <;> rfl

/-- What a port that has gone to TRAIN shows of its partner (Table 30). -/
def trainFields (k : Nat) : List (Fld × Nat) := [(LN_LAUNCH_STATUS.STATE, stTrain), (LN_LAUNCH_STATUS.PARTNER, k)]

/-- The fields an entry to TRAIN changes after those. -/
def trainIds : List Nat := LN_CTL.TX_PRECODE.id :: LN_CTL.RX_PRECODE.id :: searchIds

theorem Dev.toTrain_keeps (d : Dev) (p k : Nat) : Dev.keeps trainIds (d.portPuts p (trainFields k)) (d.toTrain p k) := by
  have hset : Dev.keeps trainIds (d.portPuts p (trainFields k)) ((d.portPuts p (trainFields k)).setPort p
      { (d.portPuts p (trainFields k)).port p with trainT := true }) := Dev.keeps.setPort (Dev.keeps.refl _ _)
  have hcoded := Dev.keeps.portPut (p := p) (v := 0) (F := LN_CTL.RX_PRECODE) (by decide)
    (Dev.keeps.portPut (p := p) (v := 0) (F := LN_CTL.TX_PRECODE) (by decide) hset)
  exact Dev.keeps.emit (Dev.keeps.setPort (Dev.keeps.each
    (fun x m => (x.searchStart_keeps m).mono fun _ h => List.mem_cons_of_mem _ (List.mem_cons_of_mem _ h)) hcoded))

theorem Dev.toTrain_trainT (d : Dev) (p k : Nat) : ((d.toTrain p k).port p).trainT = true := by
  unfold Dev.toTrain
  extract_lets shown src timed coded
  have hcoded : (coded.port p).trainT = true := by
    simp only [coded, Dev.portPut_port, timed, Dev.port_set]
  have heach : ((coded.each (coded.portLanes p) Dev.searchStart).port p).trainT = true :=
    Dev.each_keeps (P := fun x => (x.port p).trainT = true) (fun x m h => by rwa [Dev.searchStart_port]) _ _ hcoded
  exact (congrArg PortSt.trainT (Dev.port_set _ _ _)).trans heach

theorem Dev.get_toTrain {k : Nat} (hk : k < 4) (hn : n ∈ (d.toTrain p k).portLanes p) :
    (d.toTrain p k).laneState n = stTrain ∧ (d.toTrain p k).get LN_LAUNCH_STATUS.PARTNER n = k := by
  have hlow : ∀ q ∈ trainFields k, 16 ≤ q.1.id := fun q hq => by
    rcases List.mem_cons.mp hq with rfl | hq
    · decide
    · obtain rfl := List.mem_singleton.mp hq; exact (by decide : 16 ≤ LN_LAUNCH_STATUS.PARTNER.id)
  have hlaid : Dev.Laid d (d.toTrain p k) := (Dev.Laid.portPuts hlow).trans (Dev.Laid.of_keeps (d.toTrain_keeps p k) (by decide))
  rw [hlaid.portLanes] at hn
  have hread : ∀ q ∈ trainFields k, (d.portPuts p (trainFields k)).get q.1 n = q.2 % 2 ^ q.1.w := fun q hq =>
    Dev.get_portPuts (by simp only [trainFields, List.map_cons, List.map_nil]; decide) hlow hn hq
  refine ⟨?_, ?_⟩
  · exact (d.toTrain_keeps p k _ _ (by decide)).trans (hread _ List.mem_cons_self)
  · exact (d.toTrain_keeps p k _ _ (by decide)).trans ((hread _ (List.mem_cons_of_mem _ List.mem_cons_self)).trans
      (Nat.mod_eq_of_lt hk))

/-- What a port that stalled shows on its lanes (R83). -/
def stallFields : List (Fld × Nat) :=
  [(LN_LAUNCH_STATUS.STATE, stStalled), (LN_LAUNCH_STATUS.QUIET, 0), (LN_LAUNCH_STATUS.PRS_ABSENT, 0)]

/-- The fields a stall counts and shows beside. -/
def stallIds : List Nat := LN_LAUNCH_COUNT.STALL.id :: LN_LAUNCH_STATUS.STALL_SEEN.id :: seenIds

theorem Dev.stall_keeps (d : Dev) (p : Nat) : Dev.keeps stallIds d
    (((d.inc LN_LAUNCH_COUNT.STALL p).seen (srcEight (p / 8) (p % 8)) 0).portPut p LN_LAUNCH_STATUS.STALL_SEEN 1) :=
  Dev.keeps.portPut (by decide) (Dev.keeps.step (Dev.seen_keeps _ _ _)
    (fun _ h => List.mem_cons_of_mem _ (List.mem_cons_of_mem _ h)) (Dev.keeps.inc (by decide) (Dev.keeps.refl _ _)))

/-- A failure leaves STALLED or DETECT, by the failures in a row (R83). -/
theorem Dev.get_failure (c : Nat) (hn : n ∈ (d.failure p c).portLanes p) : (d.failure p c).laneState n =
    (if d.get LN_LAUNCH_CTL.LAUNCH_RETRY p ≤ min (d.get LN_LAUNCH_STATUS.FAILS p + 1) 255 then stStalled else stDetect) := by
  unfold Dev.failure at hn ⊢
  extract_lets fails counted quieted stalled at hn ⊢
  have hretry : counted.get LN_LAUNCH_CTL.LAUNCH_RETRY p = d.get LN_LAUNCH_CTL.LAUNCH_RETRY p := by
    simp (disch := decide) only [counted, Dev.get_inc_id, Dev.get_portPut_id]
  rw [hretry] at hn ⊢
  by_cases hstall : d.get LN_LAUNCH_CTL.LAUNCH_RETRY p ≤ fails
  · rw [if_pos hstall] at hn ⊢
    rw [if_pos hstall]
    have hlow : ∀ q ∈ stallFields, 16 ≤ q.1.id := by decide
    have hkept : Dev.keeps stallIds ((counted.quit p).portPuts p stallFields) _ := Dev.stall_keeps _ p
    have hlaid : Dev.Laid (counted.quit p) _ := (Dev.Laid.portPuts hlow).trans (Dev.Laid.of_keeps hkept (by decide))
    have hquit : n ∈ (counted.quit p).portLanes p := by
      rw [← hlaid.portLanes]; exact hn
    exact (hkept _ _ (by decide)).trans (Dev.get_portPuts (l := stallFields) (by decide) hlow hquit List.mem_cons_self)
  · rw [if_neg hstall] at hn ⊢
    rw [if_neg hstall]
    exact (Dev.get_toDetect false hn).1

end

end Sys2Proof.Machine

open Sys2Proof Sys2Proof.Machine Sys2Proof.Machine.F in
/-- Settles O21: what a move writes last on every lane of the port reads back, whatever it did before. -/
theorem launchMovesWritten : Obligations.LaunchMovesWritten := by
  intro d p n
  refine ⟨fun hn => ?_, fun b hn => Dev.get_toDetect b hn,
    fun k hn hk => ⟨(Dev.get_toTrain hk hn).1, (Dev.get_toTrain hk hn).2, d.toTrain_trainT p k⟩, fun c hn => Dev.get_failure c hn⟩
  exact ⟨Dev.get_toOff (q := (LN_LAUNCH_STATUS.STATE, stOff)) hn (by decide),
    Dev.get_toOff (q := (LN_LAUNCH_STATUS.QUIET, 0)) hn (by decide), Dev.get_toOff (q := (LN_STATUS.LOS, 1)) hn (by decide),
    Dev.get_toOff (q := (LN_STATUS.CDR_LOCK, 0)) hn (by decide), Dev.get_toOff (q := (LN_EQ_LIVE.EYE, 0)) hn (by decide)⟩
end

section
/-!
SUPPORT. Codewords and the events of a launch and of EASY. With these, O20.
-/
namespace Sys2Proof.Machine
open F

/-- The fields a change of a class's occupancy may change (R139, R147, R152). -/
def occIds : List Nat := GAL_PC_STATUS.OCCUPANCY.id :: GAL_PC_PEAK.PEAK.id :: GAL_PC_STATUS.OVER_QUOTA.id :: hystIds

theorem Dev.occPut_keeps (d : Dev) (pc occ : Nat) : Dev.keeps occIds d (d.occPut pc occ) := by
  unfold Dev.occPut
  exact Dev.keeps.step (Dev.hyst_keeps _ _)
    (fun _ h => List.mem_cons_of_mem _ (List.mem_cons_of_mem _ (List.mem_cons_of_mem _ h)))
      (Dev.keeps.puts rfl (Dev.keeps.refl _ d))

/-- The fields the flow of characters through the receive FIFO may change (R69, R72). -/
def flowIds : List Nat := PCS_RX_RM_DROP.COUNT.id :: occIds ++ seenIds

theorem Dev.rmDropped_keeps (d : Dev) (p : Nat) : Dev.keeps flowIds d (d.rmDropped p) :=
  Dev.keeps.step (Dev.seen_keeps _ _ _) (fun _ h => List.mem_append_right _ h) (Dev.keeps.inc (by decide) (Dev.keeps.refl _ d))

theorem Dev.rmFlow_keeps (d : Dev) (p : Nat) : Dev.keeps flowIds d (d.rmFlow p) := by
  unfold Dev.rmFlow
  split
  · exact Dev.keeps.refl _ d
  · extract_lets l read r staged
    have hread : Dev.keeps flowIds d r := Dev.keeps.setPort (Dev.keeps.refl _ d)
    have hstaged : Dev.keeps flowIds d staged := Dev.keeps.setMac hread
    have hocc : ∀ x ∈ occIds, x ∈ flowIds := by decide
    exact Dev.keeps.ite (Dev.keeps.refl _ d) (Dev.keeps.ite hread (Dev.keeps.ite
      (hstaged.trans ((Dev.occPut_keeps _ _ _).mono hocc)) hstaged))

theorem Dev.rmFill_keeps (d : Dev) (p : Nat) (l : List Oct) : Dev.keeps flowIds d (d.rmFill p l) := by
  unfold Dev.rmFill
  extract_lets r w room
  exact Dev.keeps.ite (Dev.keeps.refl _ d) (Dev.keeps.trans (Dev.keeps.setPort (Dev.keeps.refl _ d)) (Dev.rmFlow_keeps _ _))

theorem Dev.relayOut_keeps (d : Dev) (p : Nat) (l : List Oct) : Dev.keeps flowIds d (d.relayOut p l) := by
  unfold Dev.relayOut
  exact Dev.keeps.ite (Dev.keeps.setPort (Dev.keeps.refl _ d)) (d.rmDropped_keeps p)

/-- The counts of a codeword whose symbols are corrected (R62, Table 28). -/
def Dev.corrected (d : Dev) (p k : Nat) (corr : List Nat) : Dev :=
  if 0 < k then ((d.inc (PCS_CW_HIST.COUNT k) p).each (List.range corr.length) fun d i =>
    d.add LN_FEC_SYMS.COUNT (p + i) (corr[i]?.getD 0)).inc PCS_CW_CORR.COUNT p
  else (d.inc (PCS_CW_HIST.COUNT k) p).each (List.range corr.length) fun d i => d.add LN_FEC_SYMS.COUNT (p + i) (corr[i]?.getD 0)

/-- Where a codeword is corrected, its counts precede the flow of its characters. -/
theorem Dev.codeword_corrected {d : Dev} {p : Nat} {corr : List Nat} (bs : List RxBlk) (hrx : (d.port p).codingRx = true)
    (hcw : (d.port p).hiCw < 8192) (hdet : d.get PCS_CTL.FEC_DETECT p = 0) (hk : corr.foldl (· + ·) 0 ≤ 15) {e : Dev}
    (he : e = (((d.inc PCS_CW.COUNT p).setPort p { d.port p with badLeft := (d.port p).badLeft - 1 }).corrected p
      (corr.foldl (· + ·) 0) corr)) (hhi : e.on PCS_STATUS.HI_SER p = false) :
    Dev.keeps flowIds e (d.codeword p corr false bs) := by
  unfold Dev.codeword
  rw [if_neg (by simp [hrx]), if_neg (Nat.not_le.mpr hcw)]
  extract_lets still k bad counted r left symbols ended hi marked l flowed last
  have hbad : bad = false := by simp [bad, k, still, Dev.on, hdet, Nat.not_lt.mpr hk]
  have hended : ended = e := by
    simp only [ended, symbols, left, hbad, Bool.false_eq_true, if_false]
    exact he.symm
  have hmarked : marked = e := by
    simp only [marked, hi, hended, hhi, Bool.false_eq_true, if_false]
  have hflowed : Dev.keeps flowIds e flowed := by
    simp only [flowed, hmarked]
    exact Dev.keeps.ite (e.relayOut_keeps p l) (e.rmFill_keeps p l)
  exact Dev.keeps.ite (Dev.keeps.setPort hflowed) hflowed

/-- What the counts of a corrected codeword are. -/
theorem Dev.get_corrected {d : Dev} {p k : Nat} {corr : List Nat} :
    (∀ G, G.id < 112 → G.id ≠ LN_FEC_SYMS.COUNT.id → G.id ≠ PCS_CW_CORR.COUNT.id → (d.corrected p k corr).get G p = d.get G p) ∧
    (d.corrected p k corr).get PCS_CW_CORR.COUNT p = (if k = 0 then d.get PCS_CW_CORR.COUNT p else
      min (d.get PCS_CW_CORR.COUNT p + 1) (2 ^ PCS_CW_CORR.COUNT.w - 1)) := by
  have hsyms : ∀ G, G.id < 112 → G.id ≠ LN_FEC_SYMS.COUNT.id →
      ((d.inc (PCS_CW_HIST.COUNT k) p).each (List.range corr.length) fun d i =>
        d.add LN_FEC_SYMS.COUNT (p + i) (corr[i]?.getD 0)).get G p = d.get G p := fun G hlow hne => by
    have hhist : (PCS_CW_HIST.COUNT k).id ≠ G.id := (lt_of_lt_of_le hlow (Nat.le_add_right 112 k)).ne'
    have heach : Dev.keeps [LN_FEC_SYMS.COUNT.id] (d.inc (PCS_CW_HIST.COUNT k) p) _ := Dev.keeps.each
      (l := List.range corr.length) (g := fun d i => d.add LN_FEC_SYMS.COUNT (p + i) (corr[i]?.getD 0))
      (fun x _ => Dev.keeps.add List.mem_cons_self (Dev.keeps.refl _ x)) (Dev.keeps.refl _ _)
    rw [heach G p (by simpa using hne), Dev.get_inc_id _ _ _ hhist]
  unfold Dev.corrected
  refine ⟨fun G hlow hne hcorr => ?_, ?_⟩
  · split
    · rw [Dev.get_inc_id _ _ _ hcorr.symm, hsyms G hlow hne]
    · exact hsyms G hlow hne
  · by_cases hk : k = 0
    · rw [if_neg (by omega), if_pos hk, hsyms _ (by decide) (by decide)]
    · rw [if_pos (by omega), if_neg hk, Dev.get_inc, hsyms _ (by decide) (by decide)]

/-- The counts of codewords of a port, as one the coding layer corrects leaves them (R62). -/
theorem Dev.get_codeword {d : Dev} {p : Nat} {corr : List Nat} (bs : List RxBlk) (hrx : (d.port p).codingRx = true)
    (hcw : (d.port p).hiCw < 8192) (hhi : d.get PCS_STATUS.HI_SER p = 0) (hdet : d.get PCS_CTL.FEC_DETECT p = 0)
    (hk : corr.foldl (· + ·) 0 ≤ 15) :
    (d.codeword p corr false bs).get PCS_CW.COUNT p = min (d.get PCS_CW.COUNT p + 1) (2 ^ PCS_CW.COUNT.w - 1) ∧
    (d.codeword p corr false bs).get PCS_CW_UNCORR.COUNT p = d.get PCS_CW_UNCORR.COUNT p ∧
    (d.codeword p corr false bs).get PCS_CW_CORR.COUNT p = (if corr.foldl (· + ·) 0 = 0 then d.get PCS_CW_CORR.COUNT p else
      min (d.get PCS_CW_CORR.COUNT p + 1) (2 ^ PCS_CW_CORR.COUNT.w - 1)) := by
  obtain ⟨hother, hcorr⟩ := Dev.get_corrected (d := (d.inc PCS_CW.COUNT p).setPort p
    { d.port p with badLeft := (d.port p).badLeft - 1 }) (p := p) (k := corr.foldl (· + ·) 0) (corr := corr)
  have hon := hother PCS_STATUS.HI_SER (by decide) (by decide) (by decide)
  rw [Dev.setPort_get, Dev.get_inc_id _ _ _ (by decide), hhi] at hon
  have hflow := Dev.codeword_corrected bs hrx hcw hdet hk rfl (Dev.not_on_of_get hon)
  rw [Dev.setPort_get, Dev.get_inc_id _ _ _ (by decide)] at hcorr
  refine ⟨?_, ?_, ?_⟩
  · rw [hflow _ _ (by decide), hother _ (by decide) (by decide) (by decide), Dev.setPort_get, Dev.get_inc]
  · rw [hflow _ _ (by decide), hother _ (by decide) (by decide) (by decide), Dev.setPort_get, Dev.get_inc_id _ _ _ (by decide)]
  · rw [hflow _ _ (by decide), hcorr]

/-- DETECT's drive reads configuration and the layout only. -/
theorem Dev.detectDrive_quiet (d : Dev) (p : Nat) : (d.portPut p LN_LAUNCH_STATUS.QUIET 0).detectDrive p = d.detectDrive p := by
  have hlaid : Dev.Laid d (d.portPut p LN_LAUNCH_STATUS.QUIET 0) := Dev.Laid.portPut (by decide)
  have hwidth := (hlaid (p % 8) (Nat.mod_lt _ (by decide)) (p / 8)).2
  simp (disch := decide) only [Dev.detectDrive, Dev.detectPages, Dev.on, Dev.get_portPut_id, hwidth]
  rfl

/-- The quiet period of a port in DETECT ends (R81, R84). -/
theorem Dev.quietEnd_quiet {d : Dev} {p : Nat} (hst : d.laneState p = stDetect) (hq : d.get LN_LAUNCH_STATUS.QUIET p = 1) :
    d.quietEnd p = if d.get LN_LAUNCH_STATUS.PRS_ABSENT p = 1 then d.portPut p LN_LAUNCH_STATUS.QUIET 0
      else (d.portPut p LN_LAUNCH_STATUS.QUIET 0).driveLanes p (d.detectDrive p) := by
  unfold Dev.quietEnd
  rw [if_pos ⟨hst, Dev.on_of_get hq⟩]
  dsimp only
  rw [Dev.detectDrive_quiet, Dev.on, Dev.get_portPut_id _ (by decide)]
  simp only [beq_iff_eq]

/-- The end of a HI_SER window (R68). -/
theorem Dev.hiserEnd_cases {d e : Dev} {p : Nat} (he : e = d.setPort p { d.port p with hiCw := 0, hiErr := 0 }) :
    ((d.port p).hiErr < d.get PCS_CTL.HISER_THRESH p → d.hiserEnd p = e.put PCS_STATUS.HI_SER p 0) ∧
    (d.get PCS_CTL.HISER_THRESH p ≤ (d.port p).hiErr → d.get PCS_STATUS.HI_SER p = 1 →
      d.hiserEnd p = e.fault 52 p sevDegraded (d.port p).hiErr) ∧
    (d.get PCS_CTL.HISER_THRESH p ≤ (d.port p).hiErr → d.get PCS_STATUS.HI_SER p = 0 →
      d.hiserEnd p = (((e.put PCS_STATUS.HI_SER p 1).inc PCS_HISER.COUNT p).seen (srcPort p 2) 0).fault 52 p sevDegraded
        (d.port p).hiErr) := by
  have hget : ∀ G, e.get G p = d.get G p := fun G => by rw [he, Dev.setPort_get]
  have hend : d.hiserEnd p = if e.get PCS_CTL.HISER_THRESH p ≤ (d.port p).hiErr then
      (if e.on PCS_STATUS.HI_SER p then e.fault 52 p sevDegraded (d.port p).hiErr
        else (((e.put PCS_STATUS.HI_SER p 1).inc PCS_HISER.COUNT p).seen (srcPort p 2) 0).fault 52 p sevDegraded (d.port p).hiErr)
      else e.put PCS_STATUS.HI_SER p 0 := by rw [he]; rfl
  rw [hend]
  refine ⟨fun h => ?_, fun h h1 => ?_, fun h h0 => ?_⟩
  · rw [hget, if_neg (Nat.not_le.mpr h)]
  · rw [hget, if_pos h, if_pos (Dev.on_of_get ((hget _).trans h1))]
  · rw [hget, if_pos h, if_neg (by rw [Dev.not_on_of_get ((hget _).trans h0)]; exact Bool.false_ne_true)]

end Sys2Proof.Machine

open Sys2Proof Sys2Proof.Machine Sys2Proof.Machine.F in
/-- Settles O20: each event of a port is one branch of its definition. -/
theorem launchEventsRun : Obligations.LaunchEventsRun := by
  intro s p hc hp
  have hport := fun g => State.onPort_clocked hc hp g
  refine ⟨fun h1 h2 h3 => ?_, fun x h1 h2 h3 hx => ?_, fun pages h1 h2 => ?_, fun h1 h2 => ?_, fun h1 h2 => ?_, fun h1 h2 => ?_,
    fun h1 h2 => ?_, fun h1 h2 => ?_, fun h1 h2 h3 h4 => ?_, fun corr bs h1 h2 h3 h4 h5 => ?_, fun h1 h2 h3 h4 => ?_,
    fun d h1 h2 h3 hd => ?_, fun h1 h2 h3 => ?_, ?_, fun d h1 hd => ?_, fun h1 h2 h3 => ?_⟩
  · rw [show exec (.quietPeriodEnd p) s = s.onPort p (fun d => d.quietEnd p) from rfl, hport, Dev.quietEnd_quiet h1 h2, if_pos h3]
  · rw [show exec (.quietPeriodEnd p) s = s.onPort p (fun d => d.quietEnd p) from rfl, hport, Dev.quietEnd_quiet h1 h2,
      if_neg (by omega), hx, Dev.detectDrive, Dev.on]
    simp only [beq_iff_eq]
    rfl
  · rw [show exec (.clause73Complete p pages) s = s.onPort p (fun d => d.clause73 p pages) from rfl, hport, Dev.clause73,
      if_pos ⟨h1, by simp [Dev.on, h2]⟩] <;> rfl
  · rw [show exec (.detectTimeout p) s = s.onPort p (fun d => d.detectTimeout p) from rfl, hport, Dev.detectTimeout, if_pos h1,
      if_pos (Dev.on_of_get h2)]
  · rw [show exec (.detectTimeout p) s = s.onPort p (fun d => d.detectTimeout p) from rfl, hport, Dev.detectTimeout, if_pos h1,
      if_neg (by simp [Dev.on, h2])]
  · rw [show exec (.trainTimeout p) s = s.onPort p (fun d => d.trainTimeout p) from rfl, hport, Dev.trainTimeout, if_pos ⟨h1, h2⟩]
  · rw [show exec (.rosterTimeout p) s = s.onPort p (fun d => d.rosterTimeout p) from rfl, hport, Dev.rosterTimeout,
      if_pos ⟨h1, h2⟩]
  · rw [show exec (.wakeTimeout p) s = s.onPort p (fun d => d.wakeTimeout p) from rfl, hport, Dev.wakeTimeout, if_pos ⟨h1, h2⟩]
  · rw [show exec (.codingTxStart p) s = s.onPort p (fun d => d.codingStart p) from rfl, hport]
    simp only [Dev.codingStart]
    rw [if_pos ⟨h1, h2, h3, by simp [h4]⟩]
  · rw [show exec (.codewordReceived p corr ⟨false, bs⟩) s = s.onPort p (fun d => d.codeword p corr false bs) from rfl, hport]
    exact ⟨_, rfl, Dev.get_codeword bs h1 h2 h3 h4 h5⟩
  · rw [show exec (.alignLossTimeout p) s = s.onPort p (fun d => d.alignTimeout p) from rfl, hport, Dev.alignTimeout,
      if_pos ⟨h1, by simp [Dev.on, h2], h3, by simp [h4]⟩]
  · obtain ⟨hlow, hhigh, hrise⟩ := Dev.hiserEnd_cases hd
    rw [show exec (.hiserWindowEnd p) s = execHiserWindowEnd p s from rfl, execHiserWindowEnd, hport,
      if_pos ⟨h1, Dev.on_of_get h2, h3⟩]
    exact ⟨fun h => by rw [hlow h], fun h h1 => by rw [hhigh h h1], fun h h0 => by rw [hrise h h0]⟩
  · rw [show exec (.txEasyEntryDone p) s = execTxEasyEntryDone p s from rfl, execTxEasyEntryDone, State.core_clocked hc,
      if_pos (by simp [Dev.easyMayEnter, hp, h1, h2, h3])]
  · rw [show exec (.easyExpectLapse p) s = execEasyExpectLapse p s from rfl, execEasyExpectLapse, hport]
  · rw [show exec (.attnSendDone p) s = s.onPort p (fun d => d.attnSent p) from rfl, hport, Dev.attnSent,
      if_pos (Dev.on_of_get h1), hd]
  · rw [show exec (.wakeWaitExpiry p) s = s.onPort p (fun d => d.wakeWaited p) from rfl, hport]
    simp only [Dev.wakeWaited]
    rw [if_pos ⟨h1, h2, by simp [h3]⟩]
end

section
/-!
SUPPORT. Bits of the filtered levels, a source that fires, and the events of sideband lines. With these, O22.
-/
namespace Sys2Proof.Machine
open F

theorem bitAt_eq_testBit (n i : Nat) : bitAt n i = n.testBit i := by
  rw [bitAt, Nat.shiftRight_eq_div_pow, Nat.testBit_eq_decide_div_mod_eq]; rfl

theorem bitAt_clrBitAt (n k : Nat) : bitAt (clrBitAt n k) k = false := by
  unfold clrBitAt
  split
  case isTrue hset =>
    obtain ⟨m, rfl⟩ : ∃ m, n = 2 ^ k + m := Nat.exists_eq_add_of_le (Nat.ge_two_pow_of_testBit (by rwa [bitAt_eq_testBit] at hset))
    rw [bitAt_eq_testBit, Nat.testBit_two_pow_add_eq, Bool.not_eq_true'] at hset
    rw [Nat.add_sub_cancel_left, bitAt_eq_testBit, hset]
  case isFalse hclear => exact Bool.eq_false_iff.mpr hclear

/-- A bit written in a field that holds it reads back. -/
theorem bitAt_putBitAt_mod (n : Nat) {k w : Nat} (b : Bool) (h : k < w) : bitAt (putBitAt n k b % 2 ^ w) k = b := by
  cases b with
  | true => exact bitAt_setBitAt_mod n h
  | false =>
    have hclear := bitAt_clrBitAt n k
    rw [bitAt_eq_testBit] at hclear
    rw [putBitAt, if_neg Bool.false_ne_true, bitAt_eq_testBit, Nat.testBit_mod_two_pow, hclear, Bool.and_false]

/-- The level of a line of an eight reads back. -/
theorem Dev.modPrs_levelPut (d : Dev) {e : Nat} (b : Bool) (h : e < 128) :
    (d.levelPut EVC_SB_PRS_0.LEVEL EVC_SB_PRS_1.LEVEL e b).modPrs e = b := by
  unfold Dev.levelPut Dev.modPrs
  by_cases hlow : e < 64
  · rw [if_pos hlow, if_pos hlow, Dev.get_put, Nat.mod_eq_of_lt hlow]
    exact bitAt_putBitAt_mod _ b hlow
  · rw [if_neg hlow, if_neg hlow, Dev.get_put, show e % 64 = e - 64 from by omega]
    exact bitAt_putBitAt_mod _ b (show e - 64 < 64 by omega)

theorem Dev.modInt_levelPut (d : Dev) {e : Nat} (b : Bool) (h : e < 128) :
    (d.levelPut EVC_SB_INT_0.LEVEL EVC_SB_INT_1.LEVEL e b).modInt e = b := by
  unfold Dev.levelPut Dev.modInt
  by_cases hlow : e < 64
  · rw [if_pos hlow, if_pos hlow, Dev.get_put, Nat.mod_eq_of_lt hlow]
    exact bitAt_putBitAt_mod _ b hlow
  · rw [if_neg hlow, if_neg hlow, Dev.get_put, show e % 64 = e - 64 from by omega]
    exact bitAt_putBitAt_mod _ b (show e - 64 < 64 by omega)

theorem Dev.modPrs_put {F : Fld} (d : Dev) (i v e : Nat) (h0 : F.id ≠ EVC_SB_PRS_0.LEVEL.id) (h1 : F.id ≠ EVC_SB_PRS_1.LEVEL.id) :
    (d.put F i v).modPrs e = d.modPrs e := by
  simp only [Dev.modPrs, Dev.get_put_id _ _ _ _ h0, Dev.get_put_id _ _ _ _ h1]

theorem Dev.modInt_put {F : Fld} (d : Dev) (i v e : Nat) (h0 : F.id ≠ EVC_SB_INT_0.LEVEL.id) (h1 : F.id ≠ EVC_SB_INT_1.LEVEL.id) :
    (d.put F i v).modInt e = d.modInt e := by
  simp only [Dev.modInt, Dev.get_put_id _ _ _ _ h0, Dev.get_put_id _ _ _ _ h1]

theorem Dev.event_disabled {d : Dev} {s : Nat} (h : d.get EVC_SRC_CFG.ENABLE s = 0) (x : Nat) (sw : Bool) : d.event s x sw = d :=
  if_neg (by simp [Dev.on, h])

/-- The fields an event of a vector may change (R285). -/
def vecIds : List Nat := [X.EVC_COAL.id, EVC_V_EVENTS.COUNT.id, EVC_VEC_STATUS.COUNT.id, EVC_VEC_STATUS.STATE.id]

theorem Dev.vecGather_keeps_vec (d : Dev) (v : Nat) : Dev.keeps vecIds d (d.vecGather v) :=
  Dev.keeps.ite (Dev.keeps.puts rfl (Dev.keeps.refl _ _)) (Dev.keeps.refl _ _)

theorem Dev.vecEvent_keeps_vec (d : Dev) (v : Nat) : Dev.keeps vecIds d (d.vecEvent v) := by
  have hcounted : Dev.keeps vecIds d (d.inc EVC_V_EVENTS.COUNT v) := Dev.keeps.inc (by decide) (Dev.keeps.refl _ _)
  unfold Dev.vecEvent
  dsimp only
  split
  · exact Dev.keeps.trans (Dev.keeps.puts rfl (Dev.keeps.put (by decide) hcounted)) (Dev.vecGather_keeps_vec _ _)
  · exact Dev.keeps.trans (Dev.keeps.put (by decide) hcounted) (Dev.vecGather_keeps_vec _ _)
  · exact Dev.keeps.put (by decide) hcounted

/-- A source that fires is pending. -/
theorem Dev.get_fire_pending (d : Dev) (s x : Nat) : (d.fire s x false).get EVC_SRC_STATUS.PENDING s = 1 := by
  unfold Dev.fire
  dsimp only
  rw [Dev.vecEvent_keeps_vec _ _ _ _ (by decide), if_neg Bool.false_ne_true]
  simp (disch := decide) only [Dev.get_inc_id, Dev.puts_cons, Dev.puts_nil, Dev.get_put_id, Dev.get_put]
  rfl

/-- An event of an enabled source leaves it pending (R284). -/
theorem Dev.get_event_pending {d : Dev} {s : Nat} (h : d.get EVC_SRC_CFG.ENABLE s = 1) (x : Nat) :
    (d.event s x).get EVC_SRC_STATUS.PENDING s = 1 := by
  unfold Dev.event
  rw [if_pos (Dev.on_of_get h)]
  dsimp only
  split
  · exact Dev.get_fire_pending _ _ _
  · split <;> exact Dev.get_fire_pending _ _ _

/-- A bit of its own field that a cause sets. -/
theorem Dev.get_seen_glitch {d : Dev} (h : d.get EVC_SB_MISC.GLITCH_SEEN 0 < 2) :
    (d.seen srcGlitch 0).get EVC_SB_MISC.GLITCH_SEEN 0 = 1 := by
  simp only [Dev.seen, show (srcFlags srcGlitch)[0]? = some ⟨EVC_SB_MISC.GLITCH_SEEN, 0, 0⟩ from rfl]
  obtain h0 | h1 : d.get EVC_SB_MISC.GLITCH_SEEN 0 = 0 ∨ d.get EVC_SB_MISC.GLITCH_SEEN 0 = 1 := by omega
  · rw [h0, if_neg (by decide), Dev.event_keeps _ _ _ _ _ _ (by decide), Dev.get_put]
    rfl
  · rw [h1, if_pos (by decide), h1]

theorem Dev.askLockup_get (d : Dev) (c : Nat) (G : Fld) (j : Nat) : (d.askLockup c).get G j = d.get G j := by
  rw [Dev.get, Dev.askLockup_f]; rfl

/-- A change of a one-bit line is a change of its level. -/
theorem Dev.on_ne_level {d : Dev} {F : Fld} {b : Bool} (h : d.get F 0 = if b then 0 else 1) : d.on F 0 ≠ b := by
  rw [Dev.on, h]
  cases b <;> decide

/-- A change of LOCKUP_REQ shows its level, and its assertion asks for a lock-up where PIN_EN is 1 (R351). -/
theorem State.lineAsserted (s : State) (b : Bool) : ∃ d,
    (if b then ({ s with dev := (s.dev.put EVC_SB_MISC.LOCKUP 0 (flag b)).put X.SB_STOP lineLockup 0 } :
      State).trigger LCK_CFG.PIN_EN 3
      else { s with dev := (s.dev.put EVC_SB_MISC.LOCKUP 0 (flag b)).put X.SB_STOP lineLockup 0 }) = { s with dev := d } ∧
    d.get EVC_SB_MISC.LOCKUP 0 = (if b then 1 else 0) ∧
    (b = true → s.ctl.state ≠ .locked → s.dev.get LCK_CFG.PIN_EN 0 = 1 → 3 ∈ d.desk.trigs) ∧
    (b = false ∨ s.dev.get LCK_CFG.PIN_EN 0 = 0 → d.desk.trigs = s.dev.desk.trigs) := by
  have hshown : ((s.dev.put EVC_SB_MISC.LOCKUP 0 (flag b)).put X.SB_STOP lineLockup 0).get EVC_SB_MISC.LOCKUP 0 =
      (if b then 1 else 0) := by
    rw [Dev.get_put_id _ _ _ _ (by decide), Dev.get_put]
    cases b <;> rfl
  have hpin : ((s.dev.put EVC_SB_MISC.LOCKUP 0 (flag b)).put X.SB_STOP lineLockup 0).get LCK_CFG.PIN_EN 0 =
    s.dev.get LCK_CFG.PIN_EN 0 := by
    simp (disch := decide) only [Dev.get_put_id]
  cases b with
  | false => exact ⟨_, rfl, hshown, nofun, fun _ => rfl⟩
  | true =>
    unfold State.trigger
    by_cases hen : s.ctl.state ≠ .locked ∧
        ((s.dev.put EVC_SB_MISC.LOCKUP 0 (flag true)).put X.SB_STOP lineLockup 0).on LCK_CFG.PIN_EN 0 = true
    · refine ⟨_, (if_pos rfl).trans (if_pos hen), ?_, fun _ _ _ => Dev.askLockup_mem _ _, fun h => ?_⟩
      · rw [Dev.askLockup_get]; exact hshown
      · have h0 := h.resolve_left (by decide)
        rw [Dev.on, hpin, h0] at hen
        exact absurd hen.2 (by decide)
    · refine ⟨_, (if_pos rfl).trans (if_neg hen), hshown, fun _ hst hone => absurd ⟨hst, ?_⟩ hen, fun _ => rfl⟩
      exact Dev.on_of_get (hpin.trans hone)

theorem Dev.mirrorRefresh_stale {d : Dev} (c : Ctl) {e : Nat} {clk : Bool} (pats : List (List Bool))
    (h : clk = false ∨ d.eightRuns e = false) : d.mirrorRefresh c e clk pats = d.put LN_EIGHT_STATUS.MIRROR_STALE e 1 := by
  refine if_neg ?_
  rcases h with h | h <;> simp [h]

end Sys2Proof.Machine

open Sys2Proof Sys2Proof.Machine Sys2Proof.Machine.F in
/-- Settles O22: each event is one branch of its definition; the level of a line reads back. -/
theorem sidebandEventsRun : Obligations.SidebandEventsRun := by
  intro s ha
  have hisland := fun g => State.onIsland_awake ha g
  have hclocked : s.ctl.live = true → s.clocked = true := fun hl => by rw [State.clocked, ha, hl]; rfl
  refine ⟨fun e b he hb => ?_, fun e b d he hb hl hd => ?_, fun e b he hb hoff => ?_, fun b hb => ?_, fun b hb => ?_,
    fun l hl hlive hst => ?_, fun l hl hlive hst hd => ?_, fun l hl hlive => ?_, fun l hl => ?_, fun l hl => ?_,
    fun e clk pats he hl hstill => ?_, fun e he hl hruns => ?_⟩
  · rw [show exec (.modPrsChange e b) s = execModPrsChange e b s from rfl, execModPrsChange, hisland, if_pos ⟨he, hb⟩]
    refine ⟨_, rfl, fun hlive => ?_⟩
    rw [hlive, Dev.prsChange]
    rw [if_neg Bool.false_ne_true, Dev.modPrs_put _ _ _ _ (by decide) (by decide), Dev.modPrs_levelPut _ _ he, Dev.get_put]
    exact ⟨rfl, Nat.zero_mod _⟩
  · rw [show exec (.modPrsChange e b) s = execModPrsChange e b s from rfl, execModPrsChange, hisland, if_pos ⟨he, hb⟩, hl,
      Dev.prsChange]
    rw [if_pos rfl, ← hd]
    rfl
  · rw [show exec (.modIntChange e b) s = execModIntChange e b s from rfl, execModIntChange, hisland, if_pos ⟨he, hb⟩]
    refine ⟨_, rfl, ?_⟩
    have hsame : s.dev.intChange s.ctl.live e b =
        (s.dev.levelPut EVC_SB_INT_0.LEVEL EVC_SB_INT_1.LEVEL e b).put X.SB_STOP (lineInt e) 0 := by
      have henable : ((s.dev.levelPut EVC_SB_INT_0.LEVEL EVC_SB_INT_1.LEVEL e b).put X.SB_STOP (lineInt e) 0).get
          EVC_SRC_CFG.ENABLE (srcEight e 10) = s.dev.get EVC_SRC_CFG.ENABLE (srcEight e 10) := by
        rw [Dev.get_put_id _ _ _ _ (by decide), Dev.levelPut]
        split <;> exact Dev.get_put_id _ _ _ _ (by decide)
      unfold Dev.intChange
      rcases hoff with h | h | h
      · exact if_neg (by simp [h])
      · exact if_neg (by simp [h])
      · dsimp only
        rw [Dev.event_disabled (henable.trans h), ite_self]
    rw [hsame, Dev.modInt_put _ _ _ _ (by decide) (by decide), Dev.modInt_levelPut _ _ he, Dev.get_put]
    exact ⟨rfl, Nat.zero_mod _⟩
  · rw [show exec (.cpxWake b) s = execCpxWake b s from rfl, execCpxWake, hisland, if_pos (Dev.on_ne_level hb)]
    refine ⟨_, rfl, ?_, fun hlive hlevel hen => ?_⟩
    · split
      · rw [Dev.event_keeps _ _ _ _ _ _ (by decide), Dev.get_put_id _ _ _ _ (by decide), Dev.get_put]
        cases b <;> rfl
      · rw [Dev.get_put_id _ _ _ _ (by decide), Dev.get_put]
        cases b <;> rfl
    · rw [if_pos ⟨hlive, hlevel⟩]
      refine Dev.get_event_pending ?_ 0
      simp (disch := decide) only [Dev.get_put_id, hen]
  · rw [show exec (.lockupReq b) s = execLockupReq b s from rfl, execLockupReq, State.aclk_awake ha, if_pos (Dev.on_ne_level hb)]
    obtain ⟨d, hd, hlevel, hasked, hquiet⟩ := State.lineAsserted s b
    exact ⟨d, congrArg _ hd, hlevel, hasked, hquiet⟩
  · rw [show exec (.sidebandGlitch l) s = execSidebandGlitch l s from rfl, execSidebandGlitch, hisland, if_pos hl, Dev.glitch,
      if_neg (by simp [hlive]), if_neg]
    rintro ⟨h1, h2⟩
    rcases hst with h | h
    · rw [h] at h1; cases h1
    · rw [h] at h2; cases h2
  · rw [show exec (.sidebandGlitch l) s = execSidebandGlitch l s from rfl, execSidebandGlitch, hisland, if_pos hl, Dev.glitch,
      if_neg (by simp [hlive]), if_pos ⟨hst, hd⟩]
  · rw [show exec (.sidebandGlitch l) s = execSidebandGlitch l s from rfl, execSidebandGlitch, hisland, if_pos hl, Dev.glitch,
      if_pos hlive]
    refine ⟨_, rfl, ?_, fun hlt => Dev.get_seen_glitch ?_⟩
    · rw [Dev.seen_keeps _ _ _ _ _ (by decide), Dev.get_inc, Dev.get_put_id _ _ _ _ (by decide)]
    · rwa [Dev.get_inc_id _ _ _ (by decide), Dev.get_put_id _ _ _ _ (by decide)]
  · rw [show exec (.sidebandLatchEdge l) s = execSidebandLatchEdge l s from rfl, execSidebandLatchEdge, hisland, if_pos hl]
  · rw [show exec (.filterClockStop l) s = execFilterClockStop l s from rfl, execFilterClockStop, hisland, if_pos hl]
  · rw [show exec (.mirrorRefresh e clk pats) s = execMirrorRefresh e clk pats s from rfl, execMirrorRefresh,
      State.onDev_clocked (hclocked hl), if_pos he, Dev.mirrorRefresh_stale _ _ hstill]
  · rw [show exec (.mirrorRefresh e true []) s = execMirrorRefresh e true [] s from rfl, execMirrorRefresh,
      State.onDev_clocked (hclocked hl), if_pos he, Dev.mirrorRefresh, if_pos (by simp [hruns])]
    rfl
end

section
/-!
SUPPORT. The reception of frames and the gaps between those sent. With these, O23 and O25.
-/
namespace Sys2Proof.Machine
open F

/-- Reading the receive FIFO leaves a port that does not drop as it is, so a frame that starts is not refused (R72). -/
theorem Dev.rmResume_of_accepts {d : Dev} {p : Nat} (h : (d.port p).rmDrop = false) : d.rmResume p = d := by
  rw [Dev.rmResume, h, if_neg Bool.false_ne_true]

theorem Dev.rmRefuses_of_accepts {d : Dev} {p : Nat} (h : (d.port p).rmDrop = false) : d.rmRefuses p = false := by
  rw [Dev.rmRefuses, h, Bool.false_and]

theorem Dev.rmRead_rmDrop (d : Dev) (p : Nat) (g : List Oct → List Oct) :
    ((d.rmRead p g).port p).rmDrop = (d.port p).rmDrop := by
  unfold Dev.rmRead
  split
  · rfl
  · rw [Dev.port_set]

/-- A head that reaches a free lane port whose receive FIFO drops nothing is judged by the rows of Table 42. -/
theorem Dev.headDecision_free {d : Dev} {h : HeadRx} (proof : Bool) (hlane : d.isLanePort h.port = true)
    (hlen : h.bytes.length = 64) (hrx : (d.mac h.port).rx = none) (hreset : d.portResetting h.port = false)
    (hfed : d.rxFed h.port = true) (hdrop : (d.port h.port).rmDrop = false) :
    d.headDecision proof h = ((d.rmRead h.port fifoHead).headChecks proof h).rmFlow h.port := by
  have hlt := Dev.lt_of_isLanePort hlane
  have hport : d.isPort h.port = true := by
    simp only [Dev.isLanePort, Bool.and_eq_true] at hlane
    exact hlane.2
  have hread : ((d.rmRead h.port fifoHead).port h.port).rmDrop = false := (d.rmRead_rmDrop _ _).trans hdrop
  unfold Dev.headDecision
  rw [show d.loopHead h = h from if_pos hlt]
  simp only [hrx, hport, hlen, hreset, hfed, Nat.not_le.mpr hlt, Dev.rmRefuses_of_accepts hdrop, Dev.rmResume_of_accepts hread,
    Bool.not_true, Bool.false_eq_true, ne_eq, not_true_eq_false, or_self, and_false, false_and, if_false]

/-- The rows of Table 42 that a frame of a lane port meets in turn. -/
theorem Dev.headChecks_sfd {d : Dev} {h : HeadRx} (proof : Bool) (hlt : h.port < 1024) (hsfd : h.sfdOk = false) :
    d.headChecks proof h = (d.inc MAC_RX_PREAMBLE_ERR.COUNT h.port).rxGone h.port h.whole := by
  unfold Dev.headChecks
  simp only [Nat.not_le.mpr hlt, hsfd, decide_false, Bool.not_false, Bool.true_or, Bool.and_self, if_true]

theorem Dev.headChecks_begun {d : Dev} {h : HeadRx} (proof : Bool) (hlt : h.port < 1024) (hsfd : h.sfdOk = true)
    (hpre : h.preOk = true) :
    d.headChecks proof h =
      if d.rxUp h.port = false then (d.inc MAC_RX_DOWN_DISCARD.COUNT h.port).rxGone h.port h.whole
      else if h.error = true ∨ d.rxMarked h.port = true then (d.inc MAC_RX_ERR_BLOCK.COUNT h.port).rxGone h.port h.whole
      else if (readTags (nats h.bytes)).tags = 0 ∧ (readTags (nats h.bytes)).lt = 0x8808 then
        d.rxStage h.port ⟨.control, ⟨Stamp.zero, false, none, 0, 0x8808, none, 3, none⟩, h.bytes, 0, 0, 0,
          d.get MAC_PORT_CFG.MAX_FRAME h.port, false, 0, 0, d.on MAC_PORT_CFG.PAUSE_EN h.port,
          d.on MAC_PORT_CFG.PFC_EN h.port, [], none⟩
      else if h.whole = true ∧ proof = false ∧ fcsOk (nats h.bytes) = false then
        ((d.inc MAC_RX_FCS_ERR.COUNT h.port).macSeen h.port macFcs).rxGone h.port true
      else d.headPass h := by
  unfold Dev.headChecks
  simp [Nat.not_le.mpr hlt, hsfd, hpre, and_assoc]

theorem Dev.readySample_mac (d : Dev) (p ready : Nat) : (d.readySample p ready).mac p = d.mac p := by
  unfold Dev.readySample
  split <;> rfl

theorem Dev.readySample_out (d : Dev) (p ready : Nat) : (d.readySample p ready).out = d.out := by
  unfold Dev.readySample
  split <;> rfl

/-- What the handoff of a decided head leaves (R23, R24): its frame goes on to its slice under its sequence number. -/
def Dev.handedOff (d : Dev) (p : Nat) (f : RxFrame) : Dev :=
  (d.handHead p f.head f.first).2.2.rxStage p
    { f with stage := .body, slice := (d.handHead p f.head f.first).1, seq := (d.handHead p f.head f.first).2.1 }

theorem Dev.handedOff_mac (d : Dev) (p : Nat) (f : RxFrame) :
    (d.handedOff p f).mac p = { d.mac p with
      rx := some { f with stage := .body, slice := nextSlice (d.sliceMask p) (d.mac p).lastSlice, seq := (d.mac p).seq }
      seq := ((d.mac p).seq + 1) % 2 ^ 16
      lastSlice := nextSlice (d.sliceMask p) (d.mac p).lastSlice } := by
  have hmac : (d.handHead p f.head f.first).2.2.mac p = { d.mac p with
      seq := ((d.mac p).seq + 1) % 2 ^ 16, lastSlice := nextSlice (d.sliceMask p) (d.mac p).lastSlice } := Dev.mac_set d p _
  rw [Dev.handedOff, Dev.rxStage, Dev.mac_set, hmac]
  rfl

theorem Dev.handedOff_out (d : Dev) (p : Nat) (f : RxFrame) :
    (d.handedOff p f).out =
      .head (nextSlice (d.sliceMask p) (d.mac p).lastSlice) (headWord p (d.mac p).seq f.head) f.first :: d.out := rfl

theorem Dev.headHandoff_ready {d : Dev} {p ready : Nat} (waited : Bool) {f : RxFrame} (hport : d.isPort p = true)
    (hreset : d.portResetting p = false) (hrx : (d.mac p).rx = some f) (hstage : f.stage = .waiting) (hfate : f.fate = none)
    (hready : bitAt ready (nextSlice ((d.readySample p ready).sliceMask p) (d.mac p).lastSlice) = true) :
    d.headHandoff p ready waited = ((d.readySample p ready).handedOff p f).rmFlow p := by
  unfold Dev.headHandoff Dev.sliceReady
  simp only [hport, hreset, d.readySample_mac p ready, hrx, hstage, hready, hfate, Bool.not_true, Bool.or_self,
    Bool.false_eq_true, if_false, ne_eq, not_true_eq_false, if_true, Dev.handedOff]

theorem Dev.headHandoff_waits {d : Dev} {p ready : Nat} (waited : Bool) {f : RxFrame} (hport : d.isPort p = true)
    (hreset : d.portResetting p = false) (hrx : (d.mac p).rx = some f) (hstage : f.stage = .waiting)
    (hready : bitAt ready (nextSlice ((d.readySample p ready).sliceMask p) (d.mac p).lastSlice) = false) :
    d.headHandoff p ready waited =
      if waited then (d.readySample p ready).sliceWait p else d.readySample p ready := by
  unfold Dev.headHandoff Dev.sliceReady
  simp only [hport, hreset, d.readySample_mac p ready, hrx, hstage, hready, Bool.not_true, Bool.or_self, Bool.false_eq_true,
    if_false, ne_eq, not_true_eq_false]

/-- The end of a frame in reception on a lane port, by the stage it is in (R117). -/
def Dev.endedAs (d : Dev) (proof : Bool) (p : Nat) (f : RxFrame) (v : Nat) (b : List Byte) : Dev :=
  match f.stage with
  | .waiting => d
  | .gone => (d.rmRead p fifoEnd).rxClear p
  | .control => (d.rmRead p fifoEnd).ctrlEnd p f b v
  | _ => (d.rmRead p fifoEnd).rxFinish proof p f b v

theorem Dev.frameEnd_begun {d : Dev} {e : EndRx} {f : RxFrame} {v : Nat} {b : List Byte} (proof : Bool) (hlt : e.port < 1024)
    (hrx : (d.mac e.port).rx = some f)
    (hv : verdictOf f.maxFrame false (e.error || d.rxMarked e.port) (f.first ++ e.bytes) = (v, b)) :
    d.frameEnd proof e = d.endedAs proof e.port f v b := by
  unfold Dev.frameEnd Dev.endedAs
  simp only [hrx, if_pos hlt, Option.isSome_none, Option.isNone_none, Option.map_none, Option.getD_none, Bool.and_true,
    Bool.false_eq_true, false_and, if_false, hv]
  cases f.stage <;> rfl

end Sys2Proof.Machine

open Sys2Proof Sys2Proof.Machine Sys2Proof.Machine.F in
/-- Settles O23: each event is one branch of its definition. -/
theorem receiveEventsRun : Obligations.ReceiveEventsRun := by
  intro s hc
  refine ⟨fun h d hlane hlen hrx hreset hfed hdrop hd => ?_, fun p ready waited f sl a hport hreset hrx hst ha hsl => ?_,
    fun e f v b d hlt hrx hv => ?_, fun e hlane hreset hrx hfed hlen => ?_, fun p same hlane hon hrx => ?_,
    fun p x l hlo hhi hrx hloop => ?_⟩
  · have hrun : exec (.rxHeadDecision h) s = .next { s with dev := (d.headChecks s.ctl.proof h).rmFlow h.port } := by
      rw [show exec (.rxHeadDecision h) s = execRxHeadDecision h s from rfl, execRxHeadDecision, State.onDev_clocked hc,
        Dev.headDecision_free _ hlane hlen hrx hreset hfed hdrop, hd]
    have hlt := Dev.lt_of_isLanePort hlane
    rw [hrun]
    refine ⟨fun hsfd => ?_, fun hsfd hpre hup => ?_, fun hsfd hpre hup herr => ?_, fun hsfd hpre hup herr hmark hlt' hwhole => ?_⟩
    · rw [Dev.headChecks_sfd _ hlt hsfd]
    · rw [Dev.headChecks_begun _ hlt hsfd hpre, if_pos hup]
    · rw [Dev.headChecks_begun _ hlt hsfd hpre, if_neg (by simp [hup]), if_pos herr]
    · rw [Dev.headChecks_begun _ hlt hsfd hpre, if_neg (by simp [hup]), if_neg (by simp [herr, hmark]),
        if_neg (fun h => hlt' h.2), if_neg]
      rintro ⟨hw, -, hbad⟩
      rcases hwhole with h | h
      · rw [hw] at h; cases h
      · rw [hbad] at h; cases h
  · have hrun : exec (.headHandoff p ready waited) s = .next { s with dev := s.dev.headHandoff p ready waited } := by
      rw [show exec (.headHandoff p ready waited) s = execHeadHandoff p ready waited s from rfl, execHeadHandoff,
        State.onDev_clocked hc]
    have hmac : a.mac p = s.dev.mac p := ha ▸ s.dev.readySample_mac p ready
    have hout : a.out = s.dev.out := ha ▸ s.dev.readySample_out p ready
    refine ⟨fun hready hfate => ⟨a.handedOff p f, ?_, ?_⟩, fun hready => ?_⟩
    · rw [hrun, Dev.headHandoff_ready waited hport hreset hrx hst hfate (by rw [← ha, ← hsl, hready]), ← ha]
    · rw [Dev.handedOff_mac, Dev.handedOff_out, hmac, hout, ← hsl]
      exact ⟨rfl, rfl, rfl, rfl⟩
    · rw [hrun, Dev.headHandoff_waits waited hport hreset hrx hst (by rw [← ha, ← hsl, hready]), ← ha]
  · have hrun : exec (.rxFrameEnd e) s = .next { s with dev := s.dev.frameEnd s.ctl.proof e } := by
      rw [show exec (.rxFrameEnd e) s = execRxFrameEnd e s from rfl, execRxFrameEnd, State.onDev_clocked hc]
    rw [hrun, Dev.frameEnd_begun _ hlt hrx hv, Dev.endedAs]
    refine ⟨fun hst => by rw [hst], fun _ hd => ⟨fun hst => by rw [hst, hd], fun hst => by rw [hst, hd], fun hst => ?_⟩⟩
    rcases hst with hst | hst | hst <;> rw [hst, hd]
  · have hlt := Dev.lt_of_isLanePort hlane
    have hport : s.dev.isPort e.port = true := by
      simp only [Dev.isLanePort, Bool.and_eq_true] at hlane
      exact hlane.2
    rw [show exec (.rxFrameEnd e) s = execRxFrameEnd e s from rfl, execRxFrameEnd, State.onDev_clocked hc, Dev.frameEnd]
    simp only [hrx, hport, hreset, hlt, hfed, hlen, Bool.not_true, Bool.false_eq_true, or_self, if_false, if_true, and_self]
  · have hlt := Dev.lt_of_isLanePort hlane
    have hport : s.dev.isPort p = true := by
      simp only [Dev.isLanePort, Bool.and_eq_true] at hlane
      exact hlane.2
    rw [show exec (.rxRmOverflow p same) s = execRxRmOverflow p same s from rfl, execRxRmOverflow, State.onDev_clocked hc,
      Dev.rmOverflow, if_pos ⟨hlt, hport, hon⟩]
    simp only [hrx]
    refine ⟨_, rfl, ?_, ?_⟩
    · rw [Dev.port_set]
    · rw [Dev.setPort_get, Dev.rmDropped, Dev.seen_keeps _ _ _ _ _ (by decide), Dev.get_inc]
  · rw [show exec (.recircLateDiscard p) s = execRecircLateDiscard p s from rfl, execRecircLateDiscard, State.onDev_clocked hc,
      Dev.recircLate, if_pos]
    simp [hlo, hhi, hrx, hloop]

open Sys2Proof Sys2Proof.Machine Sys2Proof.Machine.F in
/-- Settles O25: the gap is TX_IPG rounded down to the boundary where the deficit leaves room for it, up otherwise. -/
theorem gapsAligned : Obligations.GapsAligned := by
  intro g d n ctrl hlo hhi hd
  unfold gapAfter
  extract_lets a
  by_cases ha : a = 0
  · rw [if_pos ha]
    simp only [a] at ha
    refine ⟨?_, ?_, ?_, fun _ => le_rfl, hd⟩ <;> dsimp only <;> omega
  · rw [if_neg ha]
    have hsum : (n + (g + a)) % 8 = 0 := by simp only [a]; omega
    have hlt : a < 8 := Nat.mod_lt _ (by decide)
    by_cases hdown : 8 - a ≤ 3 - d ∧ (!ctrl) = true
    · rw [if_pos hdown]
      refine ⟨?_, ?_, ?_, fun hctrl => ?_, ?_⟩
      · dsimp only; omega
      · dsimp only; omega
      · dsimp only; omega
      · simp [hctrl] at hdown
      · dsimp only; omega
    · rw [if_neg hdown]
      refine ⟨hsum, ?_, ?_, fun _ => ?_, ?_⟩ <;> dsimp only <;> omega
end

section
/-!
SUPPORT. The galley's release of stored frames, its scrub and retired extents, and control frames. With these, O26.
-/
namespace Sys2Proof.Machine
open F

theorem State.onClass_clocked {s : State} (h : s.clocked = true) {p c : Nat} (hp : s.dev.isLanePort p = true) (hc : c < 16)
    (g : Nat → Dev → Dev) : s.onClass p c g = .next { s with dev := g (p * 16 + c) s.dev } := by
  rw [State.onClass, State.onDev_clocked h, if_pos ⟨hp, hc⟩]

/-- The front frame of a class is tested for age, and the next one only where it left (R141). -/
theorem Dev.galAgeAll_old {d : Dev} {pc : Nat} {x : Stored} (hq : (d.gal pc).q = [x]) (hold : d.tooOld x = true) :
    d.galAgeAll pc = (d.galDrop pc GAL_P_AGE_DROP.COUNT).galPop pc := by
  rw [Dev.galAgeAll, hq, List.length_singleton, Dev.galAge, hq]
  simp only [hold, if_true]
  rfl

theorem Dev.galAgeAll_fresh {d : Dev} {pc : Nat} {x : Stored} {l : List Stored} (hq : (d.gal pc).q = x :: l)
    (hold : d.tooOld x = false) : d.galAgeAll pc = d := by
  rw [Dev.galAgeAll, hq, List.length_cons, Dev.galAge, hq]
  simp only [hold, Bool.false_eq_true, if_false]

/-- What a release does once the class to release from has a front frame whose slice is looked at (R136, R142). -/
def Dev.released (d : Dev) (p c : Nat) (x : Stored) (errs : List (Nat × Bool)) : Dev :=
  let pc := p * 16 + c
  let r := d.galRead pc errs
  if r.2.1 then (r.2.2.galUeFault (r.1.getD 0) pc).galLose pc 0
  else if r.1.isSome || x.hurt then (((r.2.2.galUeFault (r.1.getD 0) pc).galDrop pc GAL_P_UE_DROP.COUNT).galPop pc).galAgeAll pc
  else ((r.2.2.galHand p c x).galPop pc).galAgeAll pc

theorem Dev.galRelease_front {d : Dev} {p c ready : Nat} {x : Stored} {l : List Stored} (errs : List (Nat × Bool)) (waited : Bool)
    (hnext : d.galNext p = some c) (hbusy : d.dealBusy p = false)
    (hq : (((d.readySample p ready).galAgeAll (p * 16 + c)).gal (p * 16 + c)).q = x :: l) :
    d.galRelease p errs ready waited =
      if ((d.readySample p ready).galAgeAll (p * 16 + c)).sliceReady p ready then
        ((d.readySample p ready).galAgeAll (p * 16 + c)).released p c x errs
      else if waited then ((d.readySample p ready).galAgeAll (p * 16 + c)).sliceWait p
      else (d.readySample p ready).galAgeAll (p * 16 + c) := by
  unfold Dev.galRelease
  simp only [hnext, hbusy, Bool.false_eq_true, if_false, hq]
  cases ((d.readySample p ready).galAgeAll (p * 16 + c)).sliceReady p ready <;> rfl

theorem Dev.released_clean {d : Dev} {p c : Nat} {x : Stored} (h : x.hurt = false) :
    d.released p c x [] = ((d.galHand p c x).galPop (p * 16 + c)).galAgeAll (p * 16 + c) := by
  unfold Dev.released
  simp only [Dev.galRead, h]
  rfl

theorem Dev.released_corrected {d : Dev} {p c b : Nat} {x : Stored} (h : x.hurt = false) :
    d.released p c x [(b, false)] =
      (((d.galCe (d.byteAt (p * 16 + c) b).1 (d.byteAt (p * 16 + c) b).2.1).galHand p c x).galPop (p * 16 + c)).galAgeAll
        (p * 16 + c) := by
  unfold Dev.released
  simp only [Dev.galRead, h]
  rfl

/-- An uncorrectable byte lies in the record of the front frame, its first 16 bytes, or in the frame. -/
theorem Dev.released_record {d : Dev} {p c b : Nat} {x : Stored} (h : b < 16) :
    d.released p c x [(b, true)] =
      ((d.galUe (d.byteAt (p * 16 + c) b).1).galUeFault (d.byteAt (p * 16 + c) b).2.2 (p * 16 + c)).galLose (p * 16 + c) 0 := by
  unfold Dev.released
  exact if_pos (by simp [Dev.galRead, h])

theorem Dev.released_hurt {d : Dev} {p c b : Nat} {x : Stored} (h : 16 ≤ b) :
    d.released p c x [(b, true)] =
      ((((d.galUe (d.byteAt (p * 16 + c) b).1).galUeFault (d.byteAt (p * 16 + c) b).2.2 (p * 16 + c)).galDrop (p * 16 + c)
        GAL_P_UE_DROP.COUNT).galPop (p * 16 + c)).galAgeAll (p * 16 + c) := by
  unfold Dev.released
  exact (if_neg (by simp [Dev.galRead, Nat.not_lt.mpr h])).trans (if_pos rfl)

/-- The control frame the MAC sends at a frame boundary, with its refresh (R123, R148). -/
theorem Dev.ctrlSend_asked {d : Dev} {p : Nat} (hlt : p < 1024) (hup : d.on MAC_PORT_STATUS.TX_UP p = true)
    (hreq : (d.mac p).fcReq = true) (htx : (d.mac p).tx = none) (hfar : d.on PCS_CTL.FAR_LOOP p = false) :
    d.ctrlSend p =
      if d.on MAC_PORT_CFG.PFC_EN p || d.on MAC_PORT_CFG.PAUSE_EN p then
        ((((d.setMac p { d.mac p with fcReq := false }).inc MAC_TX_CTRL.COUNT p).wireOut p (withFcs (padTo 60
          (beBytes 0x0180C2000001 6 ++ beBytes (d.get MAC_PORT_SA.SA p) 6 ++ [0x88, 0x08] ++ d.fcBytes p))) true).put
            X.FC_REFRESH p (flag (d.anyXoff p)))
      else d.setMac p { d.mac p with fcReq := false } := by
  unfold Dev.ctrlSend
  exact if_pos (by simp [hlt, hup, hreq, htx, hfar])

theorem Dev.mac_put (d : Dev) (F : Fld) (i v p : Nat) : (d.put F i v).mac p = d.mac p := rfl
theorem Dev.mac_inc (d : Dev) (F : Fld) (i p : Nat) : (d.inc F i).mac p = d.mac p := rfl

/-- A frame on the wire: the count of deficit, the characters of the coding layer, and what is seen of it. -/
theorem Dev.wireOut_mac (d : Dev) (p : Nat) (l : List Nat) (ctrl : Bool) :
    (d.wireOut p l ctrl).mac p = { d.mac p with
      deficit := (gapAfter (d.get MAC_PORT_CFG.TX_IPG p) (d.mac p).deficit l.length ctrl).2 } := Dev.mac_set d p _

theorem Dev.wireOut_out (d : Dev) (p : Nat) (l : List Nat) (ctrl : Bool) :
    (d.wireOut p l ctrl).out =
      .frame p (byteList l) (gapAfter (d.get MAC_PORT_CFG.TX_IPG p) (d.mac p).deficit l.length ctrl).1 :: d.out := rfl

theorem Dev.wireOut_octs (d : Dev) (p : Nat) (l : List Nat) (ctrl : Bool) :
    ((d.wireOut p l ctrl).port p).octs = (d.port p).octs ++
      frameOcts (byteList l) (gapAfter (d.get MAC_PORT_CFG.TX_IPG p) (d.mac p).deficit l.length ctrl).1 := by
  rw [show (d.wireOut p l ctrl).port p = _ from Dev.port_set _ p _]
  rfl

theorem Dev.wireOut_get (d : Dev) (p : Nat) (l : List Nat) (ctrl : Bool) (F : Fld) (i : Nat) :
    (d.wireOut p l ctrl).get F i = d.get F i := rfl

/-- What a control frame sent leaves: one more counted, the refresh as given, the frame out and its characters queued. -/
theorem Dev.controlSent (d : Dev) (p v : Nat) (l : List Nat) {c e : Dev} (hcount : c = (d.setMac p
      { d.mac p with fcReq := false }).inc MAC_TX_CTRL.COUNT p) (he : e = (c.wireOut p l true).put X.FC_REFRESH p v) :
    e.get X.FC_REFRESH p = v % 2 ^ X.FC_REFRESH.w ∧
    e.get MAC_TX_CTRL.COUNT p = min (d.get MAC_TX_CTRL.COUNT p + 1) (2 ^ MAC_TX_CTRL.COUNT.w - 1) ∧
    ∃ g b, b = byteList l ∧ e.out = .frame p b g :: d.out ∧ (e.port p).octs = (d.port p).octs ++ frameOcts b g := by
  have hget : c.get MAC_TX_CTRL.COUNT p = min (d.get MAC_TX_CTRL.COUNT p + 1) (2 ^ MAC_TX_CTRL.COUNT.w - 1) := by
    rw [hcount, Dev.get_inc, Dev.setMac_get]
  have hout : c.out = d.out := by rw [hcount]; rfl
  have hport : c.port p = d.port p := by rw [hcount]; rfl
  subst he
  clear hcount
  refine ⟨Dev.get_put _ _ _ _, ?_, (gapAfter (c.get MAC_PORT_CFG.TX_IPG p) (c.mac p).deficit l.length true).1, _, rfl, ?_, ?_⟩
  · rw [Dev.get_put_id _ _ _ _ (by decide), Dev.wireOut_get, hget]
  · rw [← hout, ← Dev.wireOut_out]
    rfl
  · rw [← hport, ← Dev.wireOut_octs]
    rfl

/-- The scrub's visit of the cell it stands at (R143). -/
theorem Dev.scrub_at {d : Dev} {x c : Nat} {corrected : Bool} (bad : Option Nat) (hen : d.on GAL_SCRUB.EN 0 = true)
    (hin : d.on GAL_STATUS.IN_SERVICE 0 = true) (hat : d.scrubAt x c = true) (e : Dev)
    (he : e = if corrected then (d.put X.GAL_SCRUB_POS 0 (x * 8192 + c + 1)).galCe x c
      else d.put X.GAL_SCRUB_POS 0 (x * 8192 + c + 1))
    (hfree : bad ≠ none → (e.galUe x).extentData x = none) :
    d.scrub x c corrected bad = if bad.isSome then e.galUe x else e := by
  unfold Dev.scrub
  simp only [hen, hin, hat, Bool.and_self, if_true, ← he]
  cases bad with
  | none => rfl
  | some w => simp only [hfree (Option.some_ne_none w), Option.isSome_some, if_true]

end Sys2Proof.Machine

open Sys2Proof Sys2Proof.Machine Sys2Proof.Machine.F in
/-- Settles O26: each event is one branch of its definition. -/
theorem galleyEventsRun : Obligations.GalleyEventsRun := by
  intro s hc
  refine ⟨fun p c hp hcls => ⟨fun n => ?_, fun hstale => ?_, fun x hq hold => ?_, fun x l hq hold => ?_⟩,
    fun p hp => ⟨fun f l v hpause hpfc htimes => ?_, fun k hk => ?_, fun k hk hrep hxoff => ?_, fun hrefresh hup hxoff => ?_,
      fun hup hreq htx hfar => ?_, fun c pc x l d ready waited hnext hpc hbusy hd hq => ?_⟩,
    fun hen hin => ⟨fun hat => ?_, fun x c w d hx hcell hat hd => ⟨?_, ?_, fun hfree => ?_⟩⟩, fun x c a b hat => ?_,
    fun x hx hmark => ⟨fun hdata => ?_, fun d n hdata hn hd hleft => ?_⟩, fun c hch hin hfailed => ?_⟩
  · rw [show exec (.occupancyReport p c n) s = execOccupancyReport p c n s from rfl, execOccupancyReport,
      State.onClass_clocked hc hp hcls]
    rfl
  · rw [show exec (.reportStale p c) s = execReportStale p c s from rfl, execReportStale, State.onClass_clocked hc hp hcls,
      Dev.coreStale, if_neg (by simp [hstale])]
  · rw [show exec (.galleyAgeCheck p c) s = execGalleyAgeCheck p c s from rfl, execGalleyAgeCheck,
      State.onClass_clocked hc hp hcls, Dev.galAgeAll_old hq hold]
  · rw [show exec (.galleyAgeCheck p c) s = execGalleyAgeCheck p c s from rfl, execGalleyAgeCheck,
      State.onClass_clocked hc hp hcls, Dev.galAgeAll_fresh hq hold]
  · rw [show exec (.rxPauseTimerLoad p) s = execRxPauseTimerLoad p s from rfl, execRxPauseTimerLoad, State.onPort_clocked hc hp,
      Dev.pauseLoad]
    simp only [hpause, hpfc, htimes, Bool.false_eq_true, if_false]
    rfl
  · rw [show exec (.rxPauseTimerExpiry p k) s = execRxPauseTimerExpiry p k s from rfl, execRxPauseTimerExpiry,
      State.onPort_clocked hc hp, if_pos hk, Dev.pauseExpiry, Nat.min_eq_left (Nat.le_of_lt_succ hk)]
  · rw [show exec (.xoffFallReport p k) s = execXoffFallReport p k s from rfl, execXoffFallReport, State.onPort_clocked hc hp,
      if_pos hk, Dev.xoffFall, if_pos ⟨hrep, by simp [hxoff]⟩]
    refine ⟨_, rfl, ?_, ?_⟩
    · rw [Dev.fcRequest, Dev.mac_set]
    · rw [Dev.fcRequest, Dev.setMac_get, Dev.get_put]
  · rw [show exec (.fcRefreshExpiry p) s = execFcRefreshExpiry p s from rfl, execFcRefreshExpiry, State.onPort_clocked hc hp,
      Dev.fcRefresh, if_pos (by simp [Dev.on_of_get hrefresh, Dev.on_of_get hup, hxoff])]
    rfl
  · rw [show exec (.controlFrameSend p) s = execControlFrameSend p s from rfl, execControlFrameSend, State.onPort_clocked hc hp,
      Dev.ctrlSend_asked (Dev.lt_of_isLanePort hp) (Dev.on_of_get hup) hreq htx (Dev.not_on_of_get hfar)]
    refine ⟨_, rfl, ?_, fun hpause hxoff => ?_⟩
    · split
      · rw [Dev.mac_put, Dev.wireOut_mac, Dev.mac_inc, Dev.mac_set]
      · rw [Dev.mac_set]
    · rw [if_pos (by simp [Dev.on_of_get hpause])]
      have hany : s.dev.anyXoff p = false := by
        rw [Dev.anyXoff, if_pos (Dev.on_of_get hpause), Dev.not_on_of_get hxoff]
      have hbytes : s.dev.fcBytes p = [0, 1, 0, 0] := by
        rw [Dev.fcBytes, if_pos (Dev.on_of_get hpause), Dev.not_on_of_get hxoff, if_neg Bool.false_ne_true]
        rfl
      have hcat : ∀ x : List Nat, x ++ [0x88, 0x08] ++ [0, 1, 0, 0] = x ++ [0x88, 0x08, 0, 1, 0, 0] := fun x =>
        List.append_assoc x _ _
      rw [hany, hbytes, hcat]
      exact Dev.controlSent s.dev p 0 _ rfl rfl
  · subst hpc
    have hrun := fun errs => show exec (.galleyRelease p errs ⟨ready, waited⟩) s =
        .next { s with dev := if d.sliceReady p ready then d.released p c x errs
          else if waited then d.sliceWait p else d } by
      rw [show exec (.galleyRelease p errs ⟨ready, waited⟩) s = execGalleyRelease p errs ⟨ready, waited⟩ s from rfl,
        execGalleyRelease, State.onPort_clocked hc hp, Dev.galRelease_front errs waited hnext hbusy (hd ▸ hq), ← hd]
    refine ⟨fun errs hready => ?_, fun hready hhurt => ?_, fun b hready hb => ?_, fun b hready hb => ?_, fun b hready hhurt => ?_⟩
    · rw [hrun, if_neg (by simp [hready])]
    · rw [hrun, if_pos hready, Dev.released_clean hhurt]
    · rw [hrun, if_pos hready, Dev.released_record hb]
    · rw [hrun, if_pos hready, Dev.released_hurt hb]
    · rw [hrun, if_pos hready, Dev.released_corrected hhurt]
  · rw [show exec .scrubPassDone s = execScrubPassDone s from rfl, execScrubPassDone, State.onDev_clocked hc, Dev.scrubPass,
      if_pos (by simp [Dev.on_of_get hen, Dev.on_of_get hin, hat])]
  · rw [show exec (.scrubVisit x c false none) s = execScrubVisit x c false none s from rfl, execScrubVisit,
      State.onDev_clocked hc, if_pos ⟨hx, hcell⟩,
      Dev.scrub_at (corrected := false) none (Dev.on_of_get hen) (Dev.on_of_get hin) hat d hd (fun h => absurd rfl h)]
    rfl
  · rw [show exec (.scrubVisit x c true none) s = execScrubVisit x c true none s from rfl, execScrubVisit,
      State.onDev_clocked hc, if_pos ⟨hx, hcell⟩,
      Dev.scrub_at none (Dev.on_of_get hen) (Dev.on_of_get hin) hat (d.galCe x c) (hd ▸ rfl) (fun h => absurd rfl h)]
    rfl
  · rw [show exec (.scrubVisit x c false (some w)) s = execScrubVisit x c false (some w) s from rfl, execScrubVisit,
      State.onDev_clocked hc, if_pos ⟨hx, hcell⟩,
      Dev.scrub_at (corrected := false) (some w) (Dev.on_of_get hen) (Dev.on_of_get hin) hat d hd (fun _ => hfree)]
    rfl
  · rw [show exec (.scrubVisit x c a b) s = execScrubVisit x c a b s from rfl, execScrubVisit, State.onDev_clocked hc]
    have hsame : s.dev.scrub x c a b = s.dev := if_neg (by simp [hat])
    rw [hsame, ite_self]
  · rw [show exec (.extentSwap x) s = execExtentSwap x s from rfl, execExtentSwap, State.onDev_clocked hc, if_pos hx,
      Dev.extentSwap, if_neg]
    simp [hdata]
  · rw [show exec (.extentSwap x) s = execExtentSwap x s from rfl, execExtentSwap, State.onDev_clocked hc, if_pos hx,
      Dev.extentSwap, if_pos (by simp [Dev.on_of_get hmark, hdata]), ← hd]
    dsimp only
    rw [hleft, if_pos (Nat.lt_of_lt_of_le (by decide) hn), if_neg (Nat.ne_of_gt hn)]
  · rw [show exec (.galleyChannelError c) s = execGalleyChannelError c s from rfl, execGalleyChannelError, State.onDev_clocked hc,
      if_pos ⟨hch, Dev.on_of_get hin, by simp [Dev.not_on_of_get hfailed]⟩, Dev.fault,
      Nat.mod_eq_of_lt (Nat.lt_trans hch (by decide))]
    rfl
end

section
/-!
SUPPORT. The cox: notices, decisions, refills and walks; frames in transmission and their stamps. With these, O27, O28
and O29.
-/
namespace Sys2Proof.Machine
open F

theorem State.onAnyPort_clocked {s : State} (h : s.clocked = true) {p : Nat} (hp : s.dev.isPort p = true) (g : Dev → Dev) :
    s.onAnyPort p g = .next { s with dev := g s.dev } := by
  rw [State.onAnyPort, State.onDev_clocked h, if_pos hp]

theorem memPc_common (pc : Nat) : memPc (memKey pc none) = pc := Nat.mul_div_cancel pc (by decide)

theorem Dev.noticeFor_common {d : Dev} {p : Nat} (c : Nat) (hp : d.isPort p = true) :
    d.noticeFor p c none = some (memKey (p * 16 + c) none, d) := by
  rw [Dev.noticeFor, if_neg (by simp [hp])]
  rfl

theorem Dev.noticeFor_none {d : Dev} {p : Nat} (c : Nat) (q : Option Nat) (hp : d.isPort p = false) : d.noticeFor p c q = none := by
  rw [Dev.noticeFor, if_pos (by simp [hp])]

/-- A fold of steps that leave the register fields as they are leaves them too. -/
theorem Dev.foldl_f {α : Type} {g : Dev → α → Dev} (hg : ∀ d a, (g d a).f = d.f) (l : List α) (d : Dev) :
    (l.foldl g d).f = d.f := by
  induction l generalizing d with
  | nil => rfl
  | cons a l ih => exact (ih _).trans (hg d a)

theorem Dev.ageWalk_f (d : Dev) : d.ageWalk.f = d.f := by
  have hmember : ∀ (d : Dev) (k : Nat), (d.ageMember k).f = d.f := by
    intro d k
    unfold Dev.ageMember
    dsimp only
    split <;> rfl
  have hclass : ∀ (d : Dev) (pc : Nat), (d.ageClass pc).f = d.f := by
    intro d pc
    unfold Dev.ageClass
    dsimp only
    split <;> rfl
  exact (Dev.foldl_f hclass _ _).trans (Dev.foldl_f hmember _ _)

/-- The fields a telemetry sample may change (R183). -/
def sampleIds : List Nat := [COX_TELEM_RECORDS.COUNT.id, (COX_C_CNT.COUNT 7).id, (COX_P_CNT.COUNT 7).id]

theorem Dev.sampleTo_keeps (d : Dev) (w k : Nat) : Dev.keeps sampleIds d (d.sampleTo w k) := by
  have hrecord : Dev.keeps sampleIds d ((d.toRing (ringTelem (d.get X.TELEM_FUNC 0)) (d.sample k w)).inc
      COX_TELEM_RECORDS.COUNT 0) := Dev.keeps.inc (by decide) (Dev.keeps.setRing (Dev.keeps.refl _ d))
  unfold Dev.sampleTo
  dsimp only
  split <;> exact Dev.keeps.inc (by decide) hrecord

theorem Dev.bucket_set (d : Dev) (b : Nat) (x : Bucket) : (d.setBucket b x).bucket b = x := by simp [Dev.bucket, Dev.setBucket]
theorem Dev.bucket_set_ne (d : Dev) {b c : Nat} (x : Bucket) (h : b ≠ c) : (d.setBucket b x).bucket c = d.bucket c := by
  simp [Dev.bucket, Dev.setBucket, Tab.get_set_ne _ _ _ _ h]

/-- The frame at the front of a port's requests starts, unless it is discarded or waits (R73, R110). -/
theorem Dev.frameStart_front {d : Dev} {x : StartTx} {r : Req} {l : List Req} (htx : ((d.ctrlSend x.port).mac x.port).tx = none)
    (hreqs : ((d.ctrlSend x.port).mac x.port).reqs = r :: l) :
    d.frameStart x =
      if r.doomed then
        (((d.ctrlSend x.port).setMac x.port { (d.ctrlSend x.port).mac x.port with reqs := l }).inc MAC_TX_ABORT.COUNT
          x.port).unsent x.port x.md
      else if x.port < 1024 ∧ (d.ctrlSend x.port).on PCS_CTL.FAR_LOOP x.port = true then d.ctrlSend x.port
      else if x.bytes.length < min (mdLen x.md) (((d.ctrlSend x.port).portWidth x.port).getD 1 * 256) then d.ctrlSend x.port
      else ((d.ctrlSend x.port).setMac x.port { (d.ctrlSend x.port).mac x.port with reqs := l }).txBegin x r := by
  unfold Dev.frameStart
  simp only [htx, hreqs]

theorem Dev.ring_put (d : Dev) (F : Fld) (i v r : Nat) : (d.put F i v).ring r = d.ring r := rfl
theorem Dev.ring_setMac (d : Dev) (p r : Nat) (m : MacSt) : (d.setMac p m).ring r = d.ring r := rfl

/-- The stamp mover's one record, and the loss record that takes its place in the queue (R200, R201). -/
theorem Dev.stampMove_next {d : Dev} {p w : Nat} {l : List Nat} (hnext : d.nextStamped = some p)
    (hstamps : (d.mac p).stamps = w :: l) :
    d.stampMove.get X.STAMP_RR 0 = p % 2 ^ X.STAMP_RR.w ∧
    (d.stampMove.ring (ringStamp (d.get TIM_PORT_CFG.STAMP_FUNC p))).arrive =
      (d.ring (ringStamp (d.get TIM_PORT_CFG.STAMP_FUNC p))).arrive ++ [w] ∧
    (d.stampMove.mac p).run = none ∧
    (d.stampMove.mac p).stamps = l ++ ((d.mac p).run.map fun r => stampLoss false p r.1 r.2.1 r.2.2).toList := by
  unfold Dev.stampMove
  cases hrun : (d.mac p).run with
  | none =>
    simp only [hnext, hstamps, hrun, Dev.mac_set, Dev.ring_setMac, Dev.ring_put, Dev.toRing, Dev.ring_set, Dev.setMac_get,
      Dev.setRing_get, Dev.get_put, Option.map_none, Option.toList_none, List.append_nil, and_self]
  | some r =>
    obtain ⟨i, q, k⟩ := r
    simp only [hnext, hstamps, hrun, Dev.mac_set, Dev.ring_setMac, Dev.ring_put, Dev.toRing, Dev.ring_set, Dev.setMac_get,
      Dev.setRing_get, Dev.get_put, Option.map_some, Option.toList_some, and_self]

end Sys2Proof.Machine

open Sys2Proof Sys2Proof.Machine Sys2Proof.Machine.F in
/-- Settles O27: each event is one branch of its definition. -/
theorem coxEventsRun : Obligations.CoxEventsRun := by
  intro s hc
  refine ⟨fun p c n hp hcls => ⟨?_, ?_⟩, fun p c x hp hcls hroom => ?_, fun p c q n hp hcls hq => ?_, fun p k hmay hlong => ?_,
    fun p pc d hmay hlong hpick => ?_, fun p hp => ?_, fun q hq => ?_, fun q hq hpol => ?_, ⟨?_, Dev.ageWalk_f _⟩,
    fun hen hwalk => ?_, fun w hen hwalk hw => ?_⟩
  · rw [show exec (.queueArrive p c none n) s = execQueueArrive p c none n s from rfl, execQueueArrive, State.onDev_clocked hc,
      if_pos (by simp [noticeNamed, hcls]), Dev.queueArrive, Dev.noticeFor_common c hp]
    dsimp only
    rw [memPc_common]
  · rw [show exec (.queueDrop p c none n) s = execQueueDrop p c none n s from rfl, execQueueDrop, State.onDev_clocked hc,
      if_pos (by simp [noticeNamed, hcls]), Dev.queueDrop, Dev.noticeFor_common c hp]
  · rw [show exec (.queueFront p c none x) s = execQueueFront p c none x s from rfl, execQueueFront, State.onDev_clocked hc,
      if_pos (by simp [noticeNamed, hcls]), Dev.queueFront, Dev.noticeFor_common c hp]
    dsimp only
    rw [if_pos hroom, memPc_common]
  · have hnamed : noticeNamed c q = true := by
      cases q with
      | none => simp [noticeNamed, hcls]
      | some u => simp [noticeNamed, hcls, hq u rfl]
    rw [show exec (.queueArrive p c q n) s = execQueueArrive p c q n s from rfl, execQueueArrive, State.onDev_clocked hc,
      if_pos hnamed, Dev.queueArrive, Dev.noticeFor_none c q hp,
      show exec (.queueDrop p c q n) s = execQueueDrop p c q n s from rfl, execQueueDrop, State.onDev_clocked hc,
      if_pos hnamed, Dev.queueDrop, Dev.noticeFor_none c q hp]
    trivial
  · have hport : s.dev.isPort p = true := by
      simp only [Dev.mayDecide, Bool.and_eq_true, and_assoc] at hmay
      exact hmay.1
    rw [show exec (.coxDecision p) s = execCoxDecision p s from rfl, execCoxDecision, State.onAnyPort_clocked hc hport,
      Dev.decide1, if_pos hmay]
    simp only [hlong]
  · have hport : s.dev.isPort p = true := by
      simp only [Dev.mayDecide, Bool.and_eq_true, and_assoc] at hmay
      exact hmay.1
    rw [show exec (.coxDecision p) s = execCoxDecision p s from rfl, execCoxDecision, State.onAnyPort_clocked hc hport,
      Dev.decide1, if_pos hmay]
    simp only [hlong, hpick]
  · rw [show exec (.shaperRefill (.port p)) s = execShaperRefill (.port p) s from rfl, execShaperRefill, State.onDev_clocked hc]
    dsimp only
    rw [if_pos hp]
  · rw [show exec (.shaperRefill (.partner q)) s = execShaperRefill (.partner q) s from rfl, execShaperRefill,
      State.onDev_clocked hc]
    dsimp only
    rw [if_pos hq]
    rfl
  · rw [show exec (.policerRefill q) s = execPolicerRefill q s from rfl, execPolicerRefill, State.onDev_clocked hc,
      if_pos ⟨hq, Dev.on_of_get hpol⟩]
    have hne : bkTc q ≠ bkTp q := by simp [bkTc, bkTp]
    refine ⟨_, rfl, ?_, ?_, rfl⟩
    · rw [Dev.refillPolicer, Dev.bucket_set_ne _ _ hne.symm, Dev.bucket_set]
    · rw [Dev.refillPolicer, Dev.bucket_set]
  · rw [show exec .ageingWalk s = execAgeingWalk s from rfl, execAgeingWalk, State.onDev_clocked hc]
  · rw [show exec .telemetryWalk s = execTelemetryWalk s from rfl, execTelemetryWalk, State.onDev_clocked hc, Dev.telemWalk,
      if_neg (by simp [Dev.on_of_get hen]), if_pos (Dev.on_of_get hwalk)]
  · rw [show exec .telemetryWalk s = execTelemetryWalk s from rfl, execTelemetryWalk, State.onDev_clocked hc, Dev.telemWalk,
      if_neg (by simp [Dev.on_of_get hen]), if_neg (by simp [Dev.not_on_of_get hwalk]), ← hw]
    have hlt : w < 2 ^ 16 := hw ▸ Nat.mod_lt _ (by decide)
    have hkeep := fun (d : Dev) => Dev.keeps.foldl_mem (S := sampleIds) (g := fun d k => d.sampleTo w k) (l := s.dev.walkList)
      (fun x k _ => x.sampleTo_keeps w k) (Dev.keeps.refl _ d)
    refine ⟨_, rfl, ?_, ?_⟩
    · rw [hkeep _ _ _ (by decide)]
      exact (Dev.get_puts_of_mem _ _ (by simp; decide) (p := (COX_TELEM_STATUS.WALK, w)) (by simp)).trans (Nat.mod_eq_of_lt hlt)
    · rw [hkeep _ _ _ (by decide)]
      refine (Dev.get_puts_of_mem _ _ (by simp; decide) (p := (COX_TELEM_STATUS.WALKING, flag (!s.dev.walkList.isEmpty)))
        (by simp)).trans ?_
      cases s.dev.walkList <;> rfl

open Sys2Proof Sys2Proof.Machine Sys2Proof.Machine.F in
/-- Settles O28: each bucket is cut to its bounds by the minimum and maximum that form it. -/
theorem bucketsBounded : Obligations.BucketsBounded := by
  intro b rate burst t mx cl
  refine ⟨?_, ?_, rfl, fun hold hnew => ?_, ?_, rfl, fun hfill => ?_, fun hrate => if_pos hrate, fun hlo => ?_⟩
  · simp only [Bucket.refilled]; omega
  · exact Int.le_max_right _ _
  · simp only [Bucket.refilled, hold, hnew, ne_eq, not_false_eq_true, and_self, if_true]; omega
  · exact Int.min_le_right _ _
  · simp only [Bucket.policed, hfill, if_true]; omega
  · rw [Bucket.charged]
    split
    · exact ⟨le_rfl, hlo⟩
    · dsimp only; omega

open Sys2Proof Sys2Proof.Machine Sys2Proof.Machine.F in
/-- Settles O29: each event is one branch of its definition. -/
theorem transmitEventsRun : Obligations.TransmitEventsRun := by
  intro s hc
  refine ⟨fun x r l d hport hd htx hreqs => ?_, fun p t rest abort hport htx => ?_, fun p t hp htx => ?_,
    fun p w l hnext hstamps => ?_⟩
  · have hrun : exec (.txFrameStart x) s = .next { s with dev := s.dev.frameStart x } := by
      rw [show exec (.txFrameStart x) s = execTxFrameStart x s from rfl, execTxFrameStart, State.onAnyPort_clocked hc hport]
    rw [hrun, Dev.frameStart_front (hd ▸ htx) (hd ▸ hreqs), ← hd]
    refine ⟨fun hdoomed => ?_, fun hdoomed hfar hlen => ?_⟩
    · rw [if_pos hdoomed]
    · rw [if_neg (by simp [hdoomed]), if_neg, if_neg (Nat.not_lt.mpr hlen)]
      exact fun h => by simp [Dev.not_on_of_get (hfar h.1)] at h
  · have hrun : exec (.txFrameEnd p rest abort) s = .next { s with dev := s.dev.frameDone p rest abort } := by
      rw [show exec (.txFrameEnd p rest abort) s = execTxFrameEnd p rest abort s from rfl, execTxFrameEnd,
        State.onAnyPort_clocked hc hport]
    rw [hrun, Dev.frameDone]
    simp only [htx]
    refine ⟨fun h => ?_, fun habort hlen => ?_⟩
    · rw [if_pos h]
    · rw [if_neg (by simp [habort, hlen])]
  · rw [show exec (.txUnderrun p) s = execTxUnderrun p s from rfl, execTxUnderrun, State.onPort_clocked hc hp, Dev.underrun]
    simp only [htx, if_pos (Dev.lt_of_isLanePort hp)]
  · rw [show exec .stampMove s = execStampMove s from rfl, execStampMove, State.onDev_clocked hc]
    obtain ⟨hport, hring, hrun, hqueue⟩ := Dev.stampMove_next hnext hstamps
    refine ⟨_, rfl, hport, hring, hrun, hqueue.trans ?_⟩
    cases (s.dev.mac p).run <;> rfl
end

section
/-!
SUPPORT. A port whose lanes were taken into a new layout with its list pending: the counterexample to O30.
-/
namespace Sys2Proof.Machine
open F

/-- The complex running in FABRIC on the reset layout, with a list pending on port 8, its switch due, and the port not yet in
service since its lanes were laid out (R203). -/
def freshSwitch : State :=
  ⟨⟨.running, some .fabric, true, true, false, true, true, none, false, none⟩,
    (Dev.blank.put GATE_PORT_STATUS.PENDING 8 1).put X.GATE_FRESH 8 1, ⟨[], [], [], []⟩, []⟩

/-- Its switch to the list ends that state of the port. -/
theorem freshSwitch_ends : (match exec (.gateSwitch 8) freshSwitch with
    | .next t => t.dev.get X.GATE_FRESH 8
    | _ => 1) = 0 := by decide +kernel

end Sys2Proof.Machine

open Sys2Proof Sys2Proof.Machine Sys2Proof.Machine.F in
/-- Refutes O30: a switch to a pending list also clears X.GATE_FRESH, which the statement leaves as it was. -/
theorem not_timeAndGateEventsRun : ¬ Obligations.TimeAndGateEventsRun := by
  intro h
  have hends := freshSwitch_ends
  obtain ⟨-, -, -, -, -, -, hports⟩ := h freshSwitch rfl
  obtain ⟨-, -, -, hswitch, -⟩ := hports 8 (by decide +kernel)
  rw [hswitch _ _ (by decide +kernel) (by decide +kernel) (by decide +kernel) (by decide +kernel) rfl rfl] at hends
  exact absurd hends (by decide +kernel)
end

section
/-!
SUPPORT. The software engines of the proof units, and judgements of alive counters. With these, O32 and O33.
-/
namespace Sys2Proof.Machine
open F

theorem Dev.fifo_setFifo (d : Dev) (e : Nat) (l : List EngOp) : (d.setFifo e l).fifo e = l := by simp [Dev.fifo, Dev.setFifo]

theorem Dev.puts_fifos (d : Dev) (i : Nat) (l : List (Fld × Nat)) : (d.puts i l).fifos = d.fifos := by
  induction l generalizing d with
  | nil => rfl
  | cons x l ih => rw [Dev.puts_cons, ih, Dev.put_fifos]

/-- What an entry does leaves the FIFOs as they are (R223). -/
theorem Dev.engDo_fifos (d : Dev) (e : Nat) (x : EngOp) : (d.engDo e x).fifos = d.fifos := by
  cases x with
  | feed n b => exact Dev.put_fifos _ _ _ _
  | cfg v =>
    unfold Dev.engDo Dev.engPreset
    dsimp only
    split <;> simp only [Dev.puts_fifos]
  | poly v => exact Dev.put_fifos _ _ _ _
  | init v => exact Dev.put_fifos _ _ _ _
  | xorout v => exact Dev.put_fifos _ _ _ _
  | start => exact Dev.put_fifos _ _ _ _
  | none => rfl

theorem Dev.engStep_front {d : Dev} {e : Nat} {x : EngOp} {l : List EngOp} (h : d.fifo e = x :: l) :
    d.engStep e = (d.setFifo e l).engDo e x := by
  rw [Dev.engStep, h]

theorem Dev.engStep_fifo (d : Dev) (e : Nat) : (d.engStep e).fifo e = (d.fifo e).tail := by
  cases h : d.fifo e with
  | nil => rw [Dev.engStep, h]; exact h
  | cons x l => rw [Dev.engStep_front h, Dev.fifo, Dev.engDo_fifos]; exact d.fifo_setFifo e l

theorem Dev.engDrain_fifo (d : Dev) (e n : Nat) : (d.engDrain e n).fifo e = (d.fifo e).drop n := by
  induction n generalizing d with
  | zero => rfl
  | succ n ih => rw [Dev.engDrain, ih, Dev.engStep_fifo, List.drop_tail]

theorem Dev.engPush_room {d : Dev} {e : Nat} (x : EngOp) (h : (d.fifo e).length < 8) :
    d.engPush e x = d.setFifo e (d.fifo e ++ [x]) := by
  rw [Dev.engPush, if_neg (Nat.not_le.mpr h)]

theorem State.onEngine_room {s : State} (h : s.clocked = true) {e : Nat} (he : e < 16) (x : EngOp)
    (hroom : (s.dev.fifo e).length < 8) :
    s.onEngine e x = .next { s with dev := s.dev.setFifo e (s.dev.fifo e ++ [x]) } := by
  rw [State.onEngine, State.onDev_clocked h, if_pos he, Dev.engPush_room x hroom]

/-- Where a judgement stands once its record's part is done (R234, R235). -/
theorem Dev.judge_pass {d e : Dev} {k r a v port : Nat} (h : d.judge1 k r a v port = (.pass, e)) :
    d.judge k r a v port = (.pass, ((e.put X.PRF_BY r k).inc PRF_R_PASS.COUNT r).put X.PRF_AGE r 0) := by
  rw [Dev.judge, h]
  rfl

theorem Dev.judge_duplicate {d e : Dev} {k r a v port : Nat} (h : d.judge1 k r a v port = (.duplicate, e)) :
    d.judge k r a v port = (.duplicate, e.put X.PRF_BY r k) := by
  rw [Dev.judge, h]
  rfl

theorem acwBits_cases (c : Nat) : acwBits c = 4 ∨ acwBits c = 8 ∨ acwBits c = 16 := by
  unfold acwBits
  split
  · exact .inl rfl
  · split
    · exact .inr (.inl rfl)
    · exact .inr (.inr rfl)

/-- How far a counter is ahead of the counter last passed, modulo the counter's range (R234). -/
theorem aliveAhead_next {c a last : Nat} (h : a = (last + 1) % 2 ^ acwBits c) :
    (a + 2 ^ acwBits c - last % 2 ^ acwBits c) % 2 ^ acwBits c = 1 := by
  rcases acwBits_cases c with hw | hw | hw <;> rw [hw] at h ⊢ <;> omega

theorem aliveAhead_last {c a last : Nat} (h : a = last % 2 ^ acwBits c) :
    (a + 2 ^ acwBits c - last % 2 ^ acwBits c) % 2 ^ acwBits c = 0 := by
  rw [h, Nat.add_sub_cancel_left, Nat.mod_self]

/-- A record's place whose bit is set counts no loss. -/
theorem zerosIn_top {m n : Nat} (h : bitAt m (n - 1) = true) : zerosIn m (n - 1) n = 0 := by
  unfold zerosIn
  refine List.length_eq_zero_iff.mpr (List.filter_eq_nil_iff.mpr fun i hi => ?_)
  have hlt := List.mem_range.mp hi
  by_cases hle : n - 1 ≤ i
  · have htop : i = n - 1 := by omega
    simp [htop, h]
  · simp [hle]

/-- A counter one ahead of the last (R234). -/
def Dev.passedNext (d : Dev) (k r a v : Nat) : Dev :=
  ((d.add PRF_R_LOST.COUNT r 0).puts r
    [(PRF_REC_STATUS.MAP, (d.get PRF_REC_STATUS.MAP r <<< 1 ||| 2 ^ 0) % 2 ^ d.get PRF_PROF_SEQ.HIST k),
      (PRF_REC_STATUS.LAST, a), (PRF_REC_STATUS.OOW_RUN, 0)]).setChk r ((v :: d.chk r).take 33)

theorem Dev.judge1_next {d : Dev} {k r a v port : Nat} (hfresh : d.get PRF_REC_STATUS.FRESH r = 0)
    (ha : a = (d.get PRF_REC_STATUS.LAST r + 1) % 2 ^ acwBits (d.get PRF_PROF_CFG.ACW k))
    (hwindow : 1 ≤ d.get PRF_PROF_SEQ.WINDOW k)
    (hmap : bitAt (d.get PRF_REC_STATUS.MAP r) (d.get PRF_PROF_SEQ.HIST k - 1) = true) :
    d.judge1 k r a v port = (.pass, d.passedNext k r a v) := by
  have hone : 1 < 2 ^ (acwBits (d.get PRF_PROF_CFG.ACW k) - 1) := by
    rcases acwBits_cases (d.get PRF_PROF_CFG.ACW k) with h | h | h <;> rw [h] <;> decide
  unfold Dev.judge1
  simp only [aliveAhead_next ha, Dev.not_on_of_get hfresh, Bool.false_eq_true, if_false, hone, decide_true, le_refl, hwindow,
    and_self, if_true, Nat.sub_self, Nat.zero_sub, zerosIn_top hmap, Nat.add_zero, Nat.zero_min, List.replicate_zero]
  rfl

theorem Dev.judge1_last {d : Dev} {k r a v port : Nat} (hfresh : d.get PRF_REC_STATUS.FRESH r = 0)
    (ha : a = d.get PRF_REC_STATUS.LAST r % 2 ^ acwBits (d.get PRF_PROF_CFG.ACW k)) :
    d.judge1 k r a v port =
      (.duplicate, if d.on PRF_PROF_CFG.COMPARE k = true ∧ v ≠ (d.chk r)[0]?.getD 0 then
        (d.inc PRF_R_DUP.COUNT r).disagree r a ((d.chk r)[0]?.getD 0) v port else d.inc PRF_R_DUP.COUNT r) := by
  have hnone : ¬ 1 ≤ 0 := by decide
  have hcompare : (d.inc PRF_R_DUP.COUNT r).on PRF_PROF_CFG.COMPARE k = d.on PRF_PROF_CFG.COMPARE k := by
    rw [Dev.on, Dev.get_inc_id _ _ _ (by decide), Dev.on]
  unfold Dev.judge1
  simp only [aliveAhead_last ha, Dev.not_on_of_get hfresh, Bool.false_eq_true, if_false, hnone, false_and, and_false, true_or,
    if_true, hcompare]

/-- The fields a disagreement may change (R236). -/
def disagreeIds : List Nat := PRF_R_DISAGREE.COUNT.id :: [PRF_DIS_INFO.REC.id, PRF_DIS_INFO.ALIVE.id, PRF_DIS_INFO.PORT.id,
  PRF_DIS_CHK.FIRST.id, PRF_DIS_CHK.SECOND.id] ++ seenIds

theorem Dev.disagree_keeps (d : Dev) (r a x y port : Nat) : Dev.keeps disagreeIds d (d.disagree r a x y port) := by
  have hcount : Dev.keeps disagreeIds d (d.inc PRF_R_DISAGREE.COUNT r) := Dev.keeps.inc (by decide) (Dev.keeps.refl _ d)
  have hseen : ∀ i ∈ seenIds, i ∈ disagreeIds := fun i hi => List.mem_append_right _ hi
  unfold Dev.disagree
  dsimp only
  exact Dev.keeps.ite (Dev.keeps.step (Dev.seen_keeps _ _ _) hseen hcount)
    (Dev.keeps.step (Dev.seen_keeps _ _ _) hseen (Dev.keeps.puts rfl hcount))

end Sys2Proof.Machine

open Sys2Proof Sys2Proof.Machine Sys2Proof.Machine.F in
/-- Settles O32: each access is one branch of its definition; a read drains the FIFO entry by entry. -/
theorem proofUnitEventsRun : Obligations.ProofUnitEventsRun := by
  intro s e hc he
  have hstep : exec (.engineFifoEntry e) s = .next { s with dev := s.dev.engStep e } := by
    rw [show exec (.engineFifoEntry e) s = execEngineFifoEntry e s from rfl, execEngineFifoEntry, State.onDev_clocked hc, if_pos he]
  refine ⟨fun x r hroom => ?_, fun v b hroom => ?_, fun n x l hfifo => ?_, fun l hfifo => ?_, ⟨s.dev.engSettle e, ?_, ?_⟩,
    fun q a v p k hq hen hk => ?_, ?_⟩
  · have hpush := fun x => State.onEngine_room hc he x hroom
    exact ⟨hpush _, hpush _, hpush _, hpush _, hpush _⟩
  · exact State.onEngine_room hc he _ hroom
  · rw [hstep, Dev.engStep_front hfifo]
    rfl
  · rw [hstep, Dev.engStep_front hfifo]
    rfl
  · have hoffset : 0x2601000 + e * 0x100 + 0x30 = 0x2601030 + e * 0x100 := by omega
    rw [show exec (.prfEngResultRead e true) s = execPrfEngResultRead e true s from rfl, execPrfEngResultRead,
      State.onDev_clocked hc, if_pos he]
    simp only [if_true, hoffset]
    rfl
  · rw [Dev.engSettle, Dev.engDrain_fifo, List.drop_length]
  · rw [show exec (.aliveJudgement q a v p) s = execAliveJudgement q a v p s from rfl, execAliveJudgement,
      State.onDev_clocked hc, if_pos ⟨hq, Dev.on_of_get hen⟩, ← hk]
  · rw [show exec .recordAgeWalk s = execRecordAgeWalk s from rfl, execRecordAgeWalk, State.onDev_clocked hc, Dev.recWalk, Dev.each]

open Sys2Proof Sys2Proof.Machine Sys2Proof.Machine.F in
/-- Settles O33: a counter of a FRESH record, one ahead, and the last are each one branch of the judgement. -/
theorem judgementsRight : Obligations.JudgementsRight := by
  intro d k r a v port ha
  have hlt : a < 2 ^ 16 := lt_of_lt_of_le ha (by
    rcases acwBits_cases (d.get PRF_PROF_CFG.ACW k) with h | h | h <;> rw [h] <;> decide)
  refine ⟨fun hfresh => ?_, fun hfresh hnext hwindow hhist hmap => ?_, fun hfresh hlast => ?_⟩
  · have hjudge : d.judge1 k r a v port = (.pass, d.recRestart r a v (d.get PRF_PROF_SEQ.HIST k)) :=
      if_pos (Dev.on_of_get hfresh)
    refine ⟨_, Dev.judge_pass hjudge, ?_, ?_, ?_, ?_, ?_⟩
    · simp (disch := decide) only [Dev.recRestart, Dev.puts_cons, Dev.puts_nil, Dev.get_put_id, Dev.get_inc_id, Dev.setChk_get,
        Dev.get_put]
      rfl
    · simp (disch := decide) only [Dev.recRestart, Dev.puts_cons, Dev.puts_nil, Dev.get_put_id, Dev.get_inc_id, Dev.setChk_get,
        Dev.get_put]
      exact Nat.mod_eq_of_lt hlt
    · simp (disch := decide) only [Dev.recRestart, Dev.puts_cons, Dev.puts_nil, Dev.get_put_id, Dev.get_inc_id, Dev.setChk_get,
        Dev.get_put]
      rfl
    · rw [Dev.get_put]
      rfl
    · simp (disch := decide) only [Dev.recRestart, Dev.puts_cons, Dev.puts_nil, Dev.get_put_id, Dev.get_inc, Dev.setChk_get]
  · refine ⟨_, Dev.judge_pass (Dev.judge1_next hfresh hnext hwindow hmap), ?_, ?_⟩
    · simp (disch := decide) only [Dev.passedNext, Dev.puts_cons, Dev.puts_nil, Dev.get_put_id, Dev.get_inc_id, Dev.setChk_get,
        Dev.get_put]
      exact Nat.mod_eq_of_lt hlt
    · simp (disch := decide) only [Dev.passedNext, Dev.puts_cons, Dev.puts_nil, Dev.get_put_id, Dev.get_inc_id, Dev.setChk_get,
        Dev.get_add]
      rfl
  · refine ⟨_, Dev.judge_duplicate (Dev.judge1_last hfresh hlast), ?_, fun hcompare => ?_⟩
    · rw [Dev.get_put_id _ _ _ _ (by decide)]
      split
      · rw [Dev.disagree_keeps _ _ _ _ _ _ _ _ (by decide), Dev.get_inc_id _ _ _ (by decide)]
      · rw [Dev.get_inc_id _ _ _ (by decide)]
    · rw [Dev.get_put_id _ _ _ _ (by decide), if_neg (by simp [Dev.not_on_of_get hcompare]), Dev.get_inc_id _ _ _ (by decide)]
end

section
/-!
SUPPORT. The host packet engine: tables written twice, doorbells, index lines, descriptors and frames. With these, O34.
-/
namespace Sys2Proof.Machine
open F

theorem Tab.drop_of_absent {α : Type} {t : Tab α} {k : Nat} (h : ∀ p ∈ t, p.1 ≠ k) : Tab.drop t k = t := by
  induction t with
  | nil => rfl
  | cons p r ih =>
    obtain ⟨j, u⟩ := p
    have hj : j ≠ k := h (j, u) List.mem_cons_self
    simp [Tab.drop, hj, ih fun q hq => h q (List.mem_cons_of_mem _ hq)]

/-- A key put into a table and taken out again leaves the table without it. -/
theorem Tab.drop_insert {α : Type} {t : Tab α} {k : Nat} (v : α) (h : ∀ p ∈ t, p.1 ≠ k) : (t.insert k v).drop k = t := by
  induction t with
  | nil => simp [Tab.insert, Tab.drop]
  | cons p r ih =>
    obtain ⟨j, u⟩ := p
    have hj : j ≠ k := h (j, u) List.mem_cons_self
    have hr : ∀ q ∈ r, q.1 ≠ k := fun q hq => h q (List.mem_cons_of_mem _ hq)
    by_cases hk : k < j
    · simp [Tab.insert, Tab.drop, hk, hj, Tab.drop_of_absent hr]
    · simp [Tab.insert, Tab.drop, hk, hj, ih hr]

/-- The later of two writes of one key holds. -/
theorem Tab.set_set {α : Type} [DecidableEq α] (t : Tab α) (k : Nat) (u v a : α) : (t.set k u a).set k v a = t.set k v a := by
  have hdrop : (t.set k u a).drop k = t.drop k := by
    by_cases h : u = a
    · rw [Tab.set, if_pos h, Tab.drop_of_absent (Tab.drop_ne t k)]
    · rw [Tab.set, if_neg h, Tab.drop_insert u (Tab.drop_ne t k)]
  generalize t.set k u a = w at hdrop ⊢
  rw [Tab.set, Tab.set, hdrop]

theorem Dev.setRing_setRing (d : Dev) (r : Nat) (x y : RingSt) : (d.setRing r x).setRing r y = d.setRing r y := by
  rw [Dev.setRing, Dev.setRing, Tab.set_set]
  rfl

theorem Dev.ringSize_setRing (d : Dev) (r q : Nat) (x : RingSt) : (d.setRing r x).ringSize q = d.ringSize q := rfl
theorem Dev.ringRuns_setRing (d : Dev) (r q : Nat) (x : RingSt) : (d.setRing r x).ringRuns q = d.ringRuns q := rfl
theorem Dev.wantGen_setRing (d : Dev) (r q i : Nat) (x : RingSt) : (d.setRing r x).wantGen q i = d.wantGen q i := rfl
theorem Dev.belowTail_setRing (d : Dev) (r q i : Nat) (x : RingSt) : (d.setRing r x).belowTail q i = d.belowTail q i := rfl

theorem State.hosting_iff {s : State} : s.hosting = true ↔ s.clocked = true ∧ s.ctl.serving = true ∧ s.dev.pdOn 33 = true := by
  simp [State.hosting, and_assoc]

theorem State.onHost_hosting {s : State} (h : s.hosting = true) (g : Dev → Dev) : s.onHost g = .next { s with dev := g s.dev } := by
  obtain ⟨hc, hserving, hpd⟩ := State.hosting_iff.mp h
  rw [State.onHost, State.onDev_clocked hc, if_pos ⟨hserving, hpd⟩]

theorem State.onRing_hosting {s : State} (h : s.hosting = true) {r : Nat} (hr : r < 8448) (g : Dev → Dev) :
    s.onRing r g = .next { s with dev := g s.dev } := by
  rw [State.onRing, State.onHost_hosting h, if_pos hr]

theorem State.onPage_hosting {s : State} (h : s.hosting = true) {f : Nat} (hf : f < 64) (g : Dev → Dev) :
    s.onPage f g = .next { s with dev := g s.dev } := by
  obtain ⟨hc, -, hpd⟩ := State.hosting_iff.mp h
  rw [State.onPage, State.onDev_clocked hc, if_pos ⟨hf, hpd⟩]

/-- A doorbell that names a ring starts the read of its index line (R250), and orders what follows it where it asks (R269). -/
theorem Dev.doorbell_none {d : Dev} {f w : Nat} (hpd : d.pdOn 33 = true) (h : d.doorbellRing f w = none) :
    d.doorbell f w = d.badDoorbell f := by
  rw [Dev.doorbell, if_neg (by simp [hpd])]
  simp only [h]

theorem Dev.doorbell_ring {d : Dev} {f w r : Nat} (hpd : d.pdOn 33 = true) (h : d.doorbellRing f w = some r)
    (hreading : (d.ring r).reading = false) :
    d.doorbell f w =
      if bitAt w 15 then (((d.setRing r { d.ring r with stopped := false, reading := true }).askLine r).emit (.fence f))
      else (d.setRing r { d.ring r with stopped := false, reading := true }).askLine r := by
  rw [Dev.doorbell, if_neg (by simp [hpd])]
  have hask : (d.setRing r { d.ring r with stopped := false }).lineAsk r =
      (d.setRing r { d.ring r with stopped := false, reading := true }).askLine r := by
    rw [Dev.lineAsk]
    simp only [Dev.ring_set, hreading, Bool.false_eq_true, if_false, Dev.setRing_setRing]
  simp only [h, hask]

theorem Dev.askLine_ring (d : Dev) (r q : Nat) : (d.askLine r).ring q = d.ring q := rfl

/-- The tail a read of a work queue's index line brings, by how far it stands ahead (R249). -/
def Dev.tailRead (d : Dev) (r v ahead : Nat) : Dev :=
  if ahead ≤ d.ringSize r then (d.put RING_PROGRESS.SW_SEEN r v).fetchAll r
  else if 2 ^ 32 - ahead ≤ 16 then d.fetchAll r
  else d.ringHalt r rfOverrun

theorem Dev.lineDone_work {d : Dev} {r : Nat} (v : Nat) (hlate : d.lateRead r = false) (hline : (d.ring r).lateLine = 0)
    (hreading : (d.ring r).reading = true) (hagain : (d.ring r).again = false) (hruns : d.ringRuns r = true)
    (hwork : workRing r = true) :
    d.lineDone r v =
      (d.setRing r { d.ring r with reading := false }).tailRead r v (idxSub v (d.get RING_STATE.HW_INDEX r)) := by
  unfold Dev.lineDone
  extract_lets x z ahead
  have hz : z = d.setRing r { d.ring r with reading := false } := if_neg (by simp [x, hagain])
  have hrun : z.ringRuns r = true := by rw [hz, Dev.ringRuns_setRing, hruns]
  have hahead : ahead = idxSub v (d.get RING_STATE.HW_INDEX r) := by simp only [ahead, hz, Dev.setRing_get]
  rw [if_neg (by simp [x, hline]), if_neg (by simp [hlate]), if_neg (by simp [x, hreading]), if_neg (by simp [hrun]), if_pos hwork,
    hahead, hz]
  exact (Dev.tailRead.eq_1 _ _ _ _).symm

theorem Dev.fetchDone_one {d : Dev} {r i w : Nat} {l : List FetchRead} (hlate : d.lateRead r = false)
    (hfetch : (d.ring r).lateFetch = 0) (hreads : (d.ring r).reads = ⟨i, 1, true⟩ :: l) :
    d.fetchDone r [w] = (d.setRing r { d.ring r with reads := l }).validate r [w] := by
  unfold Dev.fetchDone
  simp only [hfetch, Nat.lt_irrefl, hlate, hreads, Bool.false_eq_true, if_false, if_true, List.take_succ_cons, List.take_zero,
    List.length_singleton, Nat.sub_self]

/-- The validation of one descriptor (R254). -/
theorem Dev.validate_one (d : Dev) (r w : Nat) :
    d.validate r [w] =
      if dGen w = d.wantGen r (d.fetchIndex r) then d.setRing r { d.ring r with ready := (d.ring r).ready ++ [w % 2 ^ 256] }
      else if d.belowTail r (d.fetchIndex r) then
        (d.setRing r { (d.ring r).drop with retries := some 0 }).askSlot r (d.fetchIndex r)
      else (d.setRing r { (d.ring r).drop with stopped := true }).add (RING_CNT.COUNT 6) r
        (1 + (((d.ring r).reads.filter (·.live)).map (·.count)).foldl (· + ·) 0) := by
  rw [Dev.validate, Dev.validate, List.length_nil, Nat.zero_add]

/-- The fetch position of a ring does not depend on the reads in flight. -/
theorem Dev.fetchIndex_reads (d : Dev) (r : Nat) (l : List FetchRead) :
    (d.setRing r { d.ring r with reads := l }).fetchIndex r = d.fetchIndex r := by
  rw [Dev.fetchIndex, Dev.ring_set]
  rfl

theorem Dev.fetchRetry_asked {d : Dev} {r w k : Nat} (hlate : d.lateRead r = false) (hretry : (d.ring r).lateRetry = 0)
    (hk : (d.ring r).retries = some k) :
    d.fetchRetry r w =
      if dGen w = d.wantGen r (d.fetchIndex r) then
        (d.setRing r { d.ring r with retries := none, ready := (d.ring r).ready ++ [w % 2 ^ 256] }).fetchAll r
      else if k + 1 < 4 then (d.setRing r { d.ring r with retries := some (k + 1) }).askSlot r (d.fetchIndex r)
      else d.ringHalt r rfGen := by
  unfold Dev.fetchRetry
  simp only [hretry, Nat.lt_irrefl, hlate, hk, Bool.false_eq_true, if_false]

theorem ringKind_rx {q : Nat} (h : q < 4096) : ringKind (ringRx q) = 1 := by
  have hge : ¬ 4096 + q < 4096 := by omega
  have hlt : 4096 + q < 8192 := by omega
  rw [ringKind, ringRx, if_neg hge, if_pos hlt]

/-- A frame delivered to host memory leaves the receive store (R263). -/
def Dev.delivered (d : Dev) (r need : Nat) (l : List HostRx) (k : List Nat) : Dev :=
  ((((d.setRing r { d.ring r with rx := l, ready := (d.ring r).ready.drop k.length }).nextUp r k.length).inc
    (RING_CNT.COUNT 0) r).add (RING_CNT.COUNT 1) r need)

theorem Dev.rxDeliver_bad {d : Dev} {r : Nat} {x : HostRx} {l : List HostRx} (hserves : d.ringServes r = true)
    (hkind : ringKind r = 1) (hrx : (d.ring r).rx = x :: l) (hbad : reserve (d.rxNeed r x) (d.ring r).ready [] = .bad) :
    d.rxDeliver r = d.ringHalt r rfType := by
  rw [Dev.rxDeliver, if_neg (by simp [hserves, hkind])]
  simp only [hrx, hbad]

theorem Dev.rxDeliver_enough {d : Dev} {r : Nat} {x : HostRx} {l : List HostRx} {k : List Nat} (hserves : d.ringServes r = true)
    (hkind : ringKind r = 1) (hrx : (d.ring r).rx = x :: l) (henough : reserve (d.rxNeed r x) (d.ring r).ready [] = .enough k) :
    d.rxDeliver r = ((d.rxWrite r (d.rxNeed r x) x k (d.get RING_PROGRESS.NEXT r) (x.bytes.take (d.rxNeed r x))).delivered r
      (d.rxNeed r x) l k).completeN r k.length := by
  rw [Dev.rxDeliver, if_neg (by simp [hserves, hkind])]
  simp only [hrx, henough, Dev.delivered]

theorem Dev.delivered_rx (d : Dev) (r need : Nat) (l : List HostRx) (k : List Nat) :
    ((d.delivered r need l k).ring r).rx = l := by
  have hring : (d.delivered r need l k).ring r = { d.ring r with rx := l, ready := (d.ring r).ready.drop k.length } :=
    Dev.ring_set d r _
  rw [hring]

end Sys2Proof.Machine

open Sys2Proof Sys2Proof.Machine Sys2Proof.Machine.F in
/-- Settles O34: each event is one branch of its definition. -/
theorem hostEngineEventsRun : Obligations.HostEngineEventsRun := by
  intro s hs
  obtain ⟨hc, hserving, hpd⟩ := State.hosting_iff.mp hs
  refine ⟨fun f w hf hring => ?_, fun f w r hf hring hreading hfence => ?_, fun f k q r hf hring hreading => ?_,
    fun f hf => ⟨?_, ?_, fun hbusy hsession => ?_⟩,
    fun r x hr hlate hx hline hfetch hretry => ⟨fun v d hreading hagain hruns hwork hd => ?_, fun w i l hreads => ?_,
      fun w k hk => ?_, ?_⟩,
    fun r x v w hr hx => ⟨fun h => ?_, fun h => ?_, fun h => ?_⟩, fun bufs r j hcur hpick => ?_, fun x l hstore => ?_,
    fun q x hroom => ?_, fun q x l hq hserves hrx => ?_, fun r hr hserves hunpub => ?_, fun r x l hr hkind harrive => ?_,
    fun r hr hwork hserves hfree hreading => ?_⟩
  · rw [show exec (.doorbell f w) s = execDoorbell f w s from rfl, execDoorbell, State.onPage_hosting hs hf,
      Dev.doorbell_none hpd hring]
    rfl
  · rw [show exec (.doorbell f w) s = execDoorbell f w s from rfl, execDoorbell, State.onPage_hosting hs hf,
      Dev.doorbell_ring hpd hring hreading, if_neg (Bool.eq_false_iff.mp hfence)]
    refine ⟨_, rfl, ?_, rfl, rfl⟩
    rw [Dev.askLine_ring, Dev.ring_set]
  · rw [show exec (.doorbellFence f k q) s = execDoorbellFence f k q s from rfl, execDoorbellFence, State.onPage_hosting hs hf,
      Dev.doorbell_ring hpd hring hreading, if_pos]
    · refine ⟨_, rfl, ?_, rfl, rfl⟩
      rw [show ∀ d : Dev, (d.emit (.fence f)).ring r = d.ring r from fun _ => rfl, Dev.askLine_ring, Dev.ring_set]
    · have hbit : (q % 2 ^ 12 + k % 2 ^ 3 * 2 ^ 12 + 2 ^ 15) / 2 ^ 15 % 2 = 1 := by omega
      rw [bitAt, Nat.shiftRight_eq_div_pow, hbit]
      rfl
  · exact State.onPage_hosting hs hf fun d => d.fnResetAsk f
  · exact State.onPage_hosting hs hf fun d => d.fnResetAsk f
  · rw [Dev.fnResetAsk, Dev.fnReset, if_pos (Dev.on_of_get hbusy), if_neg (by simp [hsession])]
  · subst hx hd
    have hrun : exec (.indexLineReadDone r v) s = .next { s with dev := s.dev.lineDone r (v % 2 ^ 32) } := by
      rw [show exec (.indexLineReadDone r v) s = execIndexLineReadDone r v s from rfl, execIndexLineReadDone,
        State.onRing_hosting hs hr]
    rw [hrun, Dev.lineDone_work _ hlate hline hreading hagain hruns hwork, Dev.tailRead, Dev.ringSize_setRing]
    refine ⟨fun hle => ?_, fun hgt hback => ?_, fun hgt hback => ?_⟩
    · rw [if_pos hle]
    · rw [if_neg (Nat.not_le.mpr hgt), if_pos hback]
    · rw [if_neg (Nat.not_le.mpr hgt), if_neg (Nat.not_le.mpr hback)]
  · subst hx
    have hrun : exec (.descriptorFetchDone r [w]) s =
        .next { s with dev := (s.dev.setRing r { s.dev.ring r with reads := l }).validate r [w] } := by
      rw [show exec (.descriptorFetchDone r [w]) s = execDescriptorFetchDone r [w] s from rfl, execDescriptorFetchDone,
        State.onRing_hosting hs hr, Dev.fetchDone_one hlate hfetch hreads]
    rw [hrun, Dev.validate_one, Dev.fetchIndex_reads, Dev.wantGen_setRing, Dev.belowTail_setRing, Dev.ring_set,
      Dev.setRing_setRing, Dev.setRing_setRing]
    refine ⟨fun hgen => ?_, fun y n hgen hbelow hy hn => ?_⟩
    · rw [if_pos hgen]
    · rw [if_neg hgen, if_neg (by simp [hbelow]), hy, hn, Dev.setRing_setRing]
  · subst hx
    have hrun : exec (.descriptorRetry r w) s = .next { s with dev := s.dev.fetchRetry r w } := by
      rw [show exec (.descriptorRetry r w) s = execDescriptorRetry r w s from rfl, execDescriptorRetry,
        State.onRing_hosting hs hr]
    rw [hrun, Dev.fetchRetry_asked hlate hretry hk]
    refine ⟨fun hgen => ?_, fun hgen hlt => ?_, fun hgen hle => ?_⟩
    · rw [if_pos hgen]
    · rw [if_neg hgen, if_pos (Nat.succ_lt_succ hlt)]
    · rw [if_neg hgen, if_neg (Nat.not_lt.mpr (Nat.succ_le_succ hle))]
  · subst hx
    rw [show exec (.hostReadFault r) s = execHostReadFault r s from rfl, execHostReadFault, State.onRing_hosting hs hr,
      Dev.readFault]
    simp only [hline, hfetch, hretry, Nat.lt_irrefl, hlate, Bool.false_eq_true, if_false]
  · subst hx
    rw [show exec (.indexLineReadDone r v) s = execIndexLineReadDone r v s from rfl, execIndexLineReadDone,
      State.onRing_hosting hs hr, Dev.lineDone, if_pos h]
    rfl
  · subst hx
    rw [show exec (.descriptorFetchDone r w) s = execDescriptorFetchDone r w s from rfl, execDescriptorFetchDone,
      State.onRing_hosting hs hr, Dev.fetchDone, if_pos h]
    rfl
  · subst hx
    rw [show exec (.descriptorRetry r v) s = execDescriptorRetry r v s from rfl, execDescriptorRetry,
      State.onRing_hosting hs hr, Dev.fetchRetry, if_pos h]
    rfl
  · rw [show exec (.txQueueService bufs) s = execTxQueueService bufs s from rfl, execTxQueueService, State.onHost_hosting hs,
      Dev.txService]
    simp only [hcur, hpick]
  · rw [show exec .hostTxHandoff s = execHostTxHandoff s from rfl, execHostTxHandoff, State.onHost_hosting hs, Dev.txHandoff]
    simp only [hstore]
    refine ⟨_, rfl, rfl, ?_, ?_⟩
    · rw [show ∀ (d : Dev) o F i, (d.emit o).get F i = d.get F i from fun _ _ _ _ => rfl, Dev.get_add_id _ _ _ _ (by decide),
        Dev.get_inc]
      rfl
    · cases x.stampReq <;> rfl
  · have hrun : exec (.hostRxFrame q x) s = .next { s with dev := s.dev.rxFrame q ⟨x.port, x.tag, ⟨x.sec, x.ns, x.frac⟩,
        x.tsValid, x.verdict, x.keep, x.lenMis, x.trailer, x.bytes⟩ } := by
      rw [show exec (.hostRxFrame q x) s = execHostRxFrame q x s from rfl, execHostRxFrame, State.onHost_hosting hs]
    rw [hrun, Dev.rxFrame, if_neg (Nat.not_lt.mpr hroom)]
    refine ⟨fun hown => ?_, fun f hown hstate hbusy hhold => ?_⟩
    · simp only [hown]
    · simp only [hown, hstate, Dev.not_on_of_get hbusy, if_neg (Nat.not_lt.mpr hhold)]
      refine ⟨_, rfl, rfl, ?_⟩
      rw [if_neg (by decide), if_neg (by decide), Dev.ring_set]
  · have hkind := ringKind_rx hq
    have hrun : exec (.hostRxDeliver q) s = .next { s with dev := s.dev.rxDeliver (ringRx q) } := by
      rw [show exec (.hostRxDeliver q) s = execHostRxDeliver q s from rfl, execHostRxDeliver, State.onHost_hosting hs, if_pos hq]
    rw [hrun]
    refine ⟨fun hbad => ?_, fun hshort => ?_, fun k d henough hd => ?_⟩
    · rw [Dev.rxDeliver_bad hserves hkind hrx hbad]
    · rw [show exec (.starveTimeout q) s = execStarveTimeout q s from rfl, execStarveTimeout, State.onHost_hosting hs, if_pos hq,
        Dev.starve, if_neg (by simp [hserves, hkind])]
      simp only [hrx, hshort, if_true]
    · rw [Dev.rxDeliver_enough hserves hkind hrx henough, ← hd]
      refine ⟨d.delivered (ringRx q) (s.dev.rxNeed (ringRx q) x) l k, rfl, Dev.delivered_rx _ _ _ _ _, rfl⟩
  · rw [show exec (.publishTimer r) s = execPublishTimer r s from rfl, execPublishTimer, State.onRing_hosting hs hr,
      Dev.pubTimer, if_pos (by simp [hserves, hunpub])]
  · rw [show exec (.recordPost r) s = execRecordPost r s from rfl, execRecordPost, State.onRing_hosting hs hr, Dev.recordPost,
      if_neg (by simp [hkind])]
    simp only [harrive, hkind]
    rfl
  · rw [show exec (.recordRingPoll r) s = execRecordRingPoll r s from rfl, execRecordRingPoll, State.onRing_hosting hs hr,
      Dev.ringPoll, if_pos (by simp [hwork, hserves, hfree, hreading]), Dev.lineAsk]
    simp only [hreading, Bool.false_eq_true, if_false]
end

section
/-!
SUPPORT. Sources, claims, ends of interrupt and routing cycles of the event controller. With these, O35.
-/
namespace Sys2Proof.Machine
open F

/-- What a source shows rests on the fields of its cause bits and the filtered sideband levels alone (R281). -/
def shownIds : List Nat := [EVC_SB_INT_0.LEVEL.id, EVC_SB_INT_1.LEVEL.id] ++ causeIds

theorem Dev.causes_of_keeps {S : List Nat} {d e : Dev} (h : Dev.keeps S d e) (hS : ∀ i ∈ shownIds, i ∉ S) (s : Nat) :
    e.causes s = d.causes s := by
  have hget : ∀ G j, G.id ∈ shownIds → e.get G j = d.get G j := fun G j hG => h G j (hS _ hG)
  have hflags : ∀ g ∈ srcFlags s, e.get g.fld g.idx = d.get g.fld g.idx := fun g hg =>
    hget _ _ (List.mem_append_right _ (by simpa using List.all_eq_true.mp (srcFlags_causes s) g hg))
  have hline : ∀ k, e.modInt k = d.modInt k := fun k => by
    rw [Dev.modInt, Dev.modInt, hget _ _ (by decide), hget _ _ (by decide)]
  have hfold : ∀ (l : List (FlagBit × Nat)) (n : Nat), (∀ p ∈ l, p.1 ∈ srcFlags s) →
      l.foldl (fun n p => if bitAt (e.get p.1.fld p.1.idx) p.1.bit then setBitAt n p.2 else n) n =
        l.foldl (fun n p => if bitAt (d.get p.1.fld p.1.idx) p.1.bit then setBitAt n p.2 else n) n := by
    intro l
    induction l with
    | nil => exact fun _ _ => rfl
    | cons p l ih =>
      intro n hl
      rw [List.foldl_cons, List.foldl_cons, hflags _ (hl p List.mem_cons_self),
        ih _ fun q hq => hl q (List.mem_cons_of_mem _ hq)]
  rw [Dev.causes, Dev.causes, hline, hfold _ _ fun p hp => List.fst_mem_of_mem_zipIdx hp]

/-- A source that fires is pending, counts one event more, and holds what its latch was given (R284). -/
theorem Dev.get_fire (d : Dev) (s x : Nat) (sw : Bool) :
    (d.fire s x sw).get EVC_SRC_STATUS.PENDING s = 1 ∧
    (d.fire s x sw).get EVC_SRC_STATUS.EVENTS s = min (d.get EVC_SRC_STATUS.EVENTS s + 1) (2 ^ EVC_SRC_STATUS.EVENTS.w - 1) ∧
    (d.fire s x sw).get EVC_SRC_STATUS.LATCH s = x % 2 ^ EVC_SRC_STATUS.LATCH.w ∧
    (sw = true → (d.fire s x sw).get X.EVC_SRC_SW s = 1) := by
  unfold Dev.fire
  extract_lets counted noted
  have hkeep : ∀ G, G.id ≠ X.EVC_SRC_SW.id → G.id ∉ vecIds → (noted.vecEvent (noted.get EVC_SRC_CFG.VECTOR s)).get G s =
    counted.get G s := by
    intro G hG hvec
    rw [Dev.vecEvent_keeps_vec _ _ _ _ hvec]
    cases sw
    · rfl
    · exact Dev.get_put_id _ _ _ _ (Ne.symm hG)
  refine ⟨?_, ?_, ?_, fun hsw => ?_⟩
  · rw [hkeep _ (by decide) (by decide)]
    simp (disch := decide) only [counted, Dev.get_inc_id, Dev.puts_cons, Dev.puts_nil, Dev.get_put_id, Dev.get_put]
    rfl
  · rw [hkeep _ (by decide) (by decide)]
    simp (disch := decide) only [counted, Dev.get_inc, Dev.puts_cons, Dev.puts_nil, Dev.get_put_id]
  · rw [hkeep _ (by decide) (by decide)]
    simp (disch := decide) only [counted, Dev.get_inc_id, Dev.puts_cons, Dev.puts_nil, Dev.get_put]
  · rw [Dev.vecEvent_keeps_vec _ _ _ _ (by decide)]
    simp only [noted, hsw, if_true, Dev.get_put]
    rfl

theorem srcLevel_of_kind {x : Nat} {k : SrcKind} (h : srcKind x = some k) : srcLevel x = true ↔ k ≠ .pulse := by
  cases k <;> simp [srcLevel, h]

/-- What EVC_PEND_SET leaves of the source (R286). -/
theorem Dev.get_pendSet {d : Dev} {x : Nat} {k : SrcKind} (hkind : srcKind x = some k) (hen : d.get EVC_SRC_CFG.ENABLE x = 1) :
    (d.pendSet x).get EVC_SRC_STATUS.PENDING x = 1 ∧ (k ≠ .pulse → (d.pendSet x).get X.EVC_SRC_SW x = 1) := by
  rw [Dev.pendSet, if_pos (by simp [hkind, Dev.on_of_get hen])]
  by_cases hlevel : srcLevel x = true
  · obtain ⟨hpending, -, -, hsw⟩ := Dev.get_fire d x (d.get EVC_SRC_STATUS.LATCH x ||| 0 ||| d.causes x) true
    rw [if_pos hlevel, Dev.event, if_pos (Dev.on_of_get hen), if_pos hlevel]
    exact ⟨hpending, fun _ => hsw rfl⟩
  · rw [if_neg hlevel]
    refine ⟨?_, fun hk => absurd ((srcLevel_of_kind hkind).mpr hk) hlevel⟩
    split
    · exact (Dev.get_fire d x _ false).1
    · exact (Dev.get_fire d x _ false).1

/-- The fields of a source that a claim or a clear puts back (R284, R289). -/
def srcIds : List Nat := [EVC_SRC_STATUS.PENDING.id, EVC_SRC_STATUS.EVENTS.id, EVC_SRC_STATUS.LATCH.id, X.EVC_SRC_SW.id,
    X.EVC_HALT.id]

theorem Dev.srcClear_keeps (d : Dev) (x : Nat) : Dev.keeps srcIds d (d.srcClear x) := Dev.keeps.clrs rfl (Dev.keeps.refl _ d)

theorem Dev.get_srcClear (d : Dev) (x : Nat) :
    (d.srcClear x).get EVC_SRC_STATUS.PENDING x = 0 ∧ (d.srcClear x).get EVC_SRC_STATUS.EVENTS x = 0 ∧
    (d.srcClear x).get EVC_SRC_STATUS.LATCH x = 0 := by
  have hreset : ∀ F : Fld, F.id ≠ FLT_REACT.R_NOTICE.id ∧ F.id ≠ FLT_REACT.R_DEGRADED.id ∧ F.id ≠ FLT_REACT.R_SERIOUS.id →
      F.rstAt x = F.rst := fun F ⟨h1, h2, h3⟩ => if_neg (by simp [h1, h2, h3])
  simp (disch := decide) only [Dev.srcClear, Dev.clrs_cons, Dev.clrs_nil, Dev.clr, Dev.get_put_id, Dev.get_put, hreset]
  exact ⟨rfl, rfl, rfl⟩

theorem Dev.latchShown_keeps_latch (d : Dev) (x : Nat) : Dev.keeps [EVC_SRC_STATUS.LATCH.id] d (d.latchShown x) :=
  Dev.keeps.ite (Dev.keeps.put (by decide) (Dev.keeps.refl _ d)) (Dev.keeps.refl _ d)

theorem Dev.latchShown_out (d : Dev) (x : Nat) : (d.latchShown x).out = d.out := by
  unfold Dev.latchShown
  split <;> rfl

/-- What a claim records of the source and its vector before the source is cleared (R289). -/
def Dev.claimTaken (d : Dev) (t v x : Nat) : Dev :=
  (d.puts t [(EVC_TGT_CLAIM_CAUSE.CAUSE, d.get EVC_SRC_STATUS.LATCH x), (EVC_TGT_CLAIM_CAUSE.EVENTS, d.get EVC_SRC_STATUS.EVENTS x),
    (EVC_TGT_CLAIM_CAUSE.SW, d.get X.EVC_SRC_SW x), (EVC_TGT_CLAIM_CAUSE.LIVE, flag (d.present x))]).puts v
    [(EVC_VEC_CAUSE.CAUSE, d.get EVC_SRC_STATUS.LATCH x), (EVC_VEC_CAUSE.EVENTS, d.get EVC_SRC_STATUS.EVENTS x),
      (EVC_VEC_CAUSE.SW, d.get X.EVC_SRC_SW x), (EVC_VEC_CAUSE.LIVE, flag (d.present x)), (EVC_VEC_STATUS.STATE, 4),
      (EVC_VEC_STATUS.SOURCE, x), (EVC_VEC_STATUS.COUNT, 0), (EVC_VEC_STATUS.VANISHED, 0), (X.EVC_CLAIM_PRIO, d.get X.EVC_PRIO v)]

theorem Dev.claim_pending {d : Dev} {t v x : Nat} (hv : d.claimVec t = some v)
    (hx : (d.keys EVC_SRC_STATUS.PENDING).find? (fun x => d.get EVC_SRC_CFG.VECTOR x == v) = some x) :
    d.claim t = (v + d.get X.EVC_PRIO v * 2 ^ 10 + 2 ^ 14 + x * 2 ^ 16,
      (((d.claimTaken t v x).srcClear x).latchShown x).inc EVC_V_CLAIMS.COUNT v) := by
  unfold Dev.claim
  simp only [hv, hx, Dev.claimTaken]

/-- The fields `claimTaken` may change. -/
def takenIds : List Nat := [EVC_TGT_CLAIM_CAUSE.CAUSE.id, EVC_TGT_CLAIM_CAUSE.EVENTS.id, EVC_TGT_CLAIM_CAUSE.SW.id,
  EVC_TGT_CLAIM_CAUSE.LIVE.id, EVC_VEC_CAUSE.CAUSE.id, EVC_VEC_CAUSE.EVENTS.id, EVC_VEC_CAUSE.SW.id, EVC_VEC_CAUSE.LIVE.id,
  EVC_VEC_STATUS.STATE.id, EVC_VEC_STATUS.SOURCE.id, EVC_VEC_STATUS.COUNT.id, EVC_VEC_STATUS.VANISHED.id, X.EVC_CLAIM_PRIO.id]

theorem Dev.claimTaken_keeps (d : Dev) (t v x : Nat) : Dev.keeps takenIds d (d.claimTaken t v x) :=
  Dev.keeps.puts rfl (Dev.keeps.puts rfl (Dev.keeps.refl _ d))

theorem Dev.claimTaken_out (d : Dev) (t v x : Nat) : (d.claimTaken t v x).out = d.out := rfl

theorem Dev.get_claimTaken (d : Dev) (t v x : Nat) :
    (d.claimTaken t v x).get EVC_VEC_STATUS.STATE v = 4 ∧ (d.claimTaken t v x).get EVC_VEC_STATUS.SOURCE v = x % 2 ^ 16 ∧
    (d.claimTaken t v x).get EVC_VEC_CAUSE.CAUSE v = d.get EVC_SRC_STATUS.LATCH x % 2 ^ EVC_VEC_CAUSE.CAUSE.w := by
  simp (disch := decide) only [Dev.claimTaken, Dev.puts_cons, Dev.puts_nil, Dev.get_put_id, Dev.get_put]
  exact ⟨rfl, rfl, trivial⟩

/-- The latch a claim leaves holds what the source still shows (R281, R289). -/
theorem Dev.get_latchShown {d : Dev} {x : Nat} (h : d.get EVC_SRC_STATUS.LATCH x = 0) :
    (d.latchShown x).get EVC_SRC_STATUS.LATCH x =
      if srcLevel x = true ∧ d.get EVC_SRC_CFG.ENABLE x = 1 then d.causes x % 2 ^ EVC_SRC_STATUS.LATCH.w else 0 := by
  by_cases hshown : srcLevel x = true ∧ d.get EVC_SRC_CFG.ENABLE x = 1
  · rw [if_pos hshown, Dev.latchShown, if_pos (by simp [hshown.1, Dev.on_of_get hshown.2]), Dev.get_put, h, Nat.zero_or]
  · rw [if_neg hshown, Dev.latchShown, if_neg, h]
    simpa [Dev.on] using hshown

/-- The event of a PULSE source (R284): a ring halt alone keeps its first detail. -/
theorem Dev.get_event_pulse {d : Dev} {x : Nat} (hen : d.get EVC_SRC_CFG.ENABLE x = 1) (hlevel : ¬ srcLevel x = true) (n : Nat) :
    (d.event x n).get EVC_SRC_STATUS.PENDING x = 1 ∧
    (d.event x n).get EVC_SRC_STATUS.EVENTS x = min (d.get EVC_SRC_STATUS.EVENTS x + 1) (2 ^ EVC_SRC_STATUS.EVENTS.w - 1) ∧
    ((x < 0xA000 ∨ 0xA200 ≤ x ∨ x % 8 ≠ 4) → (d.event x n).get EVC_SRC_STATUS.LATCH x = n % 2 ^ EVC_SRC_STATUS.LATCH.w) := by
  rw [Dev.event, if_pos (Dev.on_of_get hen), if_neg hlevel]
  by_cases hhalt : haltSrc x = true
  · rw [if_pos hhalt]
    obtain ⟨hpending, hevents, -, -⟩ := Dev.get_fire (d.put X.EVC_HALT x 1) x
      (if d.on X.EVC_HALT x then d.get EVC_SRC_STATUS.LATCH x else n) false
    refine ⟨hpending, ?_, fun h => ?_⟩
    · rw [hevents, Dev.get_put_id _ _ _ _ (by decide)]
    · simp only [haltSrc, decide_eq_true_eq] at hhalt
      omega
  · rw [if_neg hhalt]
    obtain ⟨hpending, hevents, hlatch, -⟩ := Dev.get_fire d x n false
    exact ⟨hpending, hevents, fun _ => hlatch⟩

theorem Dev.faults_nil (d : Dev) : d.faults [] = d := rfl

end Sys2Proof.Machine

open Sys2Proof Sys2Proof.Machine Sys2Proof.Machine.F in
/-- Settles O35: each event is one branch of its definition; what a claim leaves is read off its writes. -/
theorem eventControllerEventsRun : Obligations.EventControllerEventsRun := by
  intro s hc
  refine ⟨fun x k hx hkind => ⟨fun hen => ?_, fun hen => ?_, fun hpresent hstate => ?_⟩, fun t ht hclaim => ?_,
    fun t v x ht hv hclaim hfind => ?_, fun t v idle ht hv hbad => ?_, fun t v idle ht hv hstate htarget hen hprio => ?_,
    fun v b hv => ?_, fun hvalid hheld => ?_, fun x n hkind hx hpower hen => ?_, fun v hstate => ?_, fun x n hoff => ?_,
    fun v d b hready hroute => ?_, fun v d hready hroute => ?_⟩
  · rw [show exec (.evcPendSet x) s = execEvcPendSet x s from rfl, execEvcPendSet, State.onDev_clocked hc, Nat.mod_eq_of_lt hx]
    obtain ⟨hpending, hsw⟩ := Dev.get_pendSet hkind hen
    exact ⟨_, rfl, hpending, hsw⟩
  · rw [show exec (.evcPendSet x) s = execEvcPendSet x s from rfl, execEvcPendSet, State.onDev_clocked hc, Nat.mod_eq_of_lt hx,
      Dev.pendSet, if_neg (by simp [Dev.not_on_of_get hen])]
  · rw [show exec (.evcPendClr x) s = execEvcPendClr x s from rfl, execEvcPendClr, State.onDev_clocked hc, Nat.mod_eq_of_lt hx,
      Dev.pendClr, if_neg (by simp [hpresent]), if_pos (.inl hstate)]
    exact ⟨_, rfl, Dev.get_srcClear _ _⟩
  · rw [show exec (.evcTgtClaim t) s = execEvcTgtClaim t s from rfl, execEvcTgtClaim, State.onDev_clocked hc, if_pos ht,
      Dev.claim, hclaim]
  · rw [show exec (.evcTgtClaim t) s = execEvcTgtClaim t s from rfl, execEvcTgtClaim, State.onDev_clocked hc, if_pos ht,
      Dev.claim_pending hclaim hfind]
    have hkeep : ∀ G j, G.id ∉ srcIds → (((s.dev.claimTaken t v x).srcClear x).latchShown x).get G j =
        (s.dev.claimTaken t v x).get G j := fun G j hG => by
      rw [Dev.latchShown_keeps_latch _ _ _ _ fun h => hG (by simp [srcIds, List.mem_singleton.mp h]), Dev.srcClear_keeps _ _ _ _ hG]
    obtain ⟨hstate, hsource, hcause⟩ := Dev.get_claimTaken s.dev t v x
    obtain ⟨hpending, -, hlatch⟩ := Dev.get_srcClear (s.dev.claimTaken t v x) x
    have hcount : ∀ G j, EVC_V_CLAIMS.COUNT.id ≠ G.id →
        ((((s.dev.claimTaken t v x).srcClear x).latchShown x).inc EVC_V_CLAIMS.COUNT v).get G j =
          (((s.dev.claimTaken t v x).srcClear x).latchShown x).get G j := fun G j hG => Dev.get_inc_id _ _ _ hG
    have htaken := Dev.claimTaken_keeps s.dev t v x
    have hcauses : ((s.dev.claimTaken t v x).srcClear x).causes x = s.dev.causes x :=
      (Dev.causes_of_keeps (Dev.srcClear_keeps _ x) (by decide) x).trans (Dev.causes_of_keeps htaken (by decide) x)
    refine ⟨_, rfl, ?_, ?_, ?_, ?_, ?_, ?_⟩
    · exact ((hcount _ _ (by decide)).trans (hkeep _ _ (by decide))).trans hstate
    · exact ((hcount _ _ (by decide)).trans (hkeep _ _ (by decide))).trans hsource
    · exact ((hcount _ _ (by decide)).trans (Dev.latchShown_keeps_latch _ _ _ _ (by decide))).trans hpending
    · refine (hcount _ _ (by decide)).trans ((Dev.get_latchShown hlatch).trans ?_)
      rw [Dev.srcClear_keeps _ _ _ _ (by decide), htaken _ _ (by decide), hcauses]
    · exact ((hcount _ _ (by decide)).trans (hkeep _ _ (by decide))).trans hcause
    · exact congrArg _ (Dev.latchShown_out _ _)
  · rw [show exec (.evcTgtEoi t v idle) s = execEvcTgtEoi t v idle s from rfl, execEvcTgtEoi, State.onDev_clocked hc, if_pos ht,
      Nat.mod_eq_of_lt hv, Dev.eoi, if_neg]
    rintro ⟨h1, h2, -⟩
    exact hbad.elim (fun h => h h1) fun h => h h2
  · rw [show exec (.evcTgtEoi t v idle) s = execEvcTgtEoi t v idle s from rfl, execEvcTgtEoi, State.onDev_clocked hc, if_pos ht,
      Nat.mod_eq_of_lt hv, Dev.eoi, if_pos ⟨hstate, htarget, Dev.on_of_get hen⟩, if_neg (Nat.not_lt.mpr hprio)]
  · rw [show exec (.evcVecMask v b) s = execEvcVecMask v b s from rfl, execEvcVecMask, State.onDev_clocked hc, if_pos hv]
    rfl
  · rw [show exec .ackedWrite s = execAckedWrite s from rfl, execAckedWrite, State.onDev_clocked hc, Dev.ackRecord]
    dsimp only
    rw [if_pos (Dev.on_of_get hvalid), if_neg]
    rw [Dev.not_on_of_get ((Dev.get_put_id _ _ _ _ (by decide)).trans hheld)]
    decide
  · rw [show exec (.sourceEvent x n) s = execSourceEvent x n s from rfl, execSourceEvent, State.onDev_clocked hc,
      Dev.sourceEvent, if_neg (by simp [hpower, hx]), hkind]
    have hlevel : ¬ srcLevel x = true := fun h => (srcLevel_of_kind hkind).mp h rfl
    exact ⟨_, rfl, Dev.get_event_pulse hen hlevel n⟩
  · rw [show exec (.coalTimerExpiry v) s = execCoalTimerExpiry v s from rfl, execCoalTimerExpiry, State.onDev_clocked hc,
      if_pos hstate]
    refine ⟨_, rfl, ?_, ?_⟩ <;>
      simp (disch := decide) only [Dev.puts_cons, Dev.puts_nil, Dev.get_put_id, Dev.get_put] <;> rfl
  · rw [show exec (.sourceEvent x n) s = execSourceEvent x n s from rfl, execSourceEvent, State.onDev_clocked hc,
      Dev.sourceEvent, if_pos (by simpa using hoff)]
  · rw [show exec .routeCommit s = execRouteCommit s from rfl, execRouteCommit, State.onDev_clocked hc, Dev.routeCycle, hready,
      Dev.routeList, hroute]
    cases b <;> rfl
  · rw [show exec .routeCommit s = execRouteCommit s from rfl, execRouteCommit, State.onDev_clocked hc, Dev.routeCycle, hready,
      Dev.routeList, hroute]
    rfl
end

section
/-!
SUPPORT. Accesses of the window, direct writes of power-domain requests and mailbox GO. With these, O36.
-/
namespace Sys2Proof.Machine
open F

/-- What an access error counts and latches (R385). -/
theorem Dev.get_accessError (d : Dev) (m : Bool) {o : Nat} (n : Nat) (w : Bool) (ho : o < 0x4000000) :
    (d.accessError m o n w).get CPX_BAD_ACCESS.COUNT 0 =
      min (d.get CPX_BAD_ACCESS.COUNT 0 + 1) (2 ^ CPX_BAD_ACCESS.COUNT.w - 1) ∧
    (d.get CPX_ACCESS_ERR.VALID 0 = 0 → (d.accessError m o n w).get CPX_ACCESS_ERR.VALID 0 = 1 ∧
      (d.accessError m o n w).get CPX_ACCESS_ERR.OFFSET 0 = o ∧
      (d.accessError m o n w).get CPX_ACCESS_ERR.WRITE 0 = (if w then 1 else 0) ∧
      (badShape o n = true → (d.accessError m o n w).get CPX_ACCESS_ERR.CAUSE 0 = 0)) ∧
    (d.get CPX_ACCESS_ERR.VALID 0 = 1 → (d.accessError m o n w).get CPX_ACCESS_ERR.MORE 0 = 1 ∧
      (d.accessError m o n w).get CPX_ACCESS_ERR.OFFSET 0 = d.get CPX_ACCESS_ERR.OFFSET 0) := by
  have hvalid : (d.inc CPX_BAD_ACCESS.COUNT 0).get CPX_ACCESS_ERR.VALID 0 = d.get CPX_ACCESS_ERR.VALID 0 :=
    Dev.get_inc_id _ _ _ (by decide)
  rw [Dev.accessError]
  refine ⟨?_, fun h => ?_, fun h => ?_⟩
  · split
    · rw [Dev.get_put_id _ _ _ _ (by decide), Dev.get_inc]
    · rw [Dev.get_puts_id _ _ _ _ (by simp; decide), Dev.get_inc]
  · rw [if_neg (by simp [Dev.not_on_of_get (hvalid.trans h)])]
    simp (disch := decide) only [Dev.puts_cons, Dev.puts_nil, Dev.get_put_id, Dev.get_put]
    refine ⟨rfl, Nat.mod_eq_of_lt ho, ?_, fun hbad => ?_⟩
    · cases w <;> rfl
    · rw [hbad]
      rfl
  · rw [if_pos (Dev.on_of_get (hvalid.trans h)), Dev.get_put, Dev.get_put_id _ _ _ _ (by decide),
      Dev.get_inc_id _ _ _ (by decide)]
    exact ⟨rfl, rfl⟩

/-- A direct write that changes the power-domain requests: ignored and logged outside the modes that honour it, and carried
out bit by bit in IMAGE_LOAD (R9, R384). -/
theorem pdFields (d : Dev) {v : Nat} (h : v ≠ d.get CPX_PD_CTL.REQ 0) :
    ([⟨CPX_PD_CTL.REQ, 0, v⟩] : List FldWrite).filter
      (fun w => w.fld.cfg && !fldFixed w.fld w.i && w.v != d.get w.fld w.i) = [⟨CPX_PD_CTL.REQ, 0, v⟩] := by
  have hfixed : (CPX_PD_CTL.REQ.cfg && !fldFixed CPX_PD_CTL.REQ 0) = true := by decide +kernel
  refine List.filter_eq_self.mpr fun w hw => ?_
  rw [List.mem_singleton.mp hw]
  simp only [hfixed, Bool.true_and, bne_iff_ne, ne_eq]
  exact h

theorem Dev.cfgWrites_ignored {c : Ctl} {d : Dev} {v : Nat} (h : v ≠ d.get CPX_PD_CTL.REQ 0) (hlive : c.live = true)
    (hno : c.honours = false) : d.cfgWrites c 0x110 [⟨CPX_PD_CTL.REQ, 0, v⟩] = d.cfgIgnored 0x110 := by
  rw [Dev.cfgWrites, pdFields d h]
  exact (if_neg Bool.false_ne_true).trans ((if_pos (by simp [hno])).trans (if_pos hlive))

theorem Dev.cfgWrites_loading {c : Ctl} {d : Dev} {v : Nat} (h : v ≠ d.get CPX_PD_CTL.REQ 0) (hload : c.state = .imageLoad) :
    d.cfgWrites c 0x110 [⟨CPX_PD_CTL.REQ, 0, v⟩] =
      if (d.pdWrite v).2 then (d.pdWrite v).1.cfgIgnored 0x110 else (d.pdWrite v).1 := by
  have hhon : c.honours = true := by simp [Ctl.honours, hload]
  have hpd : ([⟨CPX_PD_CTL.REQ, 0, v⟩] : List FldWrite).filter (fun w => w.fld.id == CPX_PD_CTL.REQ.id) =
      [⟨CPX_PD_CTL.REQ, 0, v⟩] := rfl
  have hrest : ([⟨CPX_PD_CTL.REQ, 0, v⟩] : List FldWrite).filter (fun w => w.fld.id != CPX_PD_CTL.REQ.id) = [] := rfl
  rw [Dev.cfgWrites, pdFields d h]
  simp only [hpd, hrest, hhon, hload, List.isEmpty_cons, List.isEmpty_nil, List.filter_nil, List.foldl_nil, List.length_nil,
    Bool.not_true, Bool.false_eq_true, if_false, if_true, Nat.lt_irrefl, or_false, reduceCtorEq, false_and]

/-- A mailbox GO by the state the mailbox is in (R313). -/
theorem State.mboxGo_taken {s : State} (h : s.dev.get CMP_MBOX_STATUS.STATE 0 = 0 ∨ s.dev.get CMP_MBOX_STATUS.STATE 0 = 3) :
    s.mboxGo = { s with
      dev := s.dev.puts 0 [(CMP_MBOX_STATUS.STATE, if s.ctl.state = .powered then 1 else 2), (CMP_MBOX_STATUS.REPLY_LEN, 0)]
      mem := { s.mem with mboxReply := [] } } := by
  rw [State.mboxGo]
  rcases h with h | h <;> rw [h] <;> rfl

theorem State.mboxGo_ignored {s : State} (h : s.dev.get CMP_MBOX_STATUS.STATE 0 = 1 ∨ s.dev.get CMP_MBOX_STATUS.STATE 0 = 2) :
    s.mboxGo = { s with dev := s.dev.put CMP_MBOX_STATUS.GO_IGNORED 0 1 } := by
  rw [State.mboxGo]
  rcases h with h | h <;> rw [h] <;> rfl

end Sys2Proof.Machine

open Sys2Proof Sys2Proof.Machine Sys2Proof.Machine.F in
/-- Settles O36: each access is one branch of its definition. -/
theorem registerAccessesRun : Obligations.RegisterAccessesRun := by
  intro s ha
  have hclocked : s.ctl.live = true → s.clocked = true := fun hl => by rw [State.clocked, ha, hl]; rfl
  refine ⟨fun a o n x ho hshape hbell => ⟨fun hserved => ?_, fun hserved => ?_⟩,
    fun a o n ho hshape => ⟨fun hserved => ?_, fun hserved => ?_⟩, fun a o n w ho hbad hside hlive => ?_,
    fun v hlive hv => ⟨fun hno => ?_, fun hload => ?_⟩, fun len hserved hstate => ?_, fun len hserved hstate => ?_⟩
  · rw [show exec (.registerWrite a o n x) s = execRegisterWrite a o n x s from rfl, execRegisterWrite, State.aclk_awake ha,
      if_pos ho, State.write, if_neg (by simp [hshape, hbell]), if_pos hserved]
  · rw [show exec (.registerWrite a o n x) s = execRegisterWrite a o n x s from rfl, execRegisterWrite, State.aclk_awake ha,
      if_pos ho, State.write, if_neg (by simp [hshape, hbell]), if_neg (by simp [hserved])]
  · rw [show exec (.rcRead a o n) s = execRcRead a o n s from rfl, execRcRead, State.aclk_awake ha, if_pos ho, State.read]
    simp only [hshape, hserved, Bool.false_eq_true, false_and, if_false, Bool.not_false, and_self, if_true]
  · rw [show exec (.rcRead a o n) s = execRcRead a o n s from rfl, execRcRead, State.aclk_awake ha, if_pos ho, State.read]
    simp only [hshape, hserved, Bool.false_eq_true, false_and, and_false, if_false]
  · have hdetects : s.detects a = true := by simp [State.detects, hside, hlive]
    have hfacts := Dev.get_accessError s.dev (isMgmt a) n w ho
    obtain ⟨hcount, hfirst, hmore⟩ := hfacts
    rw [show exec (.accessError a o n w) s = execAccessError a o n w s from rfl, execAccessError, State.aclk_awake ha,
      if_pos ⟨ho, by simp [hbad]⟩, if_pos hdetects]
    cases w
    · refine ⟨_, rfl, hcount, fun h => ?_, hmore⟩
      obtain ⟨h1, h2, h3, h4⟩ := hfirst h
      exact ⟨h1, h2, h3, h4 hbad⟩
    · refine ⟨_, rfl, hcount, fun h => ?_, hmore⟩
      obtain ⟨h1, h2, h3, h4⟩ := hfirst h
      exact ⟨h1, h2, h3, h4 hbad⟩
  · rw [show exec (.cpxPdCtlWrite v) s = execCpxPdCtlWrite v s from rfl, execCpxPdCtlWrite, State.onDev_clocked (hclocked hlive),
      Dev.cfgWrites_ignored hv hlive hno]
  · rw [show exec (.cpxPdCtlWrite v) s = execCpxPdCtlWrite v s from rfl, execCpxPdCtlWrite, State.onDev_clocked (hclocked hlive),
      Dev.cfgWrites_loading hv hload]
  · rw [show exec (.mboxGo len) s = execMboxGo len s from rfl, execMboxGo, State.aclk_awake ha, if_pos hserved,
      State.mboxGo_taken (by simpa (disch := decide) only [Dev.get_put_id] using hstate)]
    refine ⟨_, rfl, ?_, ?_, ?_, rfl, rfl⟩
    · simp (disch := decide) only [Dev.puts_cons, Dev.puts_nil, Dev.get_put_id, Dev.get_put]
    · simp (disch := decide) only [Dev.puts_cons, Dev.puts_nil, Dev.get_put_id, Dev.get_put]
      split <;> rfl
    · simp (disch := decide) only [Dev.puts_cons, Dev.puts_nil, Dev.get_put]
      rfl
  · rw [show exec (.mboxGo len) s = execMboxGo len s from rfl, execMboxGo, State.aclk_awake ha, if_pos hserved,
      State.mboxGo_ignored (by simpa (disch := decide) only [Dev.get_put_id] using hstate)]
    refine ⟨_, rfl, ?_, rfl, ?_⟩
    · rw [Dev.get_put]
      rfl
    · simp (disch := decide) only [Dev.get_put_id]
end

section
/-!
SUPPORT. Reactions, SAFE, lock-up, capture and release. With these, O37.
-/
namespace Sys2Proof.Machine
open F

/-- A fold of steps that leave a part of the device as it is leaves it too. -/
theorem Dev.foldl_same {α β : Type} (part : Dev → β) {g : Dev → α → Dev} (hg : ∀ d a, part (g d a) = part d) (l : List α)
    (d : Dev) : part (l.foldl g d) = part d := by
  induction l generalizing d with
  | nil => rfl
  | cons a l ih => exact (ih _).trans (hg d a)

/-- The lanes of every port fall idle: something seen, nothing changed. -/
theorem Dev.get_idled (d : Dev) (l : List Nat) (G : Fld) (j : Nat) :
    (d.each l fun d p => d.emit (.lanes p .idle)).get G j = d.get G j :=
  Dev.foldl_same (part := fun d => d.get G j) (g := fun d p => d.emit (.lanes p .idle)) (fun _ _ => rfl) l d

theorem Dev.idled_desk (d : Dev) (l : List Nat) : (d.each l fun d p => d.emit (.lanes p .idle)).desk = d.desk :=
  Dev.foldl_same (part := Dev.desk) (g := fun d p => d.emit (.lanes p .idle)) (fun _ _ => rfl) l d

theorem Dev.stateEvent_desk (d : Dev) (x m : Nat) : (d.stateEvent x m).desk = d.desk :=
  show (d.stateEvent x m).sansFields.desk = d.sansFields.desk from
    congrArg (β := Desk) Dev.desk (Dev.event_sansFields d srcState (x + m * 16) false)

/-- A state event changes no field but those of the event controller. -/
theorem Dev.get_stateEvent (d : Dev) (x m : Nat) (G : Fld) (j : Nat) (h : G.id ∉ eventIds) :
    (d.stateEvent x m).get G j = d.get G j := Dev.event_keeps d srcState (x + m * 16) false G j h

theorem Dev.seen_desk (d : Dev) (x b : Nat) : (d.seen x b).desk = d.desk :=
  show (d.seen x b).sansFields.desk = d.sansFields.desk from congrArg (β := Desk) Dev.desk (Dev.seen_sansFields d x b)

theorem Dev.get_withDesk (d : Dev) (k : Desk) (G : Fld) (j : Nat) : ({ d with desk := k } : Dev).get G j = d.get G j := rfl

theorem Dev.get_quietLoad (d : Dev) (G : Fld) (h : G.id ≠ FLT_STATUS.QUIET_LEFT_MS.id) : d.quietLoad.get G 0 = d.get G 0 := by
  rw [Dev.quietLoad, Dev.get_withDesk, Dev.get_put_id _ _ _ _ (Ne.symm h)]

/-- The last steps of SAFE entry, after its status: the quiet timer, the fault desk's event, the count and the state event
(Table 123 step 4). -/
def Dev.safeEntered (d : Dev) : Dev := ((d.quietLoad.seen srcDesk 2).inc FLT_SAFE_ENTRIES.COUNT 0).stateEvent 4 7

theorem Dev.safeEntered_keeps (d : Dev) (G : Fld)
    (hids : G.id ∉ FLT_STATUS.QUIET_LEFT_MS.id :: FLT_SAFE_ENTRIES.COUNT.id :: eventIds)
    (hseen : G.id ∉ seenIds) : d.safeEntered.get G 0 = d.get G 0 := by
  simp only [List.mem_cons, not_or] at hids
  obtain ⟨hquiet, hcount, hevent⟩ := hids
  rw [Dev.safeEntered, Dev.get_stateEvent _ _ _ _ _ hevent, Dev.get_inc_id _ _ _ (Ne.symm hcount),
    Dev.seen_keeps _ _ _ _ _ hseen, Dev.get_quietLoad _ _ hquiet]

/-- SAFE_ENTRY, by its parts. -/
theorem execSafeEntry_entering {s : State} (hc : s.clocked = true) (hentering : s.dev.get FLT_STATUS.ENTERING 0 = 1)
    (hst : s.ctl.state = .ready ∨ s.ctl.state = .running) : execSafeEntry s = .next { s.modeAbandon with
      ctl := { s.modeAbandon.ctl with state := .safe }
      dev := ((s.modeAbandon.dev.safeApply s.modeAbandon.cx s.modeAbandon.ctl.mode).puts 0
        [(FLT_STATUS.ENTERING, 0), (FLT_STATUS.SAFE, 1)]).safeEntered } := by
  rw [execSafeEntry, State.core_clocked hc, if_pos ⟨Dev.on_of_get hentering, hst⟩]
  rfl

/-- The device SAFE_EXIT leaves before its state event (R349). -/
def Dev.safeLeft (d : Dev) : Dev :=
  let d := d.safeReturn.puts 0 [(FLT_STATUS.SAFE, 0), (FLT_STATUS.QUIET_LEFT_MS, 0)]
  let d := (d.seen srcDesk 3).inc FLT_RECOVERIES.COUNT 0
  { d with desk := { d.desk with exits := (d.tim.ticks :: d.desk.exits).take 15 } }

theorem Dev.get_safeLeft (d : Dev) : d.safeLeft.get FLT_STATUS.SAFE 0 = 0 ∧ d.safeLeft.get FLT_STATUS.QUIET_LEFT_MS 0 = 0 := by
  have hkeep : ∀ G : Fld, G.id ∉ seenIds → G.id ≠ FLT_RECOVERIES.COUNT.id → d.safeLeft.get G 0 =
      (d.safeReturn.puts 0 [(FLT_STATUS.SAFE, 0), (FLT_STATUS.QUIET_LEFT_MS, 0)]).get G 0 := by
    intro G hseen hcount
    rw [Dev.safeLeft, Dev.get_withDesk, Dev.get_inc_id _ _ _ (Ne.symm hcount), Dev.seen_keeps _ _ _ _ _ hseen]
  constructor
  · rw [hkeep _ (by decide) (by decide)]
    simp (disch := decide) only [Dev.puts_cons, Dev.puts_nil, Dev.get_put_id, Dev.get_put]
    exact Nat.zero_mod _
  · rw [hkeep _ (by decide) (by decide)]
    simp (disch := decide) only [Dev.puts_cons, Dev.puts_nil, Dev.get_put]
    exact Nat.zero_mod _

theorem Dev.safeLeft_exits (d : Dev) : d.safeLeft.desk.exits.length ≤ 15 := List.length_take_le _ _

/-- The device SAFE_EXIT leaves, its state event sent. -/
def Dev.safeExited (d : Dev) : Option Mode → Dev
  | some m => d.safeLeft.stateEvent 3 m.code
  | none => d.safeLeft.stateEvent 2 15

/-- SAFE_EXIT with no cap holding it, by its parts. -/
theorem execSafeExit_returns {s : State} (hc : s.clocked = true) (hst : s.ctl.state = .safe)
    (hheld : s.dev.get FLT_STATUS.HELD 0 = 0) (hcap : s.dev.capHolds = false) : execSafeExit s = .next { s with
      ctl := { s.ctl with state := if s.ctl.mode.isSome then .running else .ready }
      dev := s.dev.safeExited s.ctl.mode } := by
  rw [execSafeExit, State.core_clocked hc, if_pos ⟨hst, by simp [Dev.not_on_of_get hheld]⟩, if_neg (by simp [hcap])]
  cases s.ctl.mode <;> rfl

theorem Dev.safeExited_sends (d : Dev) (mode : Option Mode) : ∃ x m, d.safeExited mode = d.safeLeft.stateEvent x m := by
  cases mode with
  | none => exact ⟨2, 15, rfl⟩
  | some m => exact ⟨3, m.code, rfl⟩

/-- What an accepted lock-up trigger leaves of the complex before its lanes fall idle (Table 125 steps 1 to 6). -/
def Dev.lockedUp (d : Dev) : Dev :=
  let d := ({ d with desk := { d.desk with trigs := [] } } : Dev)
  let d := (d.put LCK_STATUS.LOCKED 0 1).inc LCK_STATUS.LOCKUPS 0
  if !d.on LCK_CFG.CAPTURE_EN 0 then d
  else if d.on LCK_CFG.KEEP_FIRST 0 && d.on LCK_STATUS.VALID 0 then d.put LCK_STATUS.DISCARD_SEEN 0 1
  else d.put LCK_STATUS.CAPTURING 0 1

theorem execLockupEntry_trig {s : State} {c : Nat} {l : List Nat} (ha : s.awake = true) (htrigs : s.dev.desk.trigs = c :: l)
    (hst : s.ctl.state ≠ .locked) :
    execLockupEntry s = .next { s with
      ctl := { s.ctl with lockFrom := some (s.ctl.state.code, s.ctl.modeCode, c), state := .locked }
      dev := s.dev.lockedUp.each s.dev.lockedUp.lanePorts fun d p => d.emit (.lanes p .idle) } := by
  rw [execLockupEntry, State.aclk_awake ha]
  simp only [htrigs, hst, if_false, Dev.lockedUp]

/-- The status a lock-up leaves (R351 to R353). -/
theorem Dev.get_lockedUp (d : Dev) :
    d.lockedUp.get LCK_STATUS.LOCKED 0 = 1 ∧
    d.lockedUp.get LCK_STATUS.LOCKUPS 0 = min (d.get LCK_STATUS.LOCKUPS 0 + 1) (2 ^ LCK_STATUS.LOCKUPS.w - 1) ∧
    (d.get LCK_CFG.CAPTURE_EN 0 = 1 → d.get LCK_CFG.KEEP_FIRST 0 = 0 → d.lockedUp.get LCK_STATUS.CAPTURING 0 = 1) ∧
    (d.get LCK_CFG.CAPTURE_EN 0 = 1 → d.get LCK_CFG.KEEP_FIRST 0 = 1 → d.get LCK_STATUS.VALID 0 = 1 →
      d.lockedUp.get LCK_STATUS.DISCARD_SEEN 0 = 1 ∧
      d.lockedUp.get LCK_STATUS.CAPTURING 0 = d.get LCK_STATUS.CAPTURING 0) := by
  unfold Dev.lockedUp
  extract_lets asked m n
  have hn : ∀ F : Fld, F.id ≠ LCK_STATUS.LOCKED.id → F.id ≠ LCK_STATUS.LOCKUPS.id → n.get F 0 = d.get F 0 := fun F h1 h2 =>
    (Dev.get_inc_id _ _ _ (Ne.symm h2)).trans (Dev.get_put_id _ _ _ _ (Ne.symm h1))
  have hkeep : ∀ F : Fld, F.id ≠ LCK_STATUS.DISCARD_SEEN.id → F.id ≠ LCK_STATUS.CAPTURING.id →
      (if (!n.on LCK_CFG.CAPTURE_EN 0) = true then n
        else if (n.on LCK_CFG.KEEP_FIRST 0 && n.on LCK_STATUS.VALID 0) = true then n.put LCK_STATUS.DISCARD_SEEN 0 1
        else n.put LCK_STATUS.CAPTURING 0 1).get F 0 = n.get F 0 := by
    intro F h1 h2
    split
    · rfl
    · split
      · exact Dev.get_put_id _ _ _ _ (Ne.symm h1)
      · exact Dev.get_put_id _ _ _ _ (Ne.symm h2)
  refine ⟨?_, ?_, fun hcap hfirst => ?_, fun hcap hfirst hvalid => ?_⟩
  · rw [hkeep _ (by decide) (by decide)]
    simp (disch := decide) only [n, Dev.get_inc_id, Dev.get_put]
    rfl
  · rw [hkeep _ (by decide) (by decide)]
    simp (disch := decide) only [n, Dev.get_inc, Dev.get_put_id]
    rfl
  · rw [if_neg (by simp [Dev.on_of_get ((hn _ (by decide) (by decide)).trans hcap)]),
      if_neg (by simp [Dev.not_on_of_get ((hn _ (by decide) (by decide)).trans hfirst)]), Dev.get_put]
    rfl
  · rw [if_neg (by simp [Dev.on_of_get ((hn _ (by decide) (by decide)).trans hcap)]),
      if_pos (by simp [Dev.on_of_get ((hn _ (by decide) (by decide)).trans hfirst),
        Dev.on_of_get ((hn _ (by decide) (by decide)).trans hvalid)]), Dev.get_put, Dev.get_put_id _ _ _ _ (by decide),
      hn _ (by decide) (by decide)]
    exact ⟨rfl, rfl⟩

theorem Dev.lockedUp_trigs (d : Dev) : d.lockedUp.desk.trigs = [] := by
  unfold Dev.lockedUp
  dsimp only
  split
  · rfl
  · split <;> rfl

/-- A trigger by its enable (Table 124). -/
theorem State.trigger_enabled {s : State} {en : Fld} (c : Nat) (hst : s.ctl.state ≠ .locked) (hen : s.dev.get en 0 = 1) :
    s.trigger en c = { s with dev := s.dev.askLockup c } := if_pos ⟨hst, Dev.on_of_get hen⟩

theorem State.trigger_not {s : State} {en : Fld} (c : Nat) (h : s.ctl.state = .locked ∨ s.dev.get en 0 = 0) :
    s.trigger en c = s := by
  refine if_neg ?_
  rintro ⟨hst, hen⟩
  rcases h with h | h
  · exact hst h
  · rw [Dev.not_on_of_get h] at hen
    cases hen

end Sys2Proof.Machine

open Sys2Proof Sys2Proof.Machine Sys2Proof.Machine.F in
/-- Settles O37: each event is one branch of its definition. -/
theorem deskAndLockupEventsRun : Obligations.DeskAndLockupEventsRun := by
  intro s
  refine ⟨fun r l hc hreacts => ?_, fun hc hentering hst => ?_, fun hc hst hheld hcap => ?_, fun hc hst hheld hcap => ?_,
    fun c l ha htrigs hst => ?_, fun a b c ha hst hcap hfrom => ?_, fun ha hst hcap hauto => ?_,
    fun ha hst hrel hcap hpin => ?_, fun d ha hst hen hd => ?_, fun ha h => ?_, fun d ha hst hen hd => ?_, fun ha h => ?_,
    fun ha hst => ?_, fun ha hst => ?_, fun ha hst => ?_, fun ha hst => ?_, fun ha => ?_, fun ha => ?_, fun a ha hcap => ?_,
    fun ha hcap => ?_⟩
  · rw [show exec .faultReaction s = execFaultReaction s from rfl, execFaultReaction, State.onDev_clocked hc]
    simp only [hreacts]
  · rw [show exec .safeEntry s = execSafeEntry s from rfl, execSafeEntry_entering hc hentering hst]
    have hctl := (State.modeAbandon_only s).ctl
    refine ⟨_, rfl, rfl, (congrArg Ctl.mode hctl :), (congrArg Ctl.switching hctl :), ?_, ?_⟩
    · rw [Dev.safeEntered_keeps _ _ (by decide) (by decide)]
      simp (disch := decide) only [Dev.puts_cons, Dev.puts_nil, Dev.get_put]
      rfl
    · rw [Dev.safeEntered_keeps _ _ (by decide) (by decide)]
      simp (disch := decide) only [Dev.puts_cons, Dev.puts_nil, Dev.get_put, Dev.get_put_id]
      rfl
  · rw [show exec .safeExit s = execSafeExit s from rfl, execSafeExit, State.core_clocked hc,
      if_pos ⟨hst, by simp [Dev.not_on_of_get hheld]⟩, if_pos hcap]
    refine ⟨_, rfl, ?_, ?_, ?_⟩
    · rw [Dev.get_inc_id _ _ _ (by decide), Dev.seen_keeps _ _ _ _ _ (by decide)]
      simp (disch := decide) only [Dev.puts_cons, Dev.puts_nil, Dev.get_put_id, Dev.get_put]
      rfl
    · rw [Dev.get_inc_id _ _ _ (by decide), Dev.seen_keeps _ _ _ _ _ (by decide)]
      simp (disch := decide) only [Dev.puts_cons, Dev.puts_nil, Dev.get_put]
      rfl
    · rw [Dev.get_inc, Dev.seen_keeps _ _ _ _ _ (by decide)]
      simp (disch := decide) only [Dev.puts_cons, Dev.puts_nil, Dev.get_put_id]
  · rw [show exec .safeExit s = execSafeExit s from rfl, execSafeExit_returns hc hst hheld hcap]
    obtain ⟨x, m, hsends⟩ := s.dev.safeExited_sends s.ctl.mode
    obtain ⟨hsafe, hquiet⟩ := s.dev.get_safeLeft
    refine ⟨_, rfl, rfl, ?_, ?_, ?_⟩
    · rw [hsends, Dev.get_stateEvent _ _ _ _ _ (by decide), hsafe]
    · rw [hsends, Dev.get_stateEvent _ _ _ _ _ (by decide), hquiet]
    · rw [hsends, Dev.stateEvent_desk]
      exact s.dev.safeLeft_exits
  · rw [show exec .lockupEntry s = execLockupEntry s from rfl, execLockupEntry_trig ha htrigs hst]
    obtain ⟨hlocked, hcount, hcapture, hdiscard⟩ := Dev.get_lockedUp s.dev
    refine ⟨_, rfl, rfl, rfl, ?_, ?_, ?_, fun h1 h2 => ?_, fun h1 h2 h3 => ?_⟩
    · rw [Dev.idled_desk, Dev.lockedUp_trigs]
    · rw [Dev.get_idled, hlocked]
    · rw [Dev.get_idled, hcount]
    · rw [Dev.get_idled, hcapture h1 h2]
    · rw [Dev.get_idled, Dev.get_idled]
      exact hdiscard h1 h2 h3
  · rw [show exec .captureComplete s = execCaptureComplete s from rfl, execCaptureComplete, State.aclk_awake ha,
      if_pos ⟨hst, Dev.on_of_get hcap⟩, hfrom]
    refine ⟨_, rfl, hfrom ▸ rfl, ?_, ?_, ?_, rfl, rfl⟩
    · simp (disch := decide) only [Dev.puts_cons, Dev.puts_nil, Dev.get_put_id, Dev.get_put]
      rfl
    · simp (disch := decide) only [Dev.puts_cons, Dev.puts_nil, Dev.get_put_id, Dev.get_put]
      rfl
    · simp (disch := decide) only [Dev.puts_cons, Dev.puts_nil, Dev.get_put]
      rfl
  · rw [show exec .autoRelease s = execAutoRelease s from rfl, execAutoRelease, State.aclk_awake ha,
      if_neg (by simp [Dev.not_on_of_get hcap, hauto]), State.askRelease, if_pos hst]
  · have hfree : (!(s.dev.on LCK_CFG.PIN_EN 0 && s.dev.on EVC_SB_MISC.LOCKUP 0)) = true := by
      rcases hpin with h | h <;> simp [Dev.not_on_of_get h]
    rw [show exec .lockupRelease s = execLockupRelease s from rfl, execLockupRelease, State.aclk_awake ha,
      if_pos ⟨hst, hrel, by simp [Dev.not_on_of_get hcap], hfree⟩, State.complexReset]
    have hstep := s.dev.unlock.get_restarted_step 3
    refine ⟨_, rfl, rfl, hstep.1, hstep.2, ?_, ?_, rfl⟩
    · refine (Dev.get_restarted _ 3 (by decide) (by decide) (by decide) (by decide) 0).trans ?_
      simp (disch := decide) only [Dev.unlock, Dev.puts_cons, Dev.puts_nil, Dev.get_put_id, Dev.get_put]
      rfl
    · refine (Dev.get_restarted _ 3 (by decide) (by decide) (by decide) (by decide) 0).trans ?_
      simp (disch := decide) only [Dev.unlock, Dev.puts_cons, Dev.puts_nil, Dev.get_put_id]
  · rw [show exec .lckSideTrigger s = execLckSideTrigger s from rfl, execLckSideTrigger, State.aclk_awake ha,
      State.trigger_enabled 4 hst hen, hd]
    exact ⟨rfl, Dev.askLockup_mem _ _, Dev.askLockup_f _ _⟩
  · rw [show exec .lckSideTrigger s = execLckSideTrigger s from rfl, execLckSideTrigger, State.aclk_awake ha,
      State.trigger_not 4 h]
  · rw [show exec .imprTrigger s = execImprTrigger s from rfl, execImprTrigger, State.aclk_awake ha,
      State.trigger_enabled 5 hst hen, hd]
    exact ⟨rfl, Dev.askLockup_mem _ _, Dev.askLockup_f _ _⟩
  · rw [show exec .imprTrigger s = execImprTrigger s from rfl, execImprTrigger, State.aclk_awake ha, State.trigger_not 5 h]
  · rw [show exec .lckSideRelease s = execLckSideRelease s from rfl, execLckSideRelease, State.aclk_awake ha, State.askRelease,
      if_pos hst]
  · rw [show exec .lckSideRelease s = execLckSideRelease s from rfl, execLckSideRelease, State.aclk_awake ha, State.askRelease,
      if_neg hst]
  · rw [show exec .imprRelease s = execImprRelease s from rfl, execImprRelease, State.aclk_awake ha, State.askRelease,
      if_pos hst]
  · rw [show exec .imprRelease s = execImprRelease s from rfl, execImprRelease, State.aclk_awake ha, State.askRelease,
      if_neg hst]
  · exact State.onIsland_awake ha fun _ d => d.put LCK_STATUS.VALID 0 0
  · exact State.onIsland_awake ha fun _ d => d.put LCK_STATUS.VALID 0 0
  · rw [show exec (.imprData (some a)) s = execImprData (some a) s from rfl, execImprData, State.aclk_awake ha]
    simp only [Dev.not_on_of_get hcap, Bool.false_eq_true, if_false]
  · rw [show exec (.imprData none) s = execImprData none s from rfl, execImprData, State.aclk_awake ha]
    simp only [Dev.not_on_of_get hcap, Bool.false_eq_true, if_false]
end
